-- ==== Sys2Proof/Word.lean ====
section
/-! DEFINITION. The words of the part: bytes, motion sets, binary angles and rolling counters. -/

namespace Sys2Proof

/-- One data byte of a frame (R194). -/
abbrev Byte := BitVec 8

/-- A motion set in one byte (R194): bit 0 BoomUp, 1 BoomDown, 2 ArmIn, 3 ArmOut, 4 BucketCurl,
5 BucketDump, 6 SlewLeft, 7 SlewRight. -/
abbrev MotionSet := BitVec 8

/-- A binary angle: units of 1/65,536 of a turn. -/
abbrev BinAngle := BitVec 16

/-- A rolling counter (R194). -/
abbrev Counter := BitVec 4

namespace MotionSet
def none : MotionSet := 0#8
def all : MotionSet := 0xFF#8
def boomUp : MotionSet := 0x01#8
def boomDown : MotionSet := 0x02#8
def armIn : MotionSet := 0x04#8
def armOut : MotionSet := 0x08#8
def bucketCurl : MotionSet := 0x10#8
def bucketDump : MotionSet := 0x20#8
def slewLeft : MotionSet := 0x40#8
def slewRight : MotionSet := 0x80#8
/-- Every motion of `a` is in `b`. -/
def subset (a b : MotionSet) : Bool := (a &&& b) == a
/-- `a` and `m` share a motion. -/
def meets (a m : MotionSet) : Bool := (a &&& m) != 0#8
end MotionSet

end Sys2Proof
end

