-- ==== Sys2Proof/Config.lean ====
section
/-! DEFINITION. The configuration of the part: the enumerations the image and the requests share, the
fields of the configuration image (R191), and the FREE VALUES, opaque constants without a body for
what the manual leaves open. -/

namespace Sys2Proof

/-- Kinds of envelope entry, in the order of R197's numbers. -/
inductive LimitKind where
  | slewCcwStop | slewCwStop | heightCeiling | depthFloor | reachWall
  deriving DecidableEq, Repr, Inhabited

/-- Actions of an envelope entry (R19), numbered as R197. -/
inductive LimitAction where
  | warn | slow | stop
  deriving DecidableEq, Repr, Inhabited

/-- Level needed to change an envelope entry (R19). -/
inductive OwnerLevel where
  | supervisor | technician
  deriving DecidableEq, Repr, Inhabited

/-- Warning latch mode (R19). -/
inductive LatchMode where
  | follow | latched
  deriving DecidableEq, Repr, Inhabited

/-- A slew sector (R24), counter-clockwise from `start` to `stop`, both included. -/
structure Scope where
  start : BinAngle
  stop : BinAngle
  deriving DecidableEq, Repr, Inhabited

/-- The configured fields of an envelope entry (R19). -/
structure LimitConfig where
  kind : LimitKind
  value : Int
  margin : Int
  action : LimitAction
  guarded : MotionSet
  scope : Option Scope
  owner : OwnerLevel
  latch : LatchMode
  deriving DecidableEq, Repr, Inhabited

/-- One entry of the limit area or of the image's initial limit set: the configured fields and the
enabled mark (R19, R40, R42). -/
structure StoredLimit where
  config : LimitConfig
  enabled : Bool
  deriving DecidableEq, Repr, Inhabited

/-- Roles of subscription entries (R156), in the rule's order. -/
inductive Role where
  | boomPos | armPos | bucketLink | slewPos | chassisTilt | engineRun | engineFuel | coolant
  | pump | pilot | valveCut | extCut | timeSync | request
  deriving DecidableEq, Repr, Inhabited

/-- The configured fields of a subscription entry (R156). A REQUEST entry's limits are not used. -/
structure SubConfig where
  topic : Nat
  station : Nat
  role : Role
  staleLimit : Nat
  lostLimit : Nat
  deriving DecidableEq, Repr, Inhabited

/-- The topic numbers of the ten publications (R160). With a bad image only STATUS and REPLY are present. -/
structure PubTopics where
  cutDemand : Option Nat
  guidance : Option Nat
  engineReq : Option Nat
  meters : Option Nat
  status : Option Nat
  notice : Option Nat
  reply : Option Nat
  spare0 : Option Nat
  spare1 : Option Nat
  spare2 : Option Nat
  deriving DecidableEq, Repr, Inhabited

/-- The five lengths of the linkage (R6). -/
structure Geometry where
  x0 : Int
  h0 : Int
  lb : Int
  la : Int
  lk : Int
  deriving DecidableEq, Repr, Inhabited

/-- The configured fields of a lookup descriptor and the image's fixed value (R12). -/
structure DescConfig where
  base : Nat
  limit : Nat
  origin : Int
  step : Nat
  fixedValue : Int
  deriving DecidableEq, Repr, Inhabited

/-- An Unused descriptor of fixed value 0 (R12): what stands in each place while no image gives one (DEDUCED,
log 33). -/
def DescConfig.unused : DescConfig := ⟨0, 0, 0, 1, 0⟩

/-- Economy parameters (R86). -/
structure EconomyParams where
  speedHeavy : Nat
  speedStandard : Nat
  speedEconomy : Nat
  pumpHeavy : Nat
  pumpStandard : Nat
  pumpEconomy : Nat
  slowLimit : Nat
  minimumPump : Nat
  idleFallback : Nat
  idleWait : Nat
  autoShutdown : Nat
  deriving DecidableEq, Repr, Inhabited

/-- What a time-match firing announces (R118). -/
inductive MatchPurpose where
  | shiftStart | reminderTime
  deriving DecidableEq, Repr, Inhabited

/-- A time-match entry (R118). Bit d of `days` is day of week d. -/
structure TimeMatch where
  minute : Nat
  hour : Nat
  days : BitVec 7
  purpose : MatchPurpose
  enabled : Bool
  deriving DecidableEq, Repr, Inhabited

/-- Class of a service item (R138). -/
inductive ItemClass where
  | routine | important | critical
  deriving DecidableEq, Repr, Inhabited

/-- The configured fields of a service item (R138). -/
structure ItemConfig where
  code : Nat
  cls : ItemClass
  basis : Option Nat
  meterInterval : Nat
  meterLead : Nat
  meterGrace : Nat
  dayInterval : Nat
  dayLead : Nat
  dayGrace : Nat
  reminder : Option Nat
  deriving DecidableEq, Repr, Inhabited

/-- The fields of a configuration image (R191). -/
structure ImageFields where
  subs : List SubConfig
  pubs : PubTopics
  geometry : Geometry
  descriptors : List DescConfig
  pool : List Int
  limits : List StoredLimit
  fineBand : Nat
  digThreshold : Nat
  economy : EconomyParams
  initialTrim : Int
  timeMatches : List TimeMatch
  workThreshold : Nat
  heavyThreshold : Nat
  items : List (Option ItemConfig)
  supervisorKey : BitVec 32
  technicianKey : BitVec 32
  deriving DecidableEq, Repr, Inhabited

/-- No topic at all: what the part has before a start builds any (R160). -/
def PubTopics.absent : PubTopics := ⟨none, none, none, none, none, none, none, none, none, none⟩

/-- What stands in place of a configuration while none is built: no tables, all numbers 0, both keys 0
(a key of 0 makes its level unobtainable, R192). DEDUCED, log 33. -/
def ImageFields.blank : ImageFields where
  subs := []
  pubs := .absent
  geometry := ⟨0, 0, 0, 0, 0⟩
  descriptors := []
  pool := []
  limits := []
  fineBand := 0
  digThreshold := 0
  economy := ⟨0, 0, 0, 0, 0, 0, 0, 0, 0, 0, 0⟩
  initialTrim := 0
  timeMatches := []
  workThreshold := 0
  heavyThreshold := 0
  items := []
  supervisorKey := 0
  technicianKey := 0

/-- The items of an image header (R191), read from the blocks 0 to 3. -/
structure ImageHeader where
  length : Nat
  format : Nat
  generation : BitVec 32
  checksum : BitVec 32
  deriving DecidableEq, Repr, Inhabited

/-- What the blocks of an image copy say when read as an image (R191): the header's items, whether the
checksum is correct, and the fields, absent when a coded field holds none of its values. -/
structure ImageView where
  length : Nat
  format : Nat
  generation : Nat
  checksumOk : Bool
  fields : Option ImageFields
  deriving DecidableEq, Repr, Inhabited

/-- A header is valid when length and format lie in range and the checksum is correct (R191). -/
def ImageView.headerValid (v : ImageView) : Bool :=
  decide (16 ≤ v.length) && decide (v.length ≤ 2048) && v.format == 1 && v.checksumOk

/-- A copy that holds no image: length 0. -/
def ImageView.blank : ImageView := ⟨0, 0, 0, false, none⟩

namespace Config

/-- FREE VALUE (log 8). The reading of the words of blocks 0 to 3 as a header: R191 names the items and not
their places. -/
opaque imageHeader : BitVec 32 → BitVec 32 → BitVec 32 → BitVec 32 → ImageHeader

/-- FREE VALUE (log 8). Whether a checksum is the correct one over the blocks of an image: R191 gives no rule
for it. -/
opaque imageChecksum : BitVec 32 → List (Nat × BitVec 32) → Bool

/-- FREE VALUE (log 8). The reading of the blocks of an image as its fields: R191 names the fields and not
their places. -/
opaque imageFields : List (Nat × BitVec 32) → Option ImageFields

/-- FREE VALUE (log 9). Which bytes of an image copy hold a key: R190 shows them as zero, and no rule
places them. -/
opaque imageKeyByte : Nat → Bool

/-- FREE VALUE (log 10). Whether the copy or slot being written keeps its old content when the write is
cut off (else it is left invalid): R128 allows both. -/
opaque cutOffKeepsOld : Nat → Bool

/-- FREE VALUE (log 10). The word a cut-off image-block write leaves. -/
opaque cutOffBlock : Nat → BitVec 32

/-- FREE VALUE (log 11). The generation that follows 4,294,967,295. -/
opaque generationAfterLast : Nat → BitVec 32

/-- FREE VALUE (log 12). The order in which a consumer takes the announcements of one clock count. -/
opaque announcementOrder : Nat → Nat

/-- FREE VALUE (log 13). Whether a raise announcement is taken before the pose update that completes a
cycle (R84). -/
opaque announcementFirst : Nat → Bool

/-- FREE VALUE (log 5). The crystal periods seen in one millisecond of elapsed time. -/
opaque crystalPeriods : Nat → Nat

/-- FREE VALUE (log 31). The tag a reply carries when the request's data end before its tag. -/
opaque missingTag : Nat → BitVec 8

/-- FREE VALUE (log 31). The request code a reply carries when the request's data hold no byte at all. -/
opaque missingCode : Nat → BitVec 8

/-- FREE VALUE (log 30). The 16 bits that READ returns for an age above 65,535 ms. -/
opaque ageBeyond : Nat → BitVec 16

/-- FREE VALUE (log 47). The configured fields of an envelope entry that a start with a bad image has not
restored. -/
opaque unrestoredLimit : Nat → LimitConfig

/-- FREE VALUE (log 17). The stop distance where the SLEW_STOP output is absent at a use of it; no run
from a start reaches such a state (R15, R22). -/
opaque absentStopDistance : Nat → BitVec 16

end Config

end Sys2Proof
end

