-- ==== Sys2Proof/Syntax.lean ====
section
/-! DEFINITION. The commands of the part: one constructor per row of spec/opcode_table.json, with the
row's operands. The part takes commands from outside: frames on its topics, expiries of its timers,
events of its lines and of its bus controller (95_what_each_step_holds.md). -/

namespace Sys2Proof

/-- A received frame (R194): byte 0, the header, and the data bytes after it. -/
structure Frame where
  header : Byte
  data : List Byte
  deriving DecidableEq, Repr

/-- A request frame as R167 takes it: the completed assembly of R196. `data` is D1 onward (D0, the
request code, is the command itself): the tag, then the arguments (log 6). -/
structure Request where
  station : Nat
  counter : Counter
  data : List Byte
  deriving DecidableEq, Repr

/-- The five pose-input roles (R1). -/
inductive PoseRole where
  | boomPos | armPos | bucketLink | slewPos | chassisTilt
  deriving DecidableEq, Repr

def PoseRole.role : PoseRole → Role
  | .boomPos => .boomPos
  | .armPos => .armPos
  | .bucketLink => .bucketLink
  | .slewPos => .slewPos
  | .chassisTilt => .chassisTilt

/-- The commands, in the order of the table. -/
inductive Instr where
  | read (r : Request)
  | key (r : Request)
  | restart (r : Request)
  | clearFaults (r : Request)
  | writeImage (r : Request)
  | ackWarning (r : Request)
  | teachLimit (r : Request)
  | setLimit (r : Request)
  | enableLimit (r : Request)
  | disableLimit (r : Request)
  | release (r : Request)
  | override (r : Request)
  | resume (r : Request)
  | benchmark (r : Request)
  | setGrade (r : Request)
  | powerMode (r : Request)
  | tableRecall (r : Request)
  | setClock (r : Request)
  | setTrim (r : Request)
  | setMeter (r : Request)
  | serviceDone (r : Request)
  | ackReminder (r : Request)
  /-- `code` is absent when the request's data hold no byte at all. -/
  | unknownRequestCode (code : Option Byte) (r : Request)
  | requestFragment (station : Nat) (f : Frame)
  | poseInputArrival (role : PoseRole) (f : Frame)
  | engineRun (f : Frame)
  | engineFuel (f : Frame)
  | coolant (f : Frame)
  | pump (f : Frame)
  | pilot (f : Frame)
  | valveCut (f : Frame)
  | extCut (station : Nat) (f : Frame)
  | timeSync (f : Frame)
  | topicClash (topic : Nat)
  | staleLimitPassed (entry : Nat)
  | lostLimitPassed (entry : Nat)
  | degradedTimerExpiry
  | confirmTimerExpiry
  | overrideTimerExpiry (sequence : Nat)
  | stageTimerExpiry
  | waitTimerExpiry
  | shutdownTimerExpiry
  | resumeTimerExpiry
  | grantExpiry (station : Nat)
  | lockoutExpiry (station : Nat)
  | cutDemandPeriod
  | guidancePeriod
  | engineReqPeriod
  | metersPeriod
  | statusPeriod
  | clockCount
  | oscillatorStop
  | oscillatorRestart
  | supplyDrop
  | detectorRearm
  | storeWriteComplete
  | frameTransmitted
  /-- `error`: the attempt ended by an error, else by lost arbitration (R162, R165). -/
  | transmitAttemptFailed (error : Bool)
  | busOff
  | busRecovery
  /-- KEYON's level and the straps' reading as the keep-alive supply appears (log 40). -/
  | batteryConnect (keyOn : Bool) (straps : BitVec 5)
  | keepAliveSupplyLoss
  | mainSupplyLoss
  /-- The straps' reading as KEYON is asserted (log 40). -/
  | keyOn (straps : BitVec 5)
  | keyOff
  | shutdownComplete
  | restartBegin
  | listenEnd
  deriving DecidableEq, Repr

end Sys2Proof
end

