-- ==== Sys2Proof/WellFormed.lean ====
section
/-! DEFINITION. Which commands can stand on the part's bus and lines: the sizes of frames, series and
addresses. The machine gives every command a meaning, well-formed or not. -/

namespace Sys2Proof

/-- A classic frame carries at most eight data bytes, byte 0 the header among them (12, opening; R194). -/
def Frame.wellFormed (f : Frame) : Bool := decide (f.data.length ≤ 7)

/-- Station numbers are 1..31 (00_scope.md). -/
def stationWellFormed (n : Nat) : Bool := decide (1 ≤ n) && decide (n ≤ 31)

/-- A series has at most eight frames of seven data bytes (R196), D0 among them. -/
def Request.wellFormed (r : Request) : Bool :=
  stationWellFormed r.station && decide (r.data.length ≤ 55)

/-- A code names a request when it is 1..22 (R197). -/
def requestCodeKnown (code : Byte) : Bool := decide (1 ≤ code.toNat) && decide (code.toNat ≤ 22)

def Instr.wellFormed : Instr → Bool
  | .read r | .key r | .restart r | .clearFaults r | .writeImage r | .ackWarning r | .teachLimit r
  | .setLimit r | .enableLimit r | .disableLimit r | .release r | .override r | .resume r
  | .benchmark r | .setGrade r | .powerMode r | .tableRecall r | .setClock r | .setTrim r
  | .setMeter r | .serviceDone r | .ackReminder r => r.wellFormed
  | .unknownRequestCode code r =>
      r.wellFormed &&
        match code with
        | none => r.data.isEmpty
        | some c => !requestCodeKnown c
  | .requestFragment station f => stationWellFormed station && f.wellFormed
  | .poseInputArrival _ f | .engineRun f | .engineFuel f | .coolant f | .pump f | .pilot f
  | .valveCut f | .timeSync f => f.wellFormed
  | .extCut station f => stationWellFormed station && f.wellFormed
  | .topicClash topic => decide (topic ≤ 2047)
  | .staleLimitPassed entry | .lostLimitPassed entry => decide (entry < 40)
  | .overrideTimerExpiry sequence => decide (1 ≤ sequence) && decide (sequence ≤ 65535)
  | .grantExpiry station | .lockoutExpiry station => stationWellFormed station
  | .degradedTimerExpiry | .confirmTimerExpiry | .stageTimerExpiry | .waitTimerExpiry
  | .shutdownTimerExpiry | .resumeTimerExpiry | .cutDemandPeriod | .guidancePeriod
  | .engineReqPeriod | .metersPeriod | .statusPeriod | .clockCount | .oscillatorStop
  | .oscillatorRestart | .supplyDrop | .detectorRearm | .storeWriteComplete | .frameTransmitted
  | .transmitAttemptFailed _ | .busOff | .busRecovery | .batteryConnect _ _
  | .keepAliveSupplyLoss | .mainSupplyLoss | .keyOn _ | .keyOff | .shutdownComplete
  | .restartBegin | .listenEnd => true

end Sys2Proof
end

