-- ==== Sys2Proof/Machine/State.lean ====
section
/-! DEFINITION. The state of the LJ-640: the thirteen blocks, the power state and lines, the nonvolatile
array, and the queue of commands that wait. Every field is plain data. Times are milliseconds of the
part's elapsed time base (`State.now`, R113); a timer is absent while stopped and holds its expiry while
it runs. -/

namespace Sys2Proof.Machine

/-! ## Calendar -/

/-- A date 2000-01-01..2099-12-31. -/
structure Date where
  date : Nat
  month : Nat
  year : Nat
  deriving DecidableEq, Repr, Inhabited

/-- The seven clock fields, in the order of the TIME_SYNC payload (R108, R195). -/
structure ClockTime where
  second : Nat
  minute : Nat
  hour : Nat
  dayOfWeek : Nat
  date : Nat
  month : Nat
  year : Nat
  deriving DecidableEq, Repr, Inhabited

def ClockTime.day (t : ClockTime) : Date := ⟨t.date, t.month, t.year⟩

/-! ## Topic Map (R156, R167, R196) -/

/-- An input payload within its ranges (R195). -/
inductive Payload where
  | boomPos (angle : Int)
  | armPos (angle : Int)
  | bucketLink (stroke : Int)
  | slewPos (angle : BinAngle) (rate : Int)
  | chassisTilt (pitch roll : Int)
  | engineRun (running : Bool) (speed : Nat)
  | engineFuel (rate : Nat)
  | coolant (temperature : Int)
  | pump (pressure : Nat)
  | pilot (motions : MotionSet) (travel : Bool)
  | valveCut (echo : BitVec 8) (applied : MotionSet)
  | extCut (requested : MotionSet)
  | timeSync (time : ClockTime)
  deriving DecidableEq, Repr

/-- Standing of a subscription entry (R156). -/
inductive EntryState where
  | never | recovering | fresh | stale | lost
  deriving DecidableEq, Repr

/-- The assembly of a REQUEST entry (R196): the counter, the data so far, the frame number expected. -/
structure Assembly where
  counter : Counter
  data : List Byte
  next : Nat
  deriving DecidableEq, Repr

/-- A subscription entry (R156) with the request fields of R167 and the assembly of R196. `ageFrom` is
the time the age counts from. -/
structure SubEntry where
  config : SubConfig
  payload : Option Payload
  counter : Option Counter
  ageFrom : Nat
  state : EntryState
  run : Nat
  gaps : Nat
  inFlight : Option Counter
  stored : Option (List Byte)
  assembly : Option Assembly
  deriving DecidableEq, Repr

/-- A subscription entry's values at start (R156, R167, R196). -/
def SubEntry.atStart (c : SubConfig) : SubEntry :=
  ⟨c, none, none, 0, .never, 0, 0, none, none, none⟩

/-! ## Bus Interface Unit (R160 to R165) -/

/-- The five cyclic publications (R160). -/
inductive CyclicPub where
  | cutDemand | guidance | engineReq | meters | status
  deriving DecidableEq, Repr

/-- A content of a cyclic place, with its placement number (R161). -/
structure Placed where
  number : Nat
  data : List Byte
  deriving DecidableEq, Repr

/-- A cyclic place (R161, R196): what the place holds, the content with the controller or in a series
begun, how many of its frames have been transmitted, the last placement number given, the counter the
topic's next frame carries (R160), and when the publication's next period falls. -/
structure CyclicPlace where
  held : Option Placed
  sending : Option Placed
  framesSent : Nat
  lastNumber : Nat
  counter : Counter
  due : Nat
  deriving DecidableEq, Repr

def CyclicPlace.atStart : CyclicPlace := ⟨none, none, 0, 0, 0, 0⟩

/-- A member of the event ring (R162, R163): a REPLY or a NOTICE, its data, the placement number its
fence records, and how many of its frames have been transmitted. `id` names it while it is listed. -/
structure RingFrame where
  id : Nat
  reply : Bool
  data : List Byte
  fence : Option Nat
  framesSent : Nat
  deriving DecidableEq, Repr

/-- What the controller holds (R162). -/
inductive Holder where
  | cyclic (p : CyclicPub)
  | ring (id : Nat)
  deriving DecidableEq, Repr

/-- Bus states (R165). -/
inductive BusState where
  | online | busOff | silent
  deriving DecidableEq, Repr

structure Biu where
  topics : PubTopics
  cutDemand : CyclicPlace
  guidance : CyclicPlace
  engineReq : CyclicPlace
  meters : CyclicPlace
  status : CyclicPlace
  noticeCounter : Counter
  replyCounter : Counter
  ring : List RingFrame
  nextId : Nat
  controller : Option Holder
  busState : BusState
  busOffCount : Nat
  txErrors : Nat
  repliesDropped : Nat
  deriving DecidableEq, Repr

/-- The BIU's values at start (R160 to R165). -/
def Biu.atStart : Biu where
  topics := .absent
  cutDemand := .atStart
  guidance := .atStart
  engineReq := .atStart
  meters := .atStart
  status := .atStart
  noticeCounter := 0
  replyCounter := 0
  ring := []
  nextId := 0
  controller := none
  busState := .online
  busOffCount := 0
  txErrors := 0
  repliesDropped := 0

/-! ## Pose Unit (R7, R12) -/

inductive PoseQuality where
  | valid | degraded | invalid
  deriving DecidableEq, Repr

structure PoseRecord where
  reach : Int
  tip : Int
  top : Int
  slewAngle : BinAngle
  slewRate : Int
  tipAngle : Int
  quality : PoseQuality
  updates : BitVec 16
  deriving DecidableEq, Repr

/-- A lookup descriptor (R12): configured fields, and recall, fixed value, held output, Clamped. -/
structure Descriptor where
  config : DescConfig
  enabled : Bool
  fixedValue : Int
  held : Option Int
  clamped : Bool
  deriving DecidableEq, Repr

/-- A descriptor's values at start (R12). -/
def Descriptor.atStart (c : DescConfig) : Descriptor := ⟨c, true, c.fixedValue, none, false⟩

structure PoseUnit where
  pose : PoseRecord
  degradedTimer : Option Nat
  latch : Bool
  descriptors : List Descriptor
  deriving DecidableEq, Repr

/-- The Pose Unit's values at start (R7, R12); a good image replaces the Unused descriptors. -/
def PoseUnit.atStart : PoseUnit :=
  ⟨⟨0, 0, 0, 0, 0, 0, .invalid, 0⟩, none, false, List.replicate 6 (.atStart .unused)⟩

/-! ## Envelope Unit (R19) -/

inductive LimitState where
  | disabled | pending | clear | approach | breach
  deriving DecidableEq, Repr

inductive BreachCause where
  | breach | predictedBreach
  deriving DecidableEq, Repr

inductive WarnEvent where
  | approach | breach | pending
  deriving DecidableEq, Repr

/-- A warning notice (R32). -/
structure WarnNotice where
  index : Nat
  kind : LimitKind
  event : WarnEvent
  clearance : Int
  updates : BitVec 16
  deriving DecidableEq, Repr

structure LimitEntry where
  config : LimitConfig
  state : LimitState
  warning : Bool
  last : Option Int
  cause : Option BreachCause
  owed : Option WarnNotice
  deriving DecidableEq, Repr

/-! ## Intervention Unit (R43, R57) -/

inductive RecordKind where
  | limitStop | limitSlow | sensorLoss | externalStop
  deriving DecidableEq, Repr

inductive RecordCause where
  | breach | predictedBreach | poseInvalid | externalRequest | externalSilent
  deriving DecidableEq, Repr

inductive RecordState where
  | raised | confirmed | clearable | overridden
  deriving DecidableEq, Repr

structure Snapshot where
  reach : Int
  tip : Int
  slewAngle : BinAngle
  quality : PoseQuality
  deriving DecidableEq, Repr

/-- An intervention record (R43). `timerRuns` says whether the override timer still runs (R63). -/
structure Record where
  seq : Nat
  kind : RecordKind
  source : Option Nat
  cause : RecordCause
  blocked : MotionSet
  snapshot : Snapshot
  state : RecordState
  breachGone : Bool
  owed : Bool
  expiry : Option Nat
  timerRuns : Bool
  deriving DecidableEq, Repr

inductive Supervision where
  | settled | awaiting | faulted | hold
  deriving DecidableEq, Repr

structure InterventionUnit where
  list : List Record
  lastSeq : Nat
  cutSet : MotionSet
  slowSet : MotionSet
  demandSeq : BitVec 8
  supervision : Supervision
  confirmTimer : Option Nat
  confirmed : Bool
  holdAt : Option Nat
  deriving DecidableEq, Repr

/-- Start values (R43, R44, R55 to R57). -/
def InterventionUnit.atStart : InterventionUnit :=
  ⟨[], 0, MotionSet.none, MotionSet.none, 0, .settled, none, true, none⟩

/-! ## Guidance Unit (R70) -/

/-- A segment of the grade profile (R73). -/
structure Segment where
  reachFrom : Int
  reachTo : Int
  height : Int
  slope : Int
  deriving DecidableEq, Repr

inductive ScanResult where
  | found (index : Nat)
  | offProfile
  | inGap
  | noProfile
  deriving DecidableEq, Repr

/-- Reason codes of R77. -/
inductive Reason where
  | none | poseInvalid | poseDegraded | noBenchmark | noProfile | offProfile | inGap
  deriving DecidableEq, Repr

inductive Band where
  | above | onGrade | below
  deriving DecidableEq, Repr

/-- The nearest depth floor of the guidance result (R78). -/
structure Floor where
  index : Nat
  clearance : Int
  state : LimitState
  warning : Bool
  deriving DecidableEq, Repr

structure GuidanceResult where
  reason : Reason
  tipError : Option Int
  band : Option Band
  segment : Option Nat
  height : Option Int
  floor : Option Floor
  deriving DecidableEq, Repr

inductive Detector where
  | idle | digging | swingLoaded | dumping | returning
  deriving DecidableEq, Repr

inductive CycleOutcome where
  | none | completed | timedOut | abandoned
  deriving DecidableEq, Repr

structure GuidanceUnit where
  benchmark : Option Int
  profile : List (Option Segment)
  scanIndex : Nat
  previousReach : Option Int
  scan : ScanResult
  result : GuidanceResult
  detector : Detector
  digAngle : Option BinAngle
  stageTimer : Option Nat
  outcome : CycleOutcome
  deriving DecidableEq, Repr

/-- Start values (R70) over a profile of cleared places. -/
def GuidanceUnit.atStart : GuidanceUnit where
  benchmark := none
  profile := List.replicate 8 none
  scanIndex := 0
  previousReach := none
  scan := .noProfile
  result := ⟨.poseInvalid, none, none, none, none, none⟩
  detector := .idle
  digAngle := none
  stageTimer := none
  outcome := .none

/-! ## Economy Unit (R87, R90, R102 to R106) -/

inductive PowerMode where
  | heavy | standard | economy
  deriving DecidableEq, Repr

/-- The mode in force (R87). -/
inductive ModeInForce where
  | heavy | standard | economy | idle
  deriving DecidableEq, Repr

inductive EconomyState where
  | stopped | working | idleWait | idling | resuming | shutdownPending | held | forced
  deriving DecidableEq, Repr

/-- A day record (R104). -/
structure DayRecord where
  date : Option Date
  engineSeconds : Nat
  fuel : Nat
  idleFuel : Nat
  cycles : Nat
  interventions : Nat
  clockSet : Bool
  deriving DecidableEq, Repr

def DayRecord.opened (d : Option Date) : DayRecord := ⟨d, 0, 0, 0, 0, 0, false⟩

/-- The shift totals (R103). -/
structure ShiftTotals where
  fuel : Nat
  idleFuel : Nat
  engineSeconds : Nat
  deriving DecidableEq, Repr

/-- What the day-record area holds (R106). -/
structure DayArea where
  ring : List DayRecord
  opened : DayRecord
  shift : ShiftTotals
  deriving DecidableEq, Repr

structure EconomyUnit where
  requested : PowerMode
  state : EconomyState
  waitTimer : Option Nat
  shutdownTimer : Option Nat
  resumeTimer : Option Nat
  fuelFrom : Option Nat
  residue : Nat
  days : DayArea
  lifetime : Nat
  writePending : Bool
  deriving DecidableEq, Repr

/-- A day-record area that no start has restored: an empty ring, an undated open record, shift totals of 0. It
stands at reset, and in Limp with a bad image, where R183 restores the checkpoint ring alone (DEDUCED, log 54). -/
def DayArea.blank : DayArea := ⟨[], .opened none, ⟨0, 0, 0⟩⟩

/-- Start values (R87, R90, R102, R106); the day-record area as no start has restored it (log 54). -/
def EconomyUnit.atStart : EconomyUnit :=
  ⟨.standard, .stopped, none, none, none, none, 0, .blank, 0, false⟩

/-! ## Time Base (R108) -/

inductive UnsetCause where
  | batteryConnect | oscillatorStop
  deriving DecidableEq, Repr

inductive SetSource where
  | none | setClock | timeSync
  deriving DecidableEq, Repr

/-- The latest set (R108, R115). -/
structure LastSet where
  source : SetSource
  step : Option Int
  time : Option ClockTime
  deriving DecidableEq, Repr

/-- The Time Base (R108). `unsetCause` present is the clock state Unset, absent is Running. `length` is
the length of the present second in crystal periods (R110). `carried` is the model's own: the periods of the
elapsed time that the prescaler has not yet counted, since a count falls inside their millisecond (log 5). -/
structure TimeBase where
  clock : ClockTime
  prescaler : Nat
  carried : Nat
  length : Nat
  unsetCause : Option UnsetCause
  stopped : Bool
  trim : Int
  trimLoaded : Bool
  lastSet : LastSet
  timeMatches : List TimeMatch
  deriving DecidableEq, Repr

/-- 2000-01-01 00:00:00, Saturday (R108). -/
def ClockTime.origin : ClockTime := ⟨0, 0, 0, 6, 1, 1, 2000⟩

/-- The values of a battery connect (R108). -/
def TimeBase.atBatteryConnect : TimeBase :=
  ⟨.origin, 0, 0, 32768, some .batteryConnect, false, 0, false, ⟨.none, none, none⟩, []⟩

/-! ## Meter Unit (R121, R128, R129) -/

structure TimeMeter where
  hours : Nat
  seconds : Nat
  deriving DecidableEq, Repr

/-- The eight meters (R121): time meters 0 to 6, then Cycles. -/
structure Meters where
  times : List TimeMeter
  cycles : Nat
  deriving DecidableEq, Repr

/-- A meter's value (R121). -/
inductive MeterValue where
  | time (hours seconds : Nat)
  | count (n : Nat)
  deriving DecidableEq, Repr

/-- The content of a checkpoint (R128). -/
structure Checkpoint where
  sequence : Nat
  meters : Meters
  lifetime : Nat
  deriving DecidableEq, Repr

inductive JobState where
  | none | queued | inFlight
  deriving DecidableEq, Repr

inductive PendingMark where
  | clear | set | setUrgent
  deriving DecidableEq, Repr

/-- A request taken and not yet answered: whose reply waits, and the index its Done reply names. -/
structure Ticket where
  station : Nat
  counter : Counter
  code : Byte
  tag : Byte
  index : Nat
  deriving DecidableEq, Repr

/-- A SET_METER that waits on a checkpoint (R129): on the pending one, or on the present job. -/
structure Waiter where
  ticket : Ticket
  onPending : Bool
  deriving DecidableEq, Repr

structure MeterUnit where
  meters : Meters
  sequence : Nat
  job : JobState
  snapshot : Option Checkpoint
  pending : PendingMark
  waiters : List Waiter
  periodic : Nat
  lastCompleted : Option Nat
  keyOffTaken : Bool
  deriving DecidableEq, Repr

def Meters.zero : Meters := ⟨List.replicate 7 ⟨0, 0⟩, 0⟩

/-- Start values (R129), before the restore. -/
def MeterUnit.atStart : MeterUnit :=
  ⟨.zero, 0, .none, none, .clear, [], 0, none, false⟩

/-! ## Service Unit (R138, R139, R151) -/

inductive Standing where
  | ok | dueSoon | due | overdue
  deriving DecidableEq, Repr

inductive ServiceNoticeKind where
  | rise | reminder
  deriving DecidableEq, Repr

/-- An in-use service item (R138, R139). Its state is the higher of the standings. -/
structure ServiceItem where
  config : ItemConfig
  lastMeter : Option MeterValue
  lastDate : Option Date
  meterStanding : Standing
  dayStanding : Standing
  acknowledged : Bool
  owed : Option ServiceNoticeKind
  deriving DecidableEq, Repr

/-- What the service-state area holds of one in-use place (R152). -/
structure StoredItem where
  code : Nat
  basis : Option Nat
  lastMeter : Option MeterValue
  lastDate : Option Date
  meterStanding : Standing
  dayStanding : Standing
  deriving DecidableEq, Repr

/-- An entry of the history ring (R151). -/
structure HistoryEntry where
  item : Nat
  code : Nat
  basis : Option Nat
  meter : Option MeterValue
  date : Option Date
  station : Nat
  deriving DecidableEq, Repr

structure ServiceUnit where
  items : List (Option ServiceItem)
  history : List HistoryEntry
  derate : Bool
  writePending : Bool
  deriving DecidableEq, Repr

/-- Every place Unused, the ring empty, the flags clear (R149, R152, R154). -/
def ServiceUnit.atStart : ServiceUnit := ⟨List.replicate 24 none, [], false, false⟩

/-! ## Diagnostic List (R173, R174) -/

/-- Fault codes (R174), numbered 1 to 21 in this order. -/
inductive FaultCode where
  | poseTimeout | tableClamped | limitAreaLost | sequenceExhausted | cutUnconfirmed | valveSilent
  | gradeAreaLost | dayAreaLost | oscillatorStop | clockUnset | clockStep | meterLoss
  | checkpointExhausted | serviceAreaLost | historyAreaLost | topicLost | busOff | busSilent
  | topicClash | imageBad | strapFault
  deriving DecidableEq, Repr

/-- Fault sources by their numbers (R174): blocks 0..13, descriptors, topics, stations. -/
inductive FaultSource where
  | block (n : Nat)
  | descriptor (n : Nat)
  | topic (n : Nat)
  | station (n : Nat)
  deriving DecidableEq, Repr

structure FaultEntry where
  code : FaultCode
  source : FaultSource
  active : Bool
  occurrences : Nat
  firstTime : Option ClockTime
  lastTime : Option ClockTime
  deriving DecidableEq, Repr

/-- Severities and attention levels (R174, R178). -/
inductive Attention where
  | none | advisory | warning | serious
  deriving DecidableEq, Repr

/-- The list (R173). `unentered` names the conditions that blocks hold unentered (R177); the unentered
count is their number, at most 255. -/
structure DiagnosticList where
  entries : List FaultEntry
  unentered : List (FaultCode × FaultSource)
  attention : Attention
  deriving DecidableEq, Repr

def DiagnosticList.empty : DiagnosticList := ⟨[], [], .none⟩

/-! ## Parameter Store (R187, R188) -/

/-- A store job (R188) with the requests that wait on it. -/
inductive Job where
  | imageBlock (block : Nat) (word : BitVec 32) (ticket : Ticket)
  | checkpoint
  | gradeProfile (waiters : List Ticket)
  | limitArea (waiters : List Ticket)
  | history (waiters : List Ticket)
  | serviceState (waiters : List Ticket)
  | dayRecords
  deriving DecidableEq, Repr

/-- What a write in flight carries: the area as it stood when the write began. -/
inductive Content where
  | imageBlock (block : Nat) (word : BitVec 32)
  | checkpoint (c : Checkpoint)
  | gradeProfile (places : List (Option Segment))
  | limitArea (entries : List StoredLimit)
  | history (entries : List HistoryEntry)
  | serviceState (items : List (Option StoredItem))
  | dayRecords (area : DayArea)
  deriving DecidableEq, Repr

/-- The write in flight: its job, its content and when it completes. -/
structure Writing where
  job : Job
  content : Content
  ends : Nat
  deriving DecidableEq, Repr

/-- One copy of an area: whether its checksum is correct, its generation, its content (R187). -/
structure Copy (α : Type) where
  checksumOk : Bool
  generation : Nat
  content : α
  deriving DecidableEq, Repr

/-- The two copies of an area, numbered 0 and 1 (R187). -/
structure Area (α : Type) where
  copy0 : Copy α
  copy1 : Copy α
  deriving DecidableEq, Repr

def Area.blank {α : Type} (x : α) : Area α := ⟨⟨false, 0, x⟩, ⟨false, 0, x⟩⟩

/-- One slot of the checkpoint ring (R128). -/
structure Slot where
  checksumOk : Bool
  content : Checkpoint
  deriving DecidableEq, Repr

/-- One copy of the image: its blocks, as sorted (block number, word) pairs without zero words, and their
reading as an image (log 8). -/
structure ImageCopy where
  blocks : List (Nat × BitVec 32)
  view : ImageView
  deriving DecidableEq, Repr

/-- The store. `staging` is the image copy that WRITE_IMAGE writes, chosen with the image in force at each
start (R183, R187): false is copy 0, true is copy 1. -/
structure ParameterStore where
  queue : List Job
  writing : Option Writing
  image0 : ImageCopy
  image1 : ImageCopy
  staging : Bool
  limits : Area (List StoredLimit)
  grade : Area (List (Option Segment))
  slots : List Slot
  service : Area (List (Option StoredItem))
  history : Area (List HistoryEntry)
  days : Area DayArea
  deriving DecidableEq, Repr

/-- An array nothing has been programmed into (log 7). -/
def ParameterStore.blank : ParameterStore where
  queue := []
  writing := none
  image0 := ⟨[], .blank⟩
  image1 := ⟨[], .blank⟩
  staging := false
  limits := .blank []
  grade := .blank []
  slots := List.replicate 8 ⟨false, ⟨0, .zero, 0⟩⟩
  service := .blank []
  history := .blank []
  days := .blank .blank

/-! ## Access Table (R192) -/

/-- Access levels (00_scope.md). -/
inductive Level where
  | operator | supervisor | technician
  deriving DecidableEq, Repr

/-- A grant entry (R192); `level` absent is no grant. -/
structure Grant where
  station : Option Nat
  level : Option OwnerLevel
  expiry : Option Nat
  failures : Nat
  lockout : Option Nat
  deriving DecidableEq, Repr

def Grant.empty : Grant := ⟨none, none, none, 0, none⟩

/-! ## Power and lines (R181 to R186) -/

inductive PowerState where
  | off | keepAlive | startUp | running | limp
  deriving DecidableEq, Repr

inductive LimpCause where
  | imageBad | strapFault | topicClash
  deriving DecidableEq, Repr

/-- The lines of the part other than the bus, the supplies and the crystal (00_scope.md). -/
structure Pins where
  keyOn : Bool
  straps : BitVec 5
  cutout : Bool
  deriving DecidableEq, Repr

/-- A RESTART that waits to start (R186): the stations that asked, the time 200 ms after the first
request, the ring frames that carry its Done reply (a repeat queues it again), and whether one of them
has been transmitted. -/
structure RestartWait where
  stations : List Nat
  deadline : Nat
  replyIds : List Nat
  replySent : Bool
  deriving DecidableEq, Repr

/-! ## The whole part -/

/-- Faults that stop the machine: there are none. Every command of the table has an effect the manual
gives, and a fault of the manual is an entry of the Diagnostic List, which is State. -/
inductive Fault where
  deriving DecidableEq, Repr

/-- Refusals. -/
inductive Refusal where
  /-- Answered by exec's arm of a command without a meaning yet; safe. No arm answers it. -/
  | notModelled (mnemonic : String)
  deriving DecidableEq, Repr

structure State where
  now : Nat
  freeCount : Nat
  power : PowerState
  limpCause : Option LimpCause
  station : Nat
  pins : Pins
  keyOffHeld : Bool
  listenEnds : Option Nat
  restart : Option RestartWait
  detectorArmed : Bool
  config : ImageFields
  imageGood : Bool
  topics : List SubEntry
  bus : Biu
  pose : PoseUnit
  limits : List LimitEntry
  intervention : InterventionUnit
  guidance : GuidanceUnit
  economy : EconomyUnit
  time : TimeBase
  meter : MeterUnit
  service : ServiceUnit
  diag : DiagnosticList
  store : ParameterStore
  access : List Grant
  pending : List Instr
  deriving DecidableEq, Repr

/-- The part in Off, before its first battery connect, over an array nothing has been programmed into
(DESIGN CHOICE, log 7). -/
def State.reset : State where
  now := 0
  freeCount := 0
  power := .off
  limpCause := none
  station := 0
  pins := ⟨false, 1, false⟩
  keyOffHeld := false
  listenEnds := none
  restart := none
  detectorArmed := true
  config := .blank
  imageGood := false
  topics := []
  bus := .atStart
  pose := .atStart
  limits := []
  intervention := .atStart
  guidance := .atStart
  economy := .atStart
  time := .atBatteryConnect
  meter := .atStart
  service := .atStart
  diag := .empty
  store := .blank
  access := List.replicate 4 .empty
  pending := []

end Sys2Proof.Machine
end

