-- ==== Sys2Proof/Machine/Ops.lean ====
section
/-! DEFINITION. Named operations every block shares: rounding, sines and cosines, byte strings, lookups of
places by index, the calendar, permutations for free orders, elapsed time. -/

namespace Sys2Proof.Machine

/-! ## Arithmetic -/

/-- `n / d` to the nearest whole unit, halves away from zero (the rounding of R4, R14, R73). -/
def roundDiv (n : Int) (d : Nat) : Int :=
  let q : Int := Int.ofNat ((2 * n.natAbs + d) / (2 * d))
  if n < 0 then -q else q

/-- `n` limited to `lo..hi`. -/
def clampInt (lo hi n : Int) : Int := if n < lo then lo else if hi < n then hi else n

/-- `n` added to `a`, saturating at `top`. -/
def satAdd (top a n : Nat) : Nat := if top < a + n then top else a + n

/-- The unit of fixed-point numbers: 2^256. -/
def fixUnit : Nat := 2 ^ 256

/-- A whole turn in radians, in units of 2^-256. -/
def fixTurn : Nat :=
  727543153783532648560469885555459725306786754656784859917544302235877788932370

/-- Sum of a sine or cosine series: `t` is the present term, of order `k`; each next term is
`-t·x²/((k+1)(k+2))`. -/
def fixSeries (x2 : Int) : Nat → Nat → Int → Int → Int
  | 0, _, _, acc => acc
  | fuel + 1, k, t, acc =>
      let t' := -((t * x2 / fixUnit) / ((k + 1) * (k + 2) : Nat))
      fixSeries x2 fuel (k + 2) t' (acc + t')

/-- The angle `n/d` of a turn in fixed-point radians, brought into half a turn either side of 0. -/
def fixAngle (n : Int) (d : Nat) : Int :=
  let r := n % d
  let c := if (d : Int) < 2 * r then r - d else r
  c * fixTurn / d

/-- Cosine of `n/d` of a turn, in units of 2^-256. -/
def fixCos (n : Int) (d : Nat) : Int :=
  let x := fixAngle n d
  fixSeries (x * x / fixUnit) 48 0 fixUnit fixUnit

/-- Sine of `n/d` of a turn, in units of 2^-256. -/
def fixSin (n : Int) (d : Nat) : Int :=
  let x := fixAngle n d
  fixSeries (x * x / fixUnit) 48 1 x x

/-- A fixed-point number to the nearest whole unit, halves away from zero. A number closer to a half than
2^-200 counts as that half (UNVERIFIED, log 15). -/
def roundFix (v : Int) : Int :=
  let q : Int := Int.ofNat ((v.natAbs + fixUnit / 2 + 2 ^ 56) / fixUnit)
  if v < 0 then -q else q

/-- Cosine and sine of an angle in hundredths of a degree. -/
def cosCentidegrees (a : Int) : Int := fixCos a 36000
def sinCentidegrees (a : Int) : Int := fixSin a 36000

/-- The signed difference of two binary angles, -32,768..+32,767 (R23). -/
def signedDiff (a b : BinAngle) : Int := (a - b).toInt

/-! ## Byte strings (R194, R200) -/

/-- The low `k` bytes of `n`, least significant first, two's complement. -/
def le : Nat → Int → List Byte
  | 0, _ => []
  | k + 1, n => BitVec.ofInt 8 n :: le k (n / 256)

def byte (n : Nat) : Byte := BitVec.ofNat 8 n
def flagByte (b : Bool) : Byte := if b then 1#8 else 0#8

/-- A signed 16-bit field, 0x8000 when absent (R194). -/
def signed16 : Option Int → List Byte
  | some n => le 2 n
  | none => [0x00#8, 0x80#8]

/-- A signed 24-bit field, 0x800000 when absent (R194). -/
def signed24 : Option Int → List Byte
  | some n => le 3 n
  | none => [0x00#8, 0x00#8, 0x80#8]

/-- An index or station byte, 0xFF when absent (R194). -/
def indexByte : Option Nat → Byte
  | some n => byte n
  | none => 0xFF#8

/-- A field without an absent encoding of its own: a presence byte before `width` bytes (R200). -/
def presence (width : Nat) : Option (List Byte) → List Byte
  | some bs => 1#8 :: bs
  | none => 0#8 :: List.replicate width 0#8

def u16 (b0 b1 : Byte) : Nat := b0.toNat + 256 * b1.toNat
def s16 (b0 b1 : Byte) : Int := (b1 ++ b0).toInt
def u32 (b0 b1 b2 b3 : Byte) : BitVec 32 := b3 ++ b2 ++ b1 ++ b0

/-- The bytes of a word, least significant first. -/
def wordBytes (w : BitVec 32) : List Byte := le 4 w.toNat

/-- How many frames a message of this many data bytes takes (R196). -/
def frameCount (data : List Byte) : Nat := (data.length + 6) / 7

/-! ## Places by index -/

/-- Index of the first member that satisfies `p`. -/
def indexOf? {α : Type} (p : α → Bool) : List α → Option Nat
  | [] => none
  | x :: xs => if p x then some 0 else (indexOf? p xs).map (· + 1)

/-- `l` without its first member that satisfies `p`. -/
def eraseFirst {α : Type} (p : α → Bool) : List α → List α
  | [] => []
  | x :: xs => if p x then xs else x :: eraseFirst p xs

/-- `l` with every member that satisfies `p` changed by `f`. -/
def mapWhere {α : Type} (p : α → Bool) (f : α → α) (l : List α) : List α :=
  l.map fun x => if p x then f x else x

/-- The members with their indexes, in index order. -/
def indexed {α : Type} (l : List α) : List (Nat × α) := (List.range l.length).zip l

/-- Keep at most the newest `cap` of a list kept oldest first (R105, R151). -/
def keepNewest {α : Type} (cap : Nat) (l : List α) : List α := l.drop (l.length - cap)

/-- `x` inserted before position `i`, or at the end. -/
def insertAt {α : Type} (x : α) : List α → Nat → List α
  | [], _ => [x]
  | y :: ys, 0 => x :: y :: ys
  | y :: ys, i + 1 => y :: insertAt x ys i

/-- An order of `l` named by `code`; every order has a code. -/
def permute {α : Type} : List α → Nat → List α
  | [], _ => []
  | x :: xs, code => insertAt x (permute xs (code / (xs.length + 1))) (code % (xs.length + 1))

/-! ## Calendar (R109) -/

/-- A leap year is one whose number is divisible by 4. -/
def leapYear (y : Nat) : Bool := y % 4 == 0

def monthLength (month year : Nat) : Nat :=
  match month with
  | 2 => if leapYear year then 29 else 28
  | 4 | 6 | 9 | 11 => 30
  | _ => 31

/-- Days of the months before `month` in `year`. -/
def daysBefore (year : Nat) : Nat → Nat
  | 0 => 0
  | 1 => 0
  | m + 1 => daysBefore year m + monthLength m year

/-- Whole days from 2000-01-01. -/
def dayNumber (d : Date) : Nat :=
  let y := d.year - 2000
  y * 365 + (y + 3) / 4 + daysBefore d.year d.month + (d.date - 1)

/-- Seconds from 2000-01-01 00:00:00 (R115). -/
def secondNumber (t : ClockTime) : Nat :=
  dayNumber t.day * 86400 + t.hour * 3600 + t.minute * 60 + t.second

/-- The date exists: month and date within range and the month's length (R109). -/
def dateExists (date month year : Nat) : Bool :=
  decide (1 ≤ month) && decide (month ≤ 12) && decide (1 ≤ date)
    && decide (date ≤ monthLength month year)

/-- The day after (R109). -/
def nextDay (t : ClockTime) : ClockTime :=
  let t := { t with dayOfWeek := if t.dayOfWeek < 6 then t.dayOfWeek + 1 else 0 }
  if t.date < monthLength t.month t.year then { t with date := t.date + 1 }
  else if t.month < 12 then { t with date := 1, month := t.month + 1 }
  else { t with date := 1, month := 1, year := if t.year < 2099 then t.year + 1 else 2000 }

/-- The count of one second through the fields (R109). -/
def nextSecond (t : ClockTime) : ClockTime :=
  if t.second < 59 then { t with second := t.second + 1 }
  else if t.minute < 59 then { t with second := 0, minute := t.minute + 1 }
  else if t.hour < 23 then { t with second := 0, minute := 0, hour := t.hour + 1 }
  else nextDay { t with second := 0, minute := 0, hour := 0 }

/-- The seven bytes of a date and time, all 0xFF when absent (R200). -/
def timeBytes : Option ClockTime → List Byte
  | some t => [byte t.second, byte t.minute, byte t.hour, byte t.dayOfWeek, byte t.date,
      byte t.month, byte (t.year - 2000)]
  | none => List.replicate 7 0xFF#8

/-- The seven bytes of a date: the four fields a date does not hold are unused and sent as 0 (R194; log 28). -/
def dateBytes : Option Date → List Byte
  | some d => [0#8, 0#8, 0#8, 0#8, byte d.date, byte d.month, byte (d.year - 2000)]
  | none => List.replicate 7 0xFF#8

/-! ## Elapsed time -/

/-- A timer that runs has reached its expiry (log 3). -/
def due (now : Nat) : Option Nat → Bool
  | some t => decide (t ≤ now)
  | none => false

/-- The part is awake in Running or Limp. -/
def awake (s : State) : Bool := s.power == .running || s.power == .limp

/-- The frames of the bus reach the part: not in the sleep states, nor while the controller is bus-off
(R157, R165). The listen of Start-up is TOPIC_CLASH's alone. -/
def receiving (s : State) : Bool := awake s && s.bus.busState != .busOff

/-- Hand out a fresh number for a free value. -/
def useFree (s : State) : State := { s with freeCount := s.freeCount + 1 }

/-- The clock is Running (R108). -/
def clockRunning (s : State) : Bool := s.time.unsetCause.isNone

/-- The date of the clock if it is Running, else absent (R105, R107, R150). -/
def datedNow (s : State) : Option Date := if clockRunning s then some s.time.clock.day else none

/-- The time of the clock if it is Running, else absent (R175). -/
def stampNow (s : State) : Option ClockTime := if clockRunning s then some s.time.clock else none

end Sys2Proof.Machine
end

