-- ==== Sys2Proof/Machine/Operands.lean ====
section
/-! DEFINITION. Operand forms: the header byte of a frame (R194), the input payloads and their ranges (R195),
the arguments of requests (R197) and the codes in them. -/

namespace Sys2Proof

/-- The arguments of a request, D2 onward (R197). -/
def Request.args (r : Request) : List Byte := r.data.drop 1

/-! Numbers of the enumerations the image and the requests share, in the order the rules list their values
(R194, R197, R200). -/

def LimitKind.num : LimitKind → Nat
  | .slewCcwStop => 0 | .slewCwStop => 1 | .heightCeiling => 2 | .depthFloor => 3 | .reachWall => 4
def LimitAction.num : LimitAction → Nat
  | .warn => 0 | .slow => 1 | .stop => 2
def OwnerLevel.num : OwnerLevel → Nat
  | .supervisor => 0 | .technician => 1
def LatchMode.num : LatchMode → Nat
  | .follow => 0 | .latched => 1
def Role.num : Role → Nat
  | .boomPos => 0 | .armPos => 1 | .bucketLink => 2 | .slewPos => 3 | .chassisTilt => 4
  | .engineRun => 5 | .engineFuel => 6 | .coolant => 7 | .pump => 8 | .pilot => 9
  | .valveCut => 10 | .extCut => 11 | .timeSync => 12 | .request => 13
def ItemClass.num : ItemClass → Nat
  | .routine => 0 | .important => 1 | .critical => 2
def MatchPurpose.num : MatchPurpose → Nat
  | .shiftStart => 0 | .reminderTime => 1

end Sys2Proof

namespace Sys2Proof.Machine

/-! ## Frames (R194) -/

def frameCounter (f : Frame) : Counter := f.header.extractLsb' 0 4
def frameNumber (f : Frame) : Nat := (f.header.extractLsb' 4 3).toNat
def frameLast (f : Frame) : Bool := f.header.getLsbD 7

/-- Byte 0 of a frame the part sends: rolling counter, frame number, last-frame mark. -/
def headerByte (counter : Counter) (number : Nat) (last : Bool) : Byte :=
  (if last then 1#1 else 0#1) ++ (BitVec.ofNat 3 number) ++ counter

/-- `n` if it lies in `lo..hi`. -/
def inRange (lo hi n : Int) : Bool := decide (lo ≤ n) && decide (n ≤ hi)

/-- The payload of a role's data bytes, absent when the frame carries fewer bytes than its layout or a field
lies outside its range (R194, R195). Bytes beyond the layout are ignored. -/
def decodePayload : Role → List Byte → Option Payload
  | .boomPos, b0 :: b1 :: _ =>
      if inRange (-9000) 9000 (s16 b0 b1) then some (.boomPos (s16 b0 b1)) else none
  | .armPos, b0 :: b1 :: _ =>
      if inRange (-18000) 18000 (s16 b0 b1) then some (.armPos (s16 b0 b1)) else none
  | .bucketLink, b0 :: b1 :: _ =>
      if u16 b0 b1 ≤ 6000 then some (.bucketLink (u16 b0 b1)) else none
  | .slewPos, b0 :: b1 :: b2 :: b3 :: _ =>
      if inRange (-1000) 1000 (s16 b2 b3) then some (.slewPos (b1 ++ b0) (s16 b2 b3)) else none
  | .chassisTilt, b0 :: b1 :: b2 :: b3 :: _ =>
      if inRange (-3000) 3000 (s16 b0 b1) && inRange (-3000) 3000 (s16 b2 b3) then
        some (.chassisTilt (s16 b0 b1) (s16 b2 b3))
      else none
  | .engineRun, b0 :: b1 :: b2 :: _ =>
      if u16 b1 b2 ≤ 4000 then some (.engineRun (b0.getLsbD 0) (u16 b1 b2)) else none
  | .engineFuel, b0 :: b1 :: _ =>
      if u16 b0 b1 ≤ 20000 then some (.engineFuel (u16 b0 b1)) else none
  | .coolant, b0 :: _ =>
      if b0.toNat ≤ 190 then some (.coolant ((b0.toNat : Int) - 40)) else none
  | .pump, b0 :: b1 :: _ =>
      if u16 b0 b1 ≤ 1000 then some (.pump (u16 b0 b1)) else none
  | .pilot, b0 :: b1 :: _ => some (.pilot b0 (b1.getLsbD 0))
  | .valveCut, b0 :: b1 :: _ => some (.valveCut b0 b1)
  | .extCut, b0 :: _ => some (.extCut b0)
  | .timeSync, b0 :: b1 :: b2 :: b3 :: b4 :: b5 :: b6 :: _ =>
      if decide (b0.toNat ≤ 59) && decide (b1.toNat ≤ 59) && decide (b2.toNat ≤ 23)
          && decide (b3.toNat ≤ 6) && decide (1 ≤ b4.toNat) && decide (b4.toNat ≤ 31)
          && decide (1 ≤ b5.toNat) && decide (b5.toNat ≤ 12) && decide (b6.toNat ≤ 99) then
        some (.timeSync ⟨b0.toNat, b1.toNat, b2.toNat, b3.toNat, b4.toNat, b5.toNat, 2000 + b6.toNat⟩)
      else none
  | _, _ => none

/-- What a frame on a graded entry's topic carries, absent when the frame is discarded (R194). -/
def framePayload (role : Role) (f : Frame) : Option Payload :=
  if frameNumber f == 0 && frameLast f then decodePayload role f.data else none

/-! ## Request arguments (R197) -/

/-- Argument byte `i`, counted from D2. -/
def arg8 (a : List Byte) (i : Nat) : Byte := a.getD i 0
def argNat (a : List Byte) (i : Nat) : Nat := (arg8 a i).toNat
def argU16 (a : List Byte) (i : Nat) : Nat := u16 (arg8 a i) (arg8 a (i + 1))
def argS16 (a : List Byte) (i : Nat) : Int := s16 (arg8 a i) (arg8 a (i + 1))
def argU32 (a : List Byte) (i : Nat) : BitVec 32 :=
  u32 (arg8 a i) (arg8 a (i + 1)) (arg8 a (i + 2)) (arg8 a (i + 3))

/-- How many argument bytes a request reads for the options its data carry (R197): its data must reach that
far. KEY with level Operator reads no code (DEDUCED, log 32). RESTART, CLEAR_FAULTS and RESUME read none: such a
request whose data end before its tag is carried out (DESIGN CHOICE, log 31). -/
def neededArgs (code : Nat) (a : List Byte) : Nat :=
  match code with
  | 1 => 4
  | 2 => if argNat a 0 == 1 || argNat a 0 == 2 then 5 else 1
  | 5 => 6
  | 6 | 9 | 10 | 14 | 16 | 19 | 22 => 1
  | 7 | 11 | 12 | 17 => 2
  | 8 => if (arg8 a 8).getLsbD 1 then 13 else 9
  | 15 => if argNat a 1 == 0 then 10 else 2
  | 18 => 7
  | 20 => if argNat a 0 < 7 then 7 else 5
  | 21 => 3
  | _ => 0

/-- The request's data reach its last argument. -/
def argsComplete (code : Nat) (r : Request) : Bool :=
  decide (neededArgs code r.args ≤ r.args.length)

def limitKindOf : Nat → Option LimitKind
  | 0 => some .slewCcwStop
  | 1 => some .slewCwStop
  | 2 => some .heightCeiling
  | 3 => some .depthFloor
  | 4 => some .reachWall
  | _ => none

def limitActionOf : Nat → Option LimitAction
  | 0 => some .warn
  | 1 => some .slow
  | 2 => some .stop
  | _ => none

def levelOf : Nat → Option Level
  | 0 => some .operator
  | 1 => some .supervisor
  | 2 => some .technician
  | _ => none

def powerModeOf : Nat → Option PowerMode
  | 0 => some .heavy
  | 1 => some .standard
  | 2 => some .economy
  | _ => none

/-! ## Numbers of enumerations, in the order the rules list their values (R194, R200) -/

def LimitState.num : LimitState → Nat
  | .disabled => 0 | .pending => 1 | .clear => 2 | .approach => 3 | .breach => 4
def BreachCause.num : BreachCause → Nat
  | .breach => 0 | .predictedBreach => 1
def WarnEvent.num : WarnEvent → Nat
  | .approach => 0 | .breach => 1 | .pending => 2
def RecordKind.num : RecordKind → Nat
  | .limitStop => 1 | .limitSlow => 2 | .sensorLoss => 3 | .externalStop => 4
def RecordCause.num : RecordCause → Nat
  | .breach => 0 | .predictedBreach => 1 | .poseInvalid => 2 | .externalRequest => 3 | .externalSilent => 4
def RecordState.num : RecordState → Nat
  | .raised => 0 | .confirmed => 1 | .clearable => 2 | .overridden => 3
def PoseQuality.num : PoseQuality → Nat
  | .valid => 0 | .degraded => 1 | .invalid => 2
def Supervision.num : Supervision → Nat
  | .settled => 0 | .awaiting => 1 | .faulted => 2 | .hold => 3
def ModeInForce.num : ModeInForce → Nat
  | .heavy => 0 | .standard => 1 | .economy => 2 | .idle => 3
def PowerMode.num : PowerMode → Nat
  | .heavy => 0 | .standard => 1 | .economy => 2
def EconomyState.num : EconomyState → Nat
  | .stopped => 0 | .working => 1 | .idleWait => 2 | .idling => 3 | .resuming => 4
  | .shutdownPending => 5 | .held => 6 | .forced => 7
def Reason.num : Reason → Nat
  | .none => 0 | .poseInvalid => 1 | .poseDegraded => 2 | .noBenchmark => 3 | .noProfile => 4
  | .offProfile => 5 | .inGap => 6
def Detector.num : Detector → Nat
  | .idle => 0 | .digging => 1 | .swingLoaded => 2 | .dumping => 3 | .returning => 4
def CycleOutcome.num : CycleOutcome → Nat
  | .none => 0 | .completed => 1 | .timedOut => 2 | .abandoned => 3
def JobState.num : JobState → Nat
  | .none => 0 | .queued => 1 | .inFlight => 2
def PendingMark.num : PendingMark → Nat
  | .clear => 0 | .set => 1 | .setUrgent => 2
def BusState.num : BusState → Nat
  | .online => 0 | .busOff => 1 | .silent => 2
def Attention.num : Attention → Nat
  | .none => 0 | .advisory => 1 | .warning => 2 | .serious => 3
def Standing.num : Standing → Nat
  | .ok => 0 | .dueSoon => 1 | .due => 2 | .overdue => 3
def ServiceNoticeKind.num : ServiceNoticeKind → Nat
  | .rise => 0 | .reminder => 1
def EntryState.num : EntryState → Nat
  | .never => 0 | .recovering => 1 | .fresh => 2 | .stale => 3 | .lost => 4
def UnsetCause.num : UnsetCause → Nat
  | .batteryConnect => 0 | .oscillatorStop => 1
def SetSource.num : SetSource → Nat
  | .none => 0 | .setClock => 1 | .timeSync => 2
/-- Fault numbers of R174. -/
def FaultCode.num : FaultCode → Nat
  | .poseTimeout => 1 | .tableClamped => 2 | .limitAreaLost => 3 | .sequenceExhausted => 4
  | .cutUnconfirmed => 5 | .valveSilent => 6 | .gradeAreaLost => 7 | .dayAreaLost => 8
  | .oscillatorStop => 9 | .clockUnset => 10 | .clockStep => 11 | .meterLoss => 12
  | .checkpointExhausted => 13 | .serviceAreaLost => 14 | .historyAreaLost => 15
  | .topicLost => 16 | .busOff => 17 | .busSilent => 18 | .topicClash => 19 | .imageBad => 20
  | .strapFault => 21
/-- Source numbers of R174. -/
def FaultSource.num : FaultSource → Nat
  | .block n | .descriptor n | .topic n | .station n => n

/-- Blocks as fault sources, numbered 0..12 in the order of the block overview, 13 the start-up sequence
(R174). -/
def biuBlock : FaultSource := .block 0
def poseBlock : FaultSource := .block 2
def envelopeBlock : FaultSource := .block 3
def interventionBlock : FaultSource := .block 4
def guidanceBlock : FaultSource := .block 5
def economyBlock : FaultSource := .block 6
def timeBlock : FaultSource := .block 7
def meterBlock : FaultSource := .block 8
def serviceBlock : FaultSource := .block 9
def storeBlock : FaultSource := .block 11
def startUpBlock : FaultSource := .block 13

/-- Severities of R174. -/
def FaultCode.severity : FaultCode → Attention
  | .tableClamped | .dayAreaLost | .clockUnset | .clockStep | .historyAreaLost => .advisory
  | .poseTimeout | .gradeAreaLost | .oscillatorStop | .meterLoss | .checkpointExhausted
  | .serviceAreaLost | .topicLost | .busOff => .warning
  | .limitAreaLost | .sequenceExhausted | .cutUnconfirmed | .valveSilent | .busSilent
  | .topicClash | .imageBad | .strapFault => .serious

end Sys2Proof.Machine
end

