-- ==== Sys2Proof/Machine/Checks.lean ====
section
/-! DEFINITION. The ranges that stored areas and the configuration image are checked against: R6, R13, R19,
R20, R42, R73, R77, R81, R86, R104, R110, R118, R121, R126, R128, R138, R151, R152, R156, R160. -/

namespace Sys2Proof

/-! ## Limit entries (R19, R20) -/

def LimitKind.isSlew : LimitKind → Bool
  | .slewCcwStop | .slewCwStop => true
  | .heightCeiling | .depthFloor | .reachWall => false

def LimitKind.marginMax (k : LimitKind) : Int := if k.isSlew then 16383 else 10000
def LimitKind.hysteresis (k : LimitKind) : Int := if k.isSlew then 182 else 50
def LimitKind.defaultMargin (k : LimitKind) : Int := if k.isSlew then 1820 else 500

def LimitKind.defaultGuarded : LimitKind → MotionSet
  | .heightCeiling => MotionSet.boomUp ||| MotionSet.armOut
  | .depthFloor => MotionSet.boomDown ||| MotionSet.armIn
  | .reachWall => MotionSet.armOut ||| MotionSet.boomDown
  | .slewCcwStop => MotionSet.slewLeft
  | .slewCwStop => MotionSet.slewRight

/-- `n` lies in `lo..hi`. -/
def within (lo hi n : Int) : Bool := decide (lo ≤ n) && decide (n ≤ hi)

/-- Every configured field lies in its range. -/
def LimitConfig.ok (c : LimitConfig) : Bool :=
  (if c.kind.isSlew then within 0 65535 c.value else within (-32767) 32767 c.value)
    && within 0 c.kind.marginMax c.margin
    && (c.action == .warn || c.guarded != MotionSet.none)
    && (match c.scope with
        | none => true
        | some sc => !c.kind.isSlew && sc.start != sc.stop)

/-- A limit area or an initial limit set (R41, R42). -/
def limitsOk (l : List StoredLimit) : Bool := l.length == 12 && l.all (·.config.ok)

end Sys2Proof

namespace Sys2Proof.Machine

/-! ## Grade profile (R73, R75) -/

def Segment.ok (g : Segment) : Bool :=
  within (-32767) 32766 g.reachFrom && decide (g.reachFrom < g.reachTo) && decide (g.reachTo ≤ 32767)
    && within (-32767) 32767 g.height && within (-1000) 1000 g.slope

/-- The present segments, in index order. -/
def presentSegments (p : List (Option Segment)) : List Segment := p.filterMap id

/-- Each segment ends no farther than the next one begins (R73). -/
def ascending : List Segment → Bool
  | a :: b :: rest => decide (a.reachTo ≤ b.reachFrom) && ascending (b :: rest)
  | _ => true

def profileOk (p : List (Option Segment)) : Bool :=
  p.length == 8 && (presentSegments p).all Segment.ok && ascending (presentSegments p)

/-! ## Meters and checkpoints (R121, R128) -/

def maxHours : Nat := 999999
def maxCycles : Nat := 999999999
def max32 : Nat := 4294967295

def TimeMeter.ok (m : TimeMeter) : Bool := decide (m.hours ≤ maxHours) && decide (m.seconds ≤ 3599)

def Meters.ok (m : Meters) : Bool :=
  m.times.length == 7 && m.times.all TimeMeter.ok && decide (m.cycles ≤ maxCycles)

def Slot.valid (x : Slot) : Bool :=
  x.checksumOk && decide (1 ≤ x.content.sequence) && decide (x.content.sequence ≤ max32)
    && x.content.meters.ok && decide (x.content.lifetime ≤ max32)

/-! ## Day records (R104, R106) -/

def maxAccount : Nat := 99999999
def maxEngineSeconds : Nat := 172800

def dateOk (d : Date) : Bool :=
  decide (2000 ≤ d.year) && decide (d.year ≤ 2099) && dateExists d.date d.month d.year

def DayRecord.ok (r : DayRecord) : Bool :=
  r.date.all dateOk && decide (r.engineSeconds ≤ maxEngineSeconds) && decide (r.fuel ≤ maxAccount)
    && decide (r.idleFuel ≤ maxAccount) && decide (r.cycles ≤ 65535) && decide (r.interventions ≤ 65535)

def dayAreaOk (a : DayArea) : Bool :=
  decide (a.ring.length ≤ 14) && a.ring.all DayRecord.ok && a.opened.ok
    && decide (a.shift.fuel ≤ maxAccount) && decide (a.shift.idleFuel ≤ maxAccount)
    && decide (a.shift.engineSeconds ≤ maxEngineSeconds)

/-! ## Service areas (R139, R151, R152) -/

/-- A last-done value of the basis meter: absent with the basis. -/
def meterValueOk : Option Nat → Option MeterValue → Bool
  | none, none => true
  | some 7, some (.count n) => decide (n ≤ maxCycles)
  | some m, some (.time h sec) => decide (m ≤ 6) && decide (h ≤ maxHours) && decide (sec ≤ 3599)
  | _, _ => false

def codeOk (n : Nat) : Bool := decide (1 ≤ n) && decide (n ≤ 65535)

def StoredItem.ok (i : StoredItem) : Bool :=
  codeOk i.code && meterValueOk i.basis i.lastMeter && i.lastDate.all dateOk

def serviceAreaOk (l : List (Option StoredItem)) : Bool :=
  l.length == 24 && (l.filterMap id).all StoredItem.ok

def HistoryEntry.ok (e : HistoryEntry) : Bool :=
  decide (e.item ≤ 23) && codeOk e.code && meterValueOk e.basis e.meter && e.date.all dateOk
    && decide (1 ≤ e.station) && decide (e.station ≤ 31)

def historyOk (l : List HistoryEntry) : Bool := decide (l.length ≤ 32) && l.all HistoryEntry.ok

/-! ## The configuration image -/

/-- The topic numbers that the part's publications and spares have (R160, R166). -/
def publicationTopics (p : PubTopics) : List Nat :=
  [p.cutDemand, p.guidance, p.engineReq, p.meters, p.status, p.notice, p.reply, p.spare0, p.spare1,
    p.spare2].filterMap id

def distinct : List Nat → Bool
  | [] => true
  | x :: xs => !xs.contains x && distinct xs

/-- Publication topic numbers (R160): the seven given, none above 2,047, no two equal. -/
def pubsOk (p : PubTopics) : Bool :=
  p.cutDemand.isSome && p.guidance.isSome && p.engineReq.isSome && p.meters.isSome && p.status.isSome
    && p.notice.isSome && p.reply.isSome
    && (publicationTopics p).all (fun t => decide (t ≤ 2047)) && distinct (publicationTopics p)

def roleCount (subs : List SubConfig) (r : Role) : Nat := (subs.filter (·.role == r)).length

def roleStations (subs : List SubConfig) (r : Role) : List Nat := (subs.filter (·.role == r)).map (·.station)

def SubConfig.ok (own : Nat) (c : SubConfig) : Bool :=
  decide (c.topic ≤ 2047) && decide (1 ≤ c.station) && decide (c.station ≤ 31) && c.station != own
    && (c.role == .request
      || (decide (10 ≤ c.staleLimit) && decide (c.staleLimit ≤ 10000)
        && decide (c.staleLimit < c.lostLimit) && decide (c.lostLimit ≤ 60000)))

/-- Subscription entries (R156), for a part of station number `own`. -/
def subsOk (own : Nat) (f : ImageFields) : Bool :=
  decide (f.subs.length ≤ 40) && f.subs.all (SubConfig.ok own)
    && [Role.boomPos, .armPos, .bucketLink, .slewPos, .chassisTilt, .engineRun, .engineFuel, .coolant,
        .pump, .pilot, .valveCut].all (fun r => roleCount f.subs r == 1)
    && decide (roleCount f.subs .extCut ≤ 3) && distinct (roleStations f.subs .extCut)
    && decide (roleCount f.subs .timeSync ≤ 1)
    && decide (1 ≤ roleCount f.subs .request) && distinct (roleStations f.subs .request)
    && distinct (f.subs.map (·.topic))
    && f.subs.all (fun c => !(publicationTopics f.pubs).contains c.topic)

/-- Geometry (R6). -/
def geometryOk (g : Geometry) : Bool :=
  within 500 32767 g.lb && within 500 32767 g.la && within 500 32767 g.lk
    && within (-32767) 32767 g.x0 && within 0 32767 g.h0
    && decide ((g.x0.natAbs : Int) + g.lb + g.la + g.lk ≤ 32767)
    && decide (g.h0 + g.lb + g.la + g.lk ≤ 32767)

/-- The point range of a descriptor (R12); a spare has none. -/
def pointRange : Nat → Option (Int × Int)
  | 0 => some (-18000, 18000)
  | 1 => some (0, 16383)
  | 2 => some (500, 4000)
  | _ => none

/-- The range of a descriptor's bound input (R12). -/
def inputRange : Nat → Int × Int
  | 0 => (0, 6000)
  | 1 => (0, 1000)
  | _ => (-40, 150)

def inPointRange (i : Nat) (v : Int) : Bool :=
  match pointRange i with
  | some (lo, hi) => within lo hi v
  | none => false

/-- One descriptor (R13). -/
def descriptorOk (pool : List Int) (i : Nat) (d : DescConfig) : Bool :=
  if 3 ≤ i then d.limit == 0
  else
    decide (2 ≤ d.limit) && decide (d.limit ≤ 64) && decide (d.base ≤ 255)
      && decide (d.base + d.limit ≤ 256)
      && within (inputRange i).1 (inputRange i).2 d.origin
      && decide (1 ≤ d.step) && decide (d.step ≤ 32767)
      && ((pool.drop d.base).take d.limit).all (inPointRange i) && inPointRange i d.fixedValue

def descriptorsOk (f : ImageFields) : Bool :=
  f.descriptors.length == 6 && f.pool.length == 256 && f.pool.all (within (-32767) 32767)
    && (indexed f.descriptors).all fun (i, d) => descriptorOk f.pool i d

def inNat (lo hi n : Nat) : Bool := decide (lo ≤ n) && decide (n ≤ hi)

/-- Economy parameters (R86). -/
def economyOk (e : EconomyParams) : Bool :=
  inNat 800 2400 e.speedHeavy && inNat 800 2400 e.speedStandard && inNat 800 2400 e.speedEconomy
    && inNat 50 2000 e.pumpHeavy && inNat 50 2000 e.pumpStandard && inNat 50 2000 e.pumpEconomy
    && inNat 0 2000 e.slowLimit && inNat 0 2000 e.minimumPump
    && decide (e.minimumPump ≤ e.pumpHeavy) && decide (e.minimumPump ≤ e.pumpStandard)
    && decide (e.minimumPump ≤ e.pumpEconomy)
    && inNat 500 1500 e.idleFallback && inNat 2 30 e.idleWait
    && (e.autoShutdown == 0 || inNat 60 1800 e.autoShutdown)

/-- Time-match entries (R118). -/
def timeMatchesOk (l : List TimeMatch) : Bool :=
  l.length == 6 && l.all fun m => decide (m.minute ≤ 59) && decide (m.hour ≤ 23)

/-- One service item (R138) against the time-match entries of the same image. -/
def itemOk (tm : List TimeMatch) (i : ItemConfig) : Bool :=
  codeOk i.code
    && (match i.basis with
        | none => i.meterInterval == 0
        | some m => decide (m ≤ 7) && inNat 1 (if m == 7 then 100000000 else 100000) i.meterInterval)
    && (if i.meterInterval == 0 then i.meterLead == 0 else decide (i.meterLead < i.meterInterval))
    && decide (i.meterGrace ≤ i.meterInterval)
    && decide (i.dayInterval ≤ 3650)
    && (if i.dayInterval == 0 then i.dayLead == 0 && i.dayGrace == 0
        else decide (i.dayLead < i.dayInterval) && decide (i.dayGrace ≤ 365))
    && (i.meterInterval != 0 || i.dayInterval != 0)
    && (match i.reminder with
        | none => true
        | some k => match tm[k]? with
          | some m => decide (k ≤ 5) && m.purpose == .reminderTime
          | none => false)

/-- Service items (R138). -/
def itemsOk (f : ImageFields) : Bool :=
  f.items.length == 24 && (f.items.filterMap id).all (itemOk f.timeMatches)

/-- Every field of the image meets the conditions its chapter gives (R183, R191). -/
def imageOk (own : Nat) (f : ImageFields) : Bool :=
  subsOk own f && pubsOk f.pubs && geometryOk f.geometry && descriptorsOk f && limitsOk f.limits
    && inNat 10 200 f.fineBand && inNat 10 500 f.digThreshold && economyOk f.economy
    && within (-100) 100 f.initialTrim && timeMatchesOk f.timeMatches
    && inNat 10 500 f.workThreshold && inNat 10 500 f.heavyThreshold && itemsOk f

end Sys2Proof.Machine
end

