-- ==== Sys2Proof/Machine/Flags.lean ====
section
/-! DEFINITION. Conditions and derived indications that the blocks read of one another's state: the engine,
the pilot, freshness, the mode in force, speed request and pump limit, what STATUS shows. -/

namespace Sys2Proof.Machine

/-! ## Reading the Topic Map -/

/-- The subscription entry of a role that has one entry (R156). -/
def entryOf (s : State) (role : Role) : Option SubEntry :=
  s.topics.find? fun e => e.config.role == role

/-- The latest accepted payload of a role. -/
def payloadOf (s : State) (role : Role) : Option Payload := (entryOf s role).bind (·.payload)

/-- The payload of a role whose entry is not Lost. -/
def livePayload (s : State) (role : Role) : Option Payload :=
  match entryOf s role with
  | some e => if e.state == .lost then none else e.payload
  | none => none

def poseRoles : List Role := [.boomPos, .armPos, .bucketLink, .slewPos, .chassisTilt]

def isPoseRole (r : Role) : Bool := poseRoles.contains r

/-- The station of the valve cut module (R60). -/
def valveStation (s : State) : FaultSource :=
  .station (match entryOf s .valveCut with | some e => e.config.station | none => 0)

/-- The engine is running (R90). -/
def engineRunning (s : State) : Bool :=
  match livePayload s .engineRun with
  | some (.engineRun running _) => running
  | _ => false

/-- Pilot activity is present (R90): a Never or Lost entry counts as activity. -/
def pilotActive (s : State) : Bool :=
  match entryOf s .pilot with
  | none => true
  | some e =>
    if e.state == .never || e.state == .lost then true
    else match e.payload with
      | some (.pilot motions travel) => motions != 0#8 || travel
      | _ => true

/-- Active motions of the latest accepted PILOT payload (R81); none before the first. -/
def pilotMotions (s : State) : MotionSet :=
  match payloadOf s .pilot with
  | some (.pilot motions _) => motions
  | _ => MotionSet.none

/-- Travel of the latest accepted PILOT payload (R71). -/
def pilotTravel (s : State) : Bool :=
  match payloadOf s .pilot with
  | some (.pilot _ travel) => travel
  | _ => false

/-- The controls are reported in use (R122). -/
def controlsInUse (s : State) : Bool :=
  match livePayload s .pilot with
  | some (.pilot motions _) => motions != 0#8
  | _ => false

/-- Travel is reported (R122). -/
def travelReported (s : State) : Bool :=
  match livePayload s .pilot with
  | some (.pilot _ travel) => travel
  | _ => false

/-- The pump pressure is above a threshold, on a PUMP entry that is not Lost (R81, R122). -/
def pumpAbove (s : State) (threshold : Nat) : Bool :=
  match livePayload s .pump with
  | some (.pump pressure) => decide (threshold < pressure)
  | _ => false

/-- The structure slews faster than 1°/s (R122). -/
def slewing (s : State) : Bool :=
  match livePayload s .slewPos with
  | some (.slewPos _ rate) => decide (10 < rate.natAbs)
  | _ => false

/-! ## Economy (R87, R89, R99, R100) -/

def PowerMode.inForce : PowerMode → ModeInForce
  | .heavy => .heavy
  | .standard => .standard
  | .economy => .economy

/-- The mode in force (R87). -/
def modeInForce (s : State) : ModeInForce :=
  if s.economy.state == .forced then .idle
  else if s.service.derate then .economy
  else s.economy.requested.inForce

/-- The held output of a descriptor. -/
def heldOutput (s : State) (i : Nat) : Option Int :=
  match s.pose.descriptors[i]? with
  | some d => d.held
  | none => none

/-- The idle speed (R99). -/
def idleSpeed (s : State) : Nat :=
  match heldOutput s 2, entryOf s .coolant with
  | some v, some e => if e.state == .lost then s.config.economy.idleFallback else v.toNat
  | _, _ => s.config.economy.idleFallback

/-- The working speed of a mode (R86); Idle has the idle speed (R87). -/
def workingSpeed (s : State) : ModeInForce → Nat
  | .heavy => s.config.economy.speedHeavy
  | .standard => s.config.economy.speedStandard
  | .economy => s.config.economy.speedEconomy
  | .idle => idleSpeed s

def modePumpLimit (s : State) : ModeInForce → Nat
  | .heavy => s.config.economy.pumpHeavy
  | .standard => s.config.economy.pumpStandard
  | .economy => s.config.economy.pumpEconomy
  | .idle => s.config.economy.minimumPump

/-- The speed requested, 0 for none (R89, R99). -/
def speedRequest (s : State) : Nat :=
  match s.economy.state with
  | .stopped | .shutdownPending => 0
  | .working | .idleWait | .resuming | .held => workingSpeed s (modeInForce s)
  | .idling | .forced => idleSpeed s

/-- The stop flag (R89). -/
def stopFlag (s : State) : Bool := s.economy.state == .shutdownPending

/-- The pump power limit (R100). -/
def pumpLimit (s : State) : Nat :=
  if s.economy.state == .forced then s.config.economy.minimumPump
  else if s.intervention.slowSet == MotionSet.none then modePumpLimit s (modeInForce s)
  else min (modePumpLimit s (modeInForce s)) s.config.economy.slowLimit

/-! ## Envelope -/

/-- The entry's breach is gone (R30). -/
def LimitState.gone : LimitState → Bool
  | .clear | .approach => true
  | .disabled | .pending | .breach => false

/-- An entry is in warning (R31). -/
def LimitEntry.inWarning (e : LimitEntry) : Bool :=
  match e.state with
  | .approach | .breach => true
  | .pending => match e.last with
    | some c => decide (c ≤ e.config.margin)
    | none => false
  | .disabled | .clear => false

/-- The scope test of R24. -/
def inScope (scope : Option Scope) (slew : BinAngle) : Bool :=
  match scope with
  | none => true
  | some sc => (slew - sc.start).ule (sc.stop - sc.start)

/-! ## Service -/

/-- The higher of two standings (R142). -/
def Standing.max (a b : Standing) : Standing := if a.num < b.num then b else a

def ServiceItem.state (i : ServiceItem) : Standing := i.meterStanding.max i.dayStanding

/-- The derate flag's condition (R149). -/
def derateWanted (items : List (Option ServiceItem)) : Bool :=
  items.any fun
    | some i => i.config.cls == .critical && i.state == .overdue
    | none => false

/-! ## What STATUS shows (R171) -/

/-- Some record, entry or item owes a notice. -/
def noticesOwed (s : State) : Bool :=
  s.intervention.list.any (·.owed) || s.limits.any (·.owed.isSome)
    || s.service.items.any fun
      | some i => i.owed.isSome
      | none => false

/-- Graded entries that are not Fresh. -/
def entriesNotFresh (s : State) : Nat :=
  (s.topics.filter fun e => e.config.role != .request && e.state != .fresh).length

/-- The unentered count (R173). -/
def unenteredCount (d : DiagnosticList) : Nat := min 255 d.unentered.length

def listFull (d : DiagnosticList) : Bool := decide (0 < unenteredCount d)

/-- The highest severity among the Active entries (R178). -/
def attentionOf (entries : List FaultEntry) : Attention :=
  entries.foldl (fun a e => if e.active && decide (a.num < e.code.severity.num) then e.code.severity else a) .none

end Sys2Proof.Machine
end

