-- ==== Sys2Proof/Machine/Diagnostics.lean ====
section
/-! DEFINITION. The Diagnostic List (R173 to R180): taking reports, ending conditions, offering freed places,
the attention level. -/

namespace Sys2Proof.Machine

def FaultEntry.names (code : FaultCode) (source : FaultSource) (e : FaultEntry) : Bool :=
  e.code == code && e.source == source

/-- The entries after a report, or absent when the report is refused (R175). -/
def takeReport (entries : List FaultEntry) (code : FaultCode) (source : FaultSource)
    (stamp : Option ClockTime) : Option (List FaultEntry) :=
  let entry : FaultEntry := ⟨code, source, true, 1, stamp, stamp⟩
  if entries.any (FaultEntry.names code source) then
    some (mapWhere (FaultEntry.names code source)
      (fun e => { e with active := true, occurrences := satAdd 255 e.occurrences 1, lastTime := stamp })
      entries)
  else if entries.length < 20 then some (entries ++ [entry])
  else if entries.any (fun e => !e.active) then
    some (eraseFirst (fun e => !e.active) entries ++ [entry])
  else none

/-- The list over given entries and unentered conditions, with the attention level formed afresh (R178). -/
def formDiag (entries : List FaultEntry) (unentered : List (FaultCode × FaultSource)) :
    DiagnosticList := ⟨entries, unentered, attentionOf entries⟩

/-- A report of a condition that has begun (R175). A refused condition is marked unentered once, but for one
that ends in its own event (`marked` false), which is lost (R177). -/
def reportTo (d : DiagnosticList) (stamp : Option ClockTime) (code : FaultCode)
    (source : FaultSource) (marked : Bool) : DiagnosticList :=
  match takeReport d.entries code source stamp with
  | some entries => formDiag entries (d.unentered.erase (code, source))
  | none =>
    if marked && !d.unentered.contains (code, source) then
      { d with unentered := d.unentered ++ [(code, source)] }
    else d

/-- The unentered condition offered first: lowest fault number, then lowest source number (R177). -/
def lowestUnentered : List (FaultCode × FaultSource) → Option (FaultCode × FaultSource)
  | [] => none
  | c :: cs =>
    match lowestUnentered cs with
    | none => some c
    | some d =>
      if c.1.num < d.1.num || (c.1.num == d.1.num && decide (c.2.num ≤ d.2.num)) then some c else some d

/-- The offering of places to unentered conditions, while there is room (R177). -/
def offerPlaces (stamp : Option ClockTime) : Nat → DiagnosticList → DiagnosticList
  | 0, d => d
  | n + 1, d =>
    match lowestUnentered d.unentered with
    | none => d
    | some c =>
      match takeReport d.entries c.1 c.2 stamp with
      | none => d
      | some entries => offerPlaces stamp n (formDiag entries (d.unentered.erase c))

/-- A condition's end (R176), and the offering when an entry becomes Inactive in a full list (R177). -/
def endIn (d : DiagnosticList) (stamp : Option ClockTime) (code : FaultCode)
    (source : FaultSource) : DiagnosticList :=
  match d.entries.find? (FaultEntry.names code source) with
  | none => { d with unentered := d.unentered.erase (code, source) }
  | some e =>
    if e.active then
      let entries := mapWhere (FaultEntry.names code source) (fun e => { e with active := false }) d.entries
      let d' := formDiag entries d.unentered
      if entries.length < 20 then d' else offerPlaces stamp d'.unentered.length d'
    else d

/-- A block reports that a condition has begun. -/
def report (code : FaultCode) (source : FaultSource) (s : State) : State :=
  { s with diag := reportTo s.diag (stampNow s) code source true }

/-- A block reports that a condition has ended. -/
def endFault (code : FaultCode) (source : FaultSource) (s : State) : State :=
  { s with diag := endIn s.diag (stampNow s) code source }

/-- A condition that ends in the event that reports it (R174): ClockStep, TopicClash. -/
def pulseFault (code : FaultCode) (source : FaultSource) (s : State) : State :=
  { s with diag := endIn (reportTo s.diag (stampNow s) code source false) (stampNow s) code source }

/-- CLEAR_FAULTS's effect on the list (R179): Inactive entries go, and the places freed are offered. -/
def clearInactive (d : DiagnosticList) (stamp : Option ClockTime) : DiagnosticList :=
  let d' := formDiag (d.entries.filter (·.active)) d.unentered
  if (d.entries.filter (·.active)).length < d.entries.length then
    offerPlaces stamp d'.unentered.length d'
  else d'

end Sys2Proof.Machine
end

