-- ==== Sys2Proof/Machine/Contents.lean ====
section
/-! DEFINITION. The contents of the part's publications as data bytes (R199): CUT_DEMAND, ENGINE_REQ, GUIDANCE,
METERS, STATUS and the three types of NOTICE. -/

namespace Sys2Proof.Machine

/-- CUT_DEMAND (R56, R199). -/
def cutDemandData (s : State) : List Byte :=
  [s.intervention.cutSet, s.intervention.slowSet, s.intervention.demandSeq]

/-- ENGINE_REQ (R101, R199). -/
def engineReqData (s : State) : List Byte :=
  le 2 (speedRequest s) ++ le 2 (pumpLimit s)
    ++ [byte ((if stopFlag s then 1 else 0) + 2 * (modeInForce s).num + 8 * s.economy.state.num)]

def bandBits : Option Band → Nat
  | none => 0
  | some .above => 1
  | some .onGrade => 2
  | some .below => 3

/-- The floor states GUIDANCE numbers from Pending (R199). -/
def floorStateBits (st : LimitState) : Nat := st.num - 1

/-- GUIDANCE (R79, R199). -/
def guidanceData (s : State) : List Byte :=
  let g := s.guidance
  let p := s.pose.pose
  [byte (g.result.reason.num + 8 * bandBits g.result.band + (if g.benchmark.isSome then 32 else 0))]
    ++ signed16 g.result.tipError ++ le 2 p.reach ++ le 2 p.tip ++ signed16 g.result.height
    ++ [indexByte g.result.segment] ++ le 2 p.updates.toNat
    ++ [byte (g.detector.num + 8 * g.outcome.num)]
    ++ (match g.result.floor with
        | none => [0xFF#8] ++ signed24 none ++ [0#8]
        | some f => [byte f.index] ++ signed24 (some f.clearance)
            ++ [byte (floorStateBits f.state + (if f.warning then 4 else 0))])
    ++ [0#8]

/-- A time meter's three bytes: hours in bits 0..19, tenths in bits 20..23 (R121, R199). -/
def timeMeterBytes (m : TimeMeter) : List Byte := le 3 (m.hours + 2 ^ 20 * (m.seconds / 360) : Nat)

/-- METERS (R136, R199). -/
def metersData (s : State) : List Byte :=
  s.meter.meters.times.flatMap timeMeterBytes ++ le 4 s.meter.meters.cycles
    ++ le 4 s.economy.lifetime ++ le 4 (s.meter.lastCompleted.getD 0 : Nat)
    ++ [byte (s.meter.job.num + 4 * s.meter.pending.num)]

def limpCauseBits : Option LimpCause → Nat
  | none => 0
  | some .imageBad => 1
  | some .strapFault => 2
  | some .topicClash => 3

/-- STATUS (R171, R199). -/
def statusData (s : State) : List Byte :=
  [byte ((if s.power == .limp then 1 else 0) + 2 * limpCauseBits s.limpCause
      + 8 * s.intervention.supervision.num + 32 * s.pose.pose.quality.num
      + (if s.service.derate then 128 else 0)),
   byte (s.station + (if clockRunning s then 32 else 0) + (if noticesOwed s then 64 else 0)
      + (if listFull s.diag then 128 else 0)),
   s.intervention.demandSeq,
   byte (s.intervention.list.length + 32 * s.economy.state.num)]
    ++ le 2 s.pose.pose.updates.toNat
    ++ [byte ((modeInForce s).num + 4 * s.bus.busState.num + 16 * s.bus.busOffCount
        + 64 * s.diag.attention.num),
      byte (entriesNotFresh s),
      byte s.bus.repliesDropped]

/-- A warning notice (R32, R199). -/
def warnNoticeData (n : WarnNotice) : List Byte :=
  [1#8, byte n.index, byte n.kind.num, byte n.event.num] ++ signed24 (some n.clearance)
    ++ le 2 n.updates.toNat

/-- A record notice with a given state number, 4 for Removed (R54, R199). -/
def recordNoticeData (r : Record) (state : Nat) : List Byte :=
  [2#8] ++ le 2 r.seq ++ [byte r.kind.num, indexByte r.source, byte r.cause.num, r.blocked, byte state]

/-- A service notice (R145, R199). -/
def serviceNoticeData (index : Nat) (i : ServiceItem) (kind : ServiceNoticeKind) : List Byte :=
  [3#8, byte index] ++ le 2 i.config.code
    ++ [byte i.config.cls.num, byte kind.num,
      byte (i.state.num + 4 * i.meterStanding.num + 16 * i.dayStanding.num
        + (if i.acknowledged then 64 else 0))]

end Sys2Proof.Machine
end

