-- ==== Sys2Proof/Machine/Transmit.lean ====
section
/-! DEFINITION. The transmit queue (R160 to R164, R196): cyclic places, the event ring, fences, owed notices,
the choice of the next frame. -/

namespace Sys2Proof

/-- Topic numbers of the publications (R160). -/
def PubTopics.cyclic (t : PubTopics) : Machine.CyclicPub → Option Nat
  | .cutDemand => t.cutDemand
  | .guidance => t.guidance
  | .engineReq => t.engineReq
  | .meters => t.meters
  | .status => t.status

def PubTopics.event (t : PubTopics) (reply : Bool) : Option Nat := if reply then t.reply else t.notice

end Sys2Proof

namespace Sys2Proof.Machine

/-! ## Cyclic places (R161) -/

def Biu.place (b : Biu) : CyclicPub → CyclicPlace
  | .cutDemand => b.cutDemand
  | .guidance => b.guidance
  | .engineReq => b.engineReq
  | .meters => b.meters
  | .status => b.status

def Biu.setPlace (b : Biu) (c : CyclicPlace) : CyclicPub → Biu
  | .cutDemand => { b with cutDemand := c }
  | .guidance => { b with guidance := c }
  | .engineReq => { b with engineReq := c }
  | .meters => { b with meters := c }
  | .status => { b with status := c }

/-- A content takes the next placement number of its place and is what the place holds (R161). -/
def CyclicPlace.fill (c : CyclicPlace) (data : List Byte) : CyclicPlace :=
  { c with held := some ⟨c.lastNumber + 1, data⟩, lastNumber := c.lastNumber + 1 }

/-- A block places a content. -/
def placeContent (p : CyclicPub) (data : List Byte) (s : State) : State :=
  { s with bus := s.bus.setPlace ((s.bus.place p).fill data) p }

/-! ## The event ring (R162 to R164) -/

/-- The frame is with the controller, or its series has begun (R196). -/
def Biu.hasController (b : Biu) (f : RingFrame) : Bool :=
  b.controller == some (.ring f.id) || decide (0 < f.framesSent)

/-- A frame joins the ring. -/
def Biu.join (b : Biu) (reply : Bool) (data : List Byte) (fence : Option Nat) : Biu :=
  { b with ring := b.ring ++ [⟨b.nextId, reply, data, fence, 0⟩], nextId := b.nextId + 1 }

/-- A reply that may be displaced (R164). -/
def Biu.displaceable (b : Biu) (f : RingFrame) : Bool := f.reply && !b.hasController f

/-- A NOTICE joins the ring, displacing the oldest reply of a full one; absent when the ring can take none
(R164). -/
def Biu.queueNotice (b : Biu) (data : List Byte) (fence : Option Nat) : Option Biu :=
  if b.ring.length < 8 then some (b.join false data fence)
  else if b.ring.any b.displaceable then
    some ({ b with ring := eraseFirst b.displaceable b.ring,
                   repliesDropped := satAdd 255 b.repliesDropped 1 }.join false data fence)
  else none

/-- A REPLY joins the ring, or is dropped (R164). -/
def Biu.queueReply (b : Biu) (data : List Byte) : Biu :=
  if b.ring.length < 8 then b.join true data none
  else { b with repliesDropped := satAdd 255 b.repliesDropped 1 }

/-- The fence of a record notice queued now: the number of the content CUT_DEMAND's place holds (R163). -/
def Biu.fenceNow (b : Biu) : Option Nat := b.cutDemand.held.map (·.number)

/-- A warning notice is queued, or is kept as the entry's notice owed; a notice owed before is replaced either
way (R32). -/
def queueWarning (n : WarnNotice) (s : State) : State :=
  let owes := fun (o : Option WarnNotice) => s.limits.modify n.index fun e => { e with owed := o }
  match s.bus.queueNotice (warnNoticeData n) none with
  | some b => { s with bus := b, limits := owes none }
  | none => { s with limits := owes (some n) }

/-- A record notice is queued behind its fence, or is owed by a record still listed (R54). A notice the record
owed before stays owed when this one is queued (DEDUCED, log 37). -/
def queueRecordNotice (seq : Nat) (data : List Byte) (s : State) : State :=
  match s.bus.queueNotice data s.bus.fenceNow with
  | some b => { s with bus := b }
  | none => { s with intervention :=
      { s.intervention with list := mapWhere (·.seq == seq) (fun r => { r with owed := true }) s.intervention.list } }

def setItem (i : Nat) (item : ServiceItem) (s : State) : State :=
  { s with service := { s.service with items := s.service.items.set i (some item) } }

/-- A service notice is queued, or the item owes it; a notice owed before is replaced either way (R145). -/
def queueServiceNotice (i : Nat) (item : ServiceItem) (kind : ServiceNoticeKind) (s : State) : State :=
  match s.bus.queueNotice (serviceNoticeData i item kind) none with
  | some b => setItem i { item with owed := none } { s with bus := b }
  | none => setItem i { item with owed := some kind } s

/-- The record that owes a notice and is offered first: the oldest in list order (R54). -/
def owingRecord (s : State) : Option Record := s.intervention.list.find? (·.owed)

/-- The envelope entry of lowest index that owes a notice (R164). -/
def owingLimit (s : State) : Option (Nat × WarnNotice) :=
  (indexed s.limits).findSome? fun (i, e) => e.owed.map fun n => (i, n)

/-- The item of lowest index that owes a notice (R145). -/
def owingItem (s : State) : Option (Nat × ServiceItem × ServiceNoticeKind) :=
  (indexed s.service.items).findSome? fun
    | (i, some item) => item.owed.map fun k => (i, item, k)
    | (_, none) => none

/-- One freed ring place is offered in turn to the Intervention, Envelope and Service Units (R164). Notices
are published in Running only (R160). -/
def offerOwed (s : State) : State :=
  if s.power != .running || decide (8 ≤ s.bus.ring.length) then s
  else
    match owingRecord s with
    | some r =>
      { s with
        bus := s.bus.join false (recordNoticeData r r.state.num) s.bus.fenceNow
        intervention := { s.intervention with
          list := mapWhere (·.seq == r.seq) (fun r => { r with owed := false }) s.intervention.list } }
    | none =>
      match owingLimit s with
      | some (i, n) =>
        { s with
          bus := s.bus.join false (warnNoticeData n) none
          limits := s.limits.modify i fun e => { e with owed := none } }
      | none =>
        match owingItem s with
        | some (i, item, k) =>
          setItem i { item with owed := none }
            { s with bus := s.bus.join false (serviceNoticeData i item k) none }
        | none => s

/-- The offering on entry into Running, for every free place (R145). -/
def offerOwedTimes : Nat → State → State
  | 0, s => s
  | n + 1, s => offerOwedTimes n (offerOwed s)

/-! ## The choice of the next frame (R162, R163, R196) -/

def cyclicPubs : List CyclicPub := [.cutDemand, .guidance, .engineReq, .meters, .status]

/-- A place offers the series begun, or else what it holds. -/
def CyclicPlace.offers (c : CyclicPlace) : Bool := c.held.isSome || decide (0 < c.framesSent)

/-- The ring frame a topic offers: the one whose series has begun, or else the oldest that no fence holds. -/
def Biu.ringOffer (b : Biu) (reply : Bool) : Option RingFrame :=
  match b.ring.find? (fun f => f.reply == reply && decide (0 < f.framesSent)) with
  | some f => some f
  | none => b.ring.find? (fun f => f.reply == reply && f.fence.isNone)

/-- The eligible frames with their topics. -/
def Biu.candidates (b : Biu) : List (Nat × Holder) :=
  (cyclicPubs.filterMap fun p =>
    if (b.place p).offers then (b.topics.cyclic p).map fun t => (t, .cyclic p) else none)
  ++ ([true, false].filterMap fun reply =>
    match b.ringOffer reply, b.topics.event reply with
    | some f, some t => some (t, .ring f.id)
    | _, _ => none)

/-- The candidate with the lowest topic number. -/
def lowestTopic : List (Nat × Holder) → Option (Nat × Holder)
  | [] => none
  | c :: cs =>
    match lowestTopic cs with
    | none => some c
    | some d => if c.1 ≤ d.1 then some c else some d

/-- Hand a candidate to the controller; a place whose series has not begun sends what it holds. -/
def Biu.hand (b : Biu) : Holder → Biu
  | .cyclic p =>
    let c := b.place p
    let b := b.setPlace (if c.framesSent == 0 then { c with sending := c.held } else c) p
    { b with controller := some (.cyclic p) }
  | .ring id => { b with controller := some (.ring id) }

/-- While the controller is free and the BIU is Online, the BIU hands it one frame (R162). A controller whose
transmit error count has passed 255 is going bus-off and takes none (R165, log 36). -/
def feedController (s : State) : State :=
  if awake s && s.bus.busState == .online && s.bus.controller.isNone && decide (s.bus.txErrors ≤ 255) then
    match lowestTopic s.bus.candidates with
    | some (_, h) => { s with bus := s.bus.hand h }
    | none => s
  else s

/-- The data a message carries in frame `k`. -/
def frameSlice (data : List Byte) (k : Nat) : List Byte := (data.drop (7 * k)).take 7

def seriesFrame (counter : Counter) (data : List Byte) (k : Nat) : List Byte :=
  headerByte counter k (k + 1 == frameCount data) :: frameSlice data k

/-- The frame with the controller as it stands on the bus: its topic and its bytes (R194, R196). -/
def controllerFrame (s : State) : Option (Nat × List Byte) :=
  match s.bus.controller with
  | none => none
  | some (.cyclic p) =>
    let c := s.bus.place p
    match c.sending, s.bus.topics.cyclic p with
    | some m, some t => some (t, seriesFrame c.counter m.data c.framesSent)
    | _, _ => none
  | some (.ring id) =>
    match s.bus.ring.find? (·.id == id) with
    | none => none
    | some f =>
      (s.bus.topics.event f.reply).map fun t =>
        (t, seriesFrame (if f.reply then s.bus.replyCounter else s.bus.noticeCounter) f.data f.framesSent)

/-- The fences that a transmitted CUT_DEMAND content frees (R163). -/
def freeFences (number : Nat) (ring : List RingFrame) : List RingFrame :=
  mapWhere (fun f => match f.fence with | some n => decide (n ≤ number) | none => false)
    (fun f => { f with fence := none }) ring

/-- One frame of a cyclic place has been transmitted (R161, R196). -/
def CyclicPlace.sent (c : CyclicPlace) : CyclicPlace :=
  match c.sending with
  | none => c
  | some m =>
    if c.framesSent + 1 < frameCount m.data then
      { c with framesSent := c.framesSent + 1, counter := c.counter + 1 }
    else
      { c with
        held := if c.held.map (·.number) == some m.number then none else c.held
        sending := none
        framesSent := 0
        counter := c.counter + 1 }

/-- The placement number of a series that this frame ends. -/
def CyclicPlace.endsNumber (c : CyclicPlace) : Option Nat :=
  match c.sending with
  | some m => if c.framesSent + 1 < frameCount m.data then none else some m.number
  | none => none

/-- A frame of a cyclic place leaves the controller transmitted. -/
def sentCyclic (p : CyclicPub) (s : State) : State :=
  let c := s.bus.place p
  let ring := match p, c.endsNumber with
    | .cutDemand, some n => freeFences n s.bus.ring
    | _, _ => s.bus.ring
  { s with bus := { s.bus.setPlace c.sent p with ring := ring, controller := none } }

/-- The rolling counter of an event topic advances (R160). -/
def Biu.countEvent (b : Biu) (reply : Bool) : Biu :=
  if reply then { b with replyCounter := b.replyCounter + 1 }
  else { b with noticeCounter := b.noticeCounter + 1 }

/-- The reply of a waiting RESTART has been transmitted (R186). -/
def noteRestartReply (id : Nat) (s : State) : State :=
  { s with restart := s.restart.map fun w =>
      if w.replyIds.contains id then { w with replySent := true } else w }

/-- A frame of a ring message leaves the controller transmitted; the last one frees its place, which is offered
(R162, R164). -/
def sentRing (f : RingFrame) (s : State) : State :=
  let b := { s.bus.countEvent f.reply with controller := none }
  if f.framesSent + 1 < frameCount f.data then
    { s with bus := { b with
        ring := mapWhere (·.id == f.id) (fun g => { g with framesSent := g.framesSent + 1 }) b.ring } }
  else
    offerOwed (noteRestartReply f.id { s with bus := { b with ring := b.ring.filter (·.id != f.id) } })

end Sys2Proof.Machine
end

