-- ==== Sys2Proof/Machine/Replies.lean ====
section
/-! DEFINITION. Replies and the request fields of a REQUEST entry (R167, R198), the levels the Access Table
supplies (R192), and the checks that every request's entry opens with. -/

namespace Sys2Proof.Machine

/-! ## Results and replies -/

/-- Reply results, numbered as R198. -/
inductive Result where
  | done | refusedLevel | refusedState | unknownRecord | badArgument | busy | refusedKey
  | refusedLocked | refusedFull
  deriving DecidableEq, Repr

def Result.num : Result → Nat
  | .done => 0 | .refusedLevel => 1 | .refusedState => 2 | .unknownRecord => 3 | .badArgument => 4
  | .busy => 5 | .refusedKey => 6 | .refusedLocked => 7 | .refusedFull => 8

def servesStation (station : Nat) (e : SubEntry) : Bool :=
  e.config.role == .request && e.config.station == station

/-- The REQUEST entry of a requester station. -/
def requestEntry (s : State) (station : Nat) : Option SubEntry := s.topics.find? (servesStation station)

def modifyRequest (station : Nat) (f : SubEntry → SubEntry) (s : State) : State :=
  { s with topics := mapWhere (servesStation station) f s.topics }

/-- A reply's data (R198): only Done carries result data. -/
def replyData (t : Ticket) (r : Result) (data : List Byte) : List Byte :=
  [byte t.station, t.code, t.tag, byte r.num] ++ (if r == .done then data else [])

/-- A reply is queued, and is stored while its request's counter is the last counter (R167). -/
def sendReply (t : Ticket) (r : Result) (data : List Byte) (s : State) : State :=
  modifyRequest t.station
    (fun e => if e.counter == some t.counter then { e with stored := some (replyData t r data) } else e)
    { s with bus := s.bus.queueReply (replyData t r data) }

/-- The owner answers a request taken into flight (R167). -/
def finishRequest (t : Ticket) (r : Result) (data : List Byte) (s : State) : State :=
  modifyRequest t.station
    (fun e => if e.inFlight == some t.counter then { e with inFlight := none } else e)
    (sendReply t r data s)

/-- How an owner answers: at once, or by taking the request into flight. -/
inductive Answer where
  | reply (r : Result) (data : List Byte) (s : State)
  | flight (s : State)
  deriving DecidableEq, Repr

def refuse (r : Result) (s : State) : Answer := .reply r [] s
def accept (data : List Byte) (s : State) : Answer := .reply .done data s

/-! ## Levels (R192) -/

def Level.num : Level → Nat
  | .operator => 0 | .supervisor => 1 | .technician => 2

/-- The level an owner level names. -/
def ownerLevel : OwnerLevel → Level
  | .supervisor => .supervisor
  | .technician => .technician

def Grant.serves (station : Nat) (g : Grant) : Bool := g.station == some station

/-- The level of a station: its entry's while a grant is live, Operator otherwise. -/
def levelAt (s : State) (station : Nat) : Level :=
  match (s.access.find? (Grant.serves station)).bind (·.level) with
  | some .supervisor => .supervisor
  | some .technician => .technician
  | none => .operator

/-- The station holds at least this level. -/
def holds (s : State) (station : Nat) (need : Level) : Bool := decide (need.num ≤ (levelAt s station).num)

/-- How long a grant lasts after its latest use. -/
def grantTime : Nat := 600000

/-- A request that passes a level check above Operator renews its station's grant (R192, log 19). -/
def renewGrant (station : Nat) (s : State) : State :=
  { s with
    access := mapWhere (fun g => g.serves station && g.level.isSome)
      (fun g => { g with expiry := some (s.now + grantTime) }) s.access }

/-- A level check, and the rest of the request over the renewed grant. -/
def checkLevel (need : Level) (t : Ticket) (s : State) (rest : State → Answer) : Answer :=
  if holds s t.station need then
    rest (if need == .operator then s else renewGrant t.station s)
  else refuse .refusedLevel s

/-- Cut supervision is in Hold. -/
def inHold (s : State) : Bool := s.intervention.supervision == .hold

/-- The check "the part is in Limp, or cut supervision is in Hold". -/
def limpOrHold (s : State) : Bool := s.power == .limp || inHold s

end Sys2Proof.Machine
end

