-- ==== Sys2Proof/Machine/Store.lean ====
section
/-! DEFINITION. The Parameter Store (R187, R188): copies and generations, the job queue, joining, cut-off
writes. -/

namespace Sys2Proof.Machine

/-! ## Areas in two copies (R187) -/

def Copy.valid {α : Type} (ok : α → Bool) (c : Copy α) : Bool := c.checksumOk && ok c.content

/-- The valid copy with the higher generation, copy 0 of equal ones: false is copy 0. -/
def Area.best {α : Type} (ok : α → Bool) (a : Area α) : Option Bool :=
  match a.copy0.valid ok, a.copy1.valid ok with
  | true, true => some (decide (a.copy0.generation < a.copy1.generation))
  | true, false => some false
  | false, true => some true
  | false, false => none

def Area.copy {α : Type} (a : Area α) (one : Bool) : Copy α := if one then a.copy1 else a.copy0

def Area.setCopy {α : Type} (a : Area α) (one : Bool) (c : Copy α) : Area α :=
  if one then { a with copy1 := c } else { a with copy0 := c }

/-- The content that a start restores. -/
def Area.restored {α : Type} (ok : α → Bool) (a : Area α) : Option α :=
  (a.best ok).map fun b => (a.copy b).content

/-- The copy a job writes: not the higher valid one; copy 0 when neither is valid. -/
def Area.target {α : Type} (ok : α → Bool) (a : Area α) : Bool :=
  match a.best ok with
  | none => false
  | some b => !b

/-- One greater than a generation; what follows the last one is a free value (log 11). -/
def nextGeneration (g free : Nat) : Nat := if g < max32 then g + 1 else (Config.generationAfterLast free).toNat

/-- The generation a job writes. -/
def Area.newGeneration {α : Type} (ok : α → Bool) (a : Area α) (free : Nat) : Nat :=
  match a.best ok with
  | none => 1
  | some b => nextGeneration (a.copy b).generation free

/-- A job's completed write. -/
def Area.write {α : Type} (ok : α → Bool) (a : Area α) (x : α) (free : Nat) : Area α :=
  a.setCopy (a.target ok) ⟨true, a.newGeneration ok free, x⟩

/-- A write cut off leaves its copy invalid, or as it was (log 10). -/
def Area.cutOff {α : Type} (ok : α → Bool) (a : Area α) (free : Nat) : Area α :=
  if Config.cutOffKeepsOld free then a
  else a.setCopy (a.target ok) { a.copy (a.target ok) with checksumOk := false }

/-! ## The configuration image -/

/-- A sorted list of (block, word) pairs with one block's word changed; zero words are not listed. -/
def setBlock (b : Nat) (w : BitVec 32) : List (Nat × BitVec 32) → List (Nat × BitVec 32)
  | [] => if w == 0 then [] else [(b, w)]
  | (c, v) :: rest =>
    if c < b then (c, v) :: setBlock b w rest
    else
      let tail := if c == b then rest else (c, v) :: rest
      if w == 0 then tail else (b, w) :: tail

/-- The word of a block; a block nothing has written reads as zero. -/
def getBlock (b : Nat) (blocks : List (Nat × BitVec 32)) : BitVec 32 :=
  match blocks.find? (·.1 == b) with
  | some (_, w) => w
  | none => 0

/-- The canonical form of a copy's blocks: block numbers rising, no zero word. -/
def blocksWf : List (Nat × BitVec 32) → Bool
  | [] => true
  | [(_, v)] => v != 0
  | (c, v) :: (d, w) :: rest => v != 0 && decide (c < d) && blocksWf ((d, w) :: rest)

/-- The blocks that an image of this length occupies (R191). -/
def imageBlocks (length : Nat) (blocks : List (Nat × BitVec 32)) : List (Nat × BitVec 32) :=
  blocks.filter fun x => decide (x.1 < length)

/-- The reading of a copy's blocks (R191): the header from blocks 0 to 3, the checksum and the fields from the
blocks below the header's length (log 8). -/
def readImage (blocks : List (Nat × BitVec 32)) : ImageView :=
  let h := Config.imageHeader (getBlock 0 blocks) (getBlock 1 blocks) (getBlock 2 blocks) (getBlock 3 blocks)
  let image := imageBlocks h.length blocks
  ⟨h.length, h.format, h.generation.toNat, Config.imageChecksum h.checksum image, Config.imageFields image⟩

def ImageCopy.write (c : ImageCopy) (b : Nat) (w : BitVec 32) : ImageCopy :=
  ⟨setBlock b w c.blocks, readImage (setBlock b w c.blocks)⟩

/-- A part-written staging copy fails its checksum (R190, log 10). -/
def ImageCopy.cutOff (c : ImageCopy) (b : Nat) (free : Nat) : ImageCopy :=
  let blocks := setBlock b (Config.cutOffBlock free) c.blocks
  ⟨blocks, { readImage blocks with checksumOk := false }⟩

def ParameterStore.modifyStaging (p : ParameterStore) (f : ImageCopy → ImageCopy) : ParameterStore :=
  if p.staging then { p with image1 := f p.image1 } else { p with image0 := f p.image0 }

/-- The image in force as a start chooses it (R187): false is copy 0. DEDUCED (log 74): a copy whose checksum fails
has no valid header, so the other copy is in force (R187, R191 and R190's Notes), where R190's Caution has that start go to
Limp (unsafe). -/
def ParameterStore.imageInForce (p : ParameterStore) : Option Bool :=
  match p.image0.view.headerValid, p.image1.view.headerValid with
  | true, true => some (decide (p.image0.view.generation < p.image1.view.generation))
  | true, false => some false
  | false, true => some true
  | false, false => none

/-! ## The job queue (R188) -/

def Job.isCheckpoint : Job → Bool | .checkpoint => true | _ => false
def Job.isGrade : Job → Bool | .gradeProfile _ => true | _ => false
def Job.isLimits : Job → Bool | .limitArea _ => true | _ => false
def Job.isHistory : Job → Bool | .history _ => true | _ => false
def Job.isService : Job → Bool | .serviceState _ => true | _ => false
def Job.isDays : Job → Bool | .dayRecords => true | _ => false

/-- The requests that wait on a job, but for a checkpoint's, which the Meter Unit holds (R129). -/
def Job.tickets : Job → List Ticket
  | .imageBlock _ _ t => [t]
  | .gradeProfile w | .limitArea w | .history w | .serviceState w => w
  | .checkpoint | .dayRecords => []

/-- A request joins a queued job (R40, R75, R152). -/
def Job.join (t : Ticket) : Job → Job
  | .gradeProfile w => .gradeProfile (w ++ [t])
  | .limitArea w => .limitArea (w ++ [t])
  | .history w => .history (w ++ [t])
  | .serviceState w => .serviceState (w ++ [t])
  | j => j

/-- Free places of the queue. -/
def freePlaces (s : State) : Nat := 6 - s.store.queue.length

def placeFree (s : State) : Bool := decide (s.store.queue.length < 6)

def setQueue (q : List Job) (s : State) : State := { s with store := { s.store with queue := q } }

/-- A job at the tail. -/
def queueJob (j : Job) (s : State) : State := setQueue (s.store.queue ++ [j]) s

def jobQueued (kind : Job → Bool) (s : State) : Bool := s.store.queue.any kind

/-- A change joins a queued job of its kind or finds a free place. -/
def canCarry (kind : Job → Bool) (s : State) : Bool := jobQueued kind s || placeFree s

/-- A request's change joins the queued job of its kind, or queues one. -/
def carry (kind : Job → Bool) (fresh : List Ticket → Job) (t : Ticket) (s : State) : State :=
  if jobQueued kind s then setQueue (mapWhere kind (Job.join t) s.store.queue) s
  else queueJob (fresh [t]) s

/-- Write times (R188). -/
def Job.time : Job → Nat
  | .imageBlock _ _ _ => 4
  | .checkpoint | .gradeProfile _ => 8
  | .limitArea _ | .history _ => 16
  | .serviceState _ | .dayRecords => 24

/-- The stored form of the envelope table (R40). -/
def storedLimits (s : State) : List StoredLimit :=
  s.limits.map fun e => ⟨e.config, e.state != .disabled⟩

/-- The stored form of the service items (R152). -/
def storedItems (s : State) : List (Option StoredItem) :=
  s.service.items.map fun o => o.map fun i =>
    ⟨i.config.code, i.config.basis, i.lastMeter, i.lastDate, i.meterStanding, i.dayStanding⟩

/-- What a job writes: its area as it stands when the write begins; a checkpoint writes its snapshot
(R131). -/
def jobContent (j : Job) (s : State) : Content :=
  match j with
  | .imageBlock b w _ => .imageBlock b w
  | .checkpoint => .checkpoint (s.meter.snapshot.getD ⟨0, s.meter.meters, s.economy.lifetime⟩)
  | .gradeProfile _ => .gradeProfile s.guidance.profile
  | .limitArea _ => .limitArea (storedLimits s)
  | .history _ => .history s.service.history
  | .serviceState _ => .serviceState (storedItems s)
  | .dayRecords => .dayRecords s.economy.days

/-- When no write is in flight, a job waits and no RESTART waits, the job at the head begins (R188); the
Meter Unit's job becomes InFlight (R132). -/
def beginWrite (s : State) : State :=
  match s.store.writing, s.restart, s.store.queue with
  | none, none, j :: rest =>
    { s with
      store := { s.store with queue := rest, writing := some ⟨j, jobContent j s, s.now + j.time⟩ }
      meter := if j.isCheckpoint then { s.meter with job := .inFlight } else s.meter }
  | _, _, _ => s

/-- The array after a write completes (R128, R187, R190). -/
def ParameterStore.programmed (p : ParameterStore) (c : Content) (free : Nat) : ParameterStore :=
  match c with
  | .imageBlock b w => p.modifyStaging fun i => i.write b w
  | .checkpoint x => { p with slots := p.slots.set (x.sequence % 8) ⟨true, x⟩ }
  | .gradeProfile x => { p with grade := p.grade.write profileOk x free }
  | .limitArea x => { p with limits := p.limits.write limitsOk x free }
  | .history x => { p with history := p.history.write historyOk x free }
  | .serviceState x => { p with service := p.service.write serviceAreaOk x free }
  | .dayRecords x => { p with days := p.days.write dayAreaOk x free }

/-- The array after a write is cut off (R128, R181, R189; log 10). -/
def ParameterStore.spoiled (p : ParameterStore) (c : Content) (free : Nat) : ParameterStore :=
  match c with
  | .imageBlock b _ => p.modifyStaging fun i => i.cutOff b free
  | .checkpoint x =>
    if Config.cutOffKeepsOld free then p
    else { p with slots := p.slots.modify (x.sequence % 8) fun y => { y with checksumOk := false } }
  | .gradeProfile _ => { p with grade := p.grade.cutOff profileOk free }
  | .limitArea _ => { p with limits := p.limits.cutOff limitsOk free }
  | .history _ => { p with history := p.history.cutOff historyOk free }
  | .serviceState _ => { p with service := p.service.cutOff serviceAreaOk free }
  | .dayRecords _ => { p with days := p.days.cutOff dayAreaOk free }

/-- Loss of the main supply: the write in flight is cut off and every queued job is lost (R181). -/
def cutOffStore (s : State) : State :=
  match s.store.writing with
  | none => setQueue [] s
  | some w =>
    useFree { s with store :=
      { s.store.spoiled w.content s.freeCount with queue := [], writing := none } }

end Sys2Proof.Machine
end

