-- ==== Sys2Proof/Machine/Economy.lean ====
section
/-! DEFINITION. The Economy Unit (R86 to R107): the state machine, fuel accounts, day records. ENGINE_REQ's
placement on a change stands in Publish.lean, since its fields are functions of the state (Flags.lean). -/

namespace Sys2Proof.Machine

/-! ## The state machine (R91 to R97) -/

/-- Enter a state with every timer stopped. -/
def EconomyUnit.enter (e : EconomyUnit) (st : EconomyState) : EconomyUnit :=
  { e with state := st, waitTimer := none, shutdownTimer := none, resumeTimer := none }

def setEconomy (e : EconomyUnit) (s : State) : State := { s with economy := e }

def enterEconomy (st : EconomyState) (s : State) : State := setEconomy (s.economy.enter st) s

/-- IdleWait with the wait timer started (R92). -/
def enterIdleWait (s : State) : State :=
  setEconomy { s.economy.enter .idleWait with waitTimer := some (s.now + 1000 * s.config.economy.idleWait) } s

/-- Resuming with the resume timer started (R93). -/
def enterResuming (s : State) : State :=
  setEconomy { s.economy.enter .resuming with resumeTimer := some (s.now + 2000) } s

/-- Idling, with the shutdown timer started unless its time is 0 (R92). -/
def enterIdling (s : State) : State :=
  setEconomy { s.economy.enter .idling with
    shutdownTimer :=
      if s.config.economy.autoShutdown == 0 then none
      else some (s.now + 1000 * s.config.economy.autoShutdown) } s

/-- An event that makes the engine not running (R91). -/
def engineStopped (s : State) : State :=
  match s.economy.state with
  | .stopped | .forced => s
  | _ => enterEconomy .stopped s

/-- The engine speed lies within 50 rpm of the working speed of the mode in force (R94). -/
def speedReached (s : State) (speed : Nat) : Bool :=
  decide (((speed : Int) - workingSpeed s (modeInForce s)).natAbs ≤ 50)

/-- An accepted ENGINE_RUN arrival (R91, R94). -/
def economyEngineRun (running : Bool) (speed : Nat) (s : State) : State :=
  if !running then engineStopped s
  else
    match s.economy.state with
    | .stopped => enterEconomy .working s
    | .resuming => if speedReached s speed then enterEconomy .working s else s
    | _ => s

/-- An event that makes pilot activity present (R92, R93, R95). -/
def activityPresent (s : State) : State :=
  match s.economy.state with
  | .idleWait => enterEconomy .working s
  | .idling | .shutdownPending => enterResuming s
  | _ => s

/-- A PILOT arrival with pilot activity absent (R92, R94). -/
def activityAbsent (s : State) : State :=
  match s.economy.state with
  | .working =>
    if s.intervention.list.isEmpty then enterIdleWait s else enterEconomy .held s
  | .resuming => enterIdleWait s
  | _ => s

/-- An accepted PILOT arrival at the Economy Unit. -/
def economyPilot (s : State) : State :=
  if pilotActive s then activityPresent s else activityAbsent s

/-- A raise has made the intervention list non-empty (R96). -/
def listNonEmpty (s : State) : State :=
  match s.economy.state with
  | .idleWait | .idling | .resuming | .shutdownPending => enterEconomy .held s
  | _ => s

/-- A removal has emptied the intervention list (R96). -/
def listEmpty (s : State) : State :=
  match s.economy.state with
  | .held => enterEconomy .working s
  | _ => s

/-- Cut supervision enters Hold (R97). -/
def economyForced (s : State) : State := enterEconomy .forced s

/-- Wait expiry (R92). -/
def waitExpired (s : State) : State :=
  match s.economy.state with
  | .idleWait => enterIdling s
  | _ => s

/-- Shutdown expiry (R93). -/
def shutdownExpired (s : State) : State :=
  match s.economy.state with
  | .idling => enterEconomy .shutdownPending s
  | _ => s

/-- Resume expiry (R94). -/
def resumeExpired (s : State) : State :=
  match s.economy.state with
  | .resuming => enterEconomy .working s
  | _ => s

/-! ## Fuel (R102) -/

def DayRecord.addFuel (r : DayRecord) (n : Nat) (idling : Bool) : DayRecord :=
  { r with fuel := satAdd maxAccount r.fuel n,
           idleFuel := if idling then satAdd maxAccount r.idleFuel n else r.idleFuel }

def ShiftTotals.addFuel (t : ShiftTotals) (n : Nat) (idling : Bool) : ShiftTotals :=
  { t with fuel := satAdd maxAccount t.fuel n,
           idleFuel := if idling then satAdd maxAccount t.idleFuel n else t.idleFuel }

/-- The interval an arrival integrates over (R102 step 1). -/
def fuelInterval (now : Nat) : Option Nat → Nat
  | none => 0
  | some t => min 1000 (now - t)

/-- An accepted ENGINE_FUEL arrival (R102). -/
def integrateFuel (rate : Nat) (s : State) : State :=
  let e := s.economy
  let sum := rate * fuelInterval s.now e.fuelFrom + e.residue
  let n := sum / 720000
  let idling := e.state == .idling
  setEconomy { e with
    fuelFrom := some s.now
    residue := sum % 720000
    lifetime := satAdd max32 e.lifetime n
    days := { e.days with opened := e.days.opened.addFuel n idling,
                          shift := e.days.shift.addFuel n idling } } s

/-! ## Day records (R103 to R107) -/

def setDays (f : DayArea → DayArea) (s : State) : State :=
  setEconomy { s.economy with days := f s.economy.days } s

def modifyOpened (f : DayRecord → DayRecord) (s : State) : State :=
  setDays (fun a => { a with opened := f a.opened }) s

/-- A seconds event at the Economy Unit (R103, R104). -/
def economySecond (s : State) : State :=
  if engineRunning s then
    setDays (fun a => { a with
      opened := { a.opened with engineSeconds := satAdd maxEngineSeconds a.opened.engineSeconds 1 }
      shift := { a.shift with engineSeconds := satAdd maxEngineSeconds a.shift.engineSeconds 1 } }) s
  else s

/-- A ShiftStart firing (R103). -/
def shiftStart (s : State) : State := setDays (fun a => { a with shift := ⟨0, 0, 0⟩ }) s

/-- A completed cycle at the Economy Unit (R85, R104). -/
def economyCycle (s : State) : State :=
  modifyOpened (fun r => { r with cycles := satAdd 65535 r.cycles 1 }) s

/-- A raise announcement at the Economy Unit (R50, R104). -/
def economyRaise (s : State) : State :=
  modifyOpened (fun r => { r with interventions := satAdd 65535 r.interventions 1 }) s

/-- A day-record job is wanted (R106). DEDUCED (log 39): a queued job carries the want, a job in flight does not,
and a want that queues a job clears write-pending. -/
def wantDayJob (s : State) : State :=
  if jobQueued Job.isDays s then s
  else if placeFree s then
    let s := queueJob .dayRecords s
    setEconomy { s.economy with writePending := false } s
  else setEconomy { s.economy with writePending := true } s

/-- The open record closes into the ring and a new one opens (R105). -/
def DayArea.close (a : DayArea) (d : Option Date) : DayArea :=
  { a with ring := keepNewest 14 (a.ring ++ [a.opened]), opened := .opened d }

/-- The day rollover at the Economy Unit (R105). -/
def economyRollover (s : State) : State := wantDayJob (setDays (fun a => a.close (datedNow s)) s)

/-- A set of the clock at the Economy Unit, over the date before and the clock after it (R105, R115). DEDUCED (log 75):
of an Unset clock the date before is the false date that it shows, which has counted on from 2000-01-01 past each
midnight since (R108, R113), not 2000-01-01 always, as R105's words name it (unsafe). -/
def economyClockSet (before : Date) (s : State) : State :=
  let s := modifyOpened (fun r => { r with clockSet := true }) s
  if before == s.time.clock.day then s else economyRollover s

/-- The restored open record stays open (R107). -/
def staysOpen (a : DayArea) (today : Option Date) : Bool :=
  match a.opened.date with
  | none => true
  | some d => today == some d

/-- The restore of the day-record area, and of the lifetime fuel by it (R107). DEDUCED (log 53): the lifetime fuel
is compared with the open record that stands when the restore has closed the stored one, or kept it. -/
def restoreDays (s : State) : State :=
  let today := datedNow s
  let s :=
    match s.store.days.restored dayAreaOk with
    | none =>
      wantDayJob (report .dayAreaLost economyBlock
        (setDays (fun _ => ⟨[], .opened today, ⟨0, 0, 0⟩⟩) s))
    | some a =>
      if staysOpen a today then setDays (fun _ => a) s
      else wantDayJob (setDays (fun _ => a.close today) s)
  setEconomy { s.economy with lifetime := max s.economy.lifetime s.economy.days.opened.fuel } s

end Sys2Proof.Machine
end

