-- ==== Sys2Proof/Machine/Service.lean ====
section
/-! DEFINITION. The Service Unit (R138 to R155): standings, evaluations, notices, acknowledgements, the derate
flag, SERVICE_DONE's changes, restore and start evaluation. -/

namespace Sys2Proof.Machine

/-! ## Standings (R140, R141) -/

/-- The standing of an elapsed amount against interval, lead and grace (R140). -/
def standingOf (e interval lead grace : Nat) : Standing :=
  if interval == 0 then .ok
  else if e < interval - lead then .ok
  else if e < interval then .dueSoon
  else if e ≤ interval + grace then .due
  else .overdue

/-- A meter's value (R121); a number that names no meter has none. -/
def Meters.value (m : Meters) (n : Nat) : Option MeterValue :=
  if n == 7 then some (.count m.cycles)
  else (m.times[n]?).map fun t => .time t.hours t.seconds

def MeterValue.amount : MeterValue → Nat
  | .time h sec => h * 3600 + sec
  | .count n => n

/-- A meter value with an interval's unit: hours count in seconds, cycles as they are (R140). -/
def MeterValue.unit : MeterValue → Nat
  | .time _ _ => 3600
  | .count _ => 1

/-- The meter standing an evaluation forms (R140). -/
def meterStandingOf (i : ServiceItem) (m : Meters) : Standing :=
  match i.config.basis.bind m.value, i.lastMeter with
  | some v, some last =>
    standingOf (v.amount - last.amount) (i.config.meterInterval * v.unit)
      (i.config.meterLead * v.unit) (i.config.meterGrace * v.unit)
  | _, _ => .ok

/-- The day standing a calendar evaluation forms on a date (R141). -/
def dayStandingOf (i : ServiceItem) (today : Date) : Standing :=
  match i.lastDate with
  | none => .ok
  | some d =>
    standingOf (dayNumber today - dayNumber d) i.config.dayInterval i.config.dayLead i.config.dayGrace

/-! ## Store writes (R152) -/

def setService (u : ServiceUnit) (s : State) : State := { s with service := u }

/-- A service-state write is wanted. -/
def wantServiceJob (s : State) : State :=
  if jobQueued Job.isService s then s
  else if placeFree s then
    let s := queueJob (.serviceState []) s
    setService { s.service with writePending := false } s
  else setService { s.service with writePending := true } s

/-! ## Changes of state (R142, R149) -/

/-- The derate flag is formed afresh. -/
def formDerate (s : State) : State :=
  setService { s.service with derate := derateWanted s.service.items } s

/-- An item takes new standings, with the effects of R142. -/
def restand (i : Nat) (item : ServiceItem) (m d : Standing) (s : State) : State :=
  let new := { item with meterStanding := m, dayStanding := d }
  if m == item.meterStanding && d == item.dayStanding then s
  else if new.state == item.state then wantServiceJob (setItem i new s)
  else if item.state.num < new.state.num then
    let risen := { new with acknowledged := false }
    wantServiceJob (formDerate (queueServiceNotice i risen .rise (setItem i risen s)))
  else if new.state == .ok then
    wantServiceJob (formDerate (setItem i { new with acknowledged := false, owed := none } s))
  else wantServiceJob (formDerate (setItem i new s))

/-- `f` applied to each in-use item in index order, which R146 gives for reminders. DESIGN CHOICE (log 69): meter and
calendar evaluations and the day counts that begin take the items in index order too. -/
def forItems (f : Nat → ServiceItem → State → State) (s : State) : State :=
  (List.range 24).foldl (fun s i =>
    match s.service.items[i]? with
    | some (some item) => f i item s
    | _ => s) s

/-- A meter evaluation on the announcement of meter `n` (R143). -/
def serviceMeter (n : Nat) (s : State) : State :=
  forItems (fun i item s =>
    if item.config.basis == some n then
      restand i item (meterStandingOf item s.meter.meters) item.dayStanding s
    else s) s

/-- A calendar evaluation (R144). -/
def serviceCalendar (s : State) : State :=
  match datedNow s with
  | none => s
  | some today =>
    forItems (fun i item s => restand i item item.meterStanding (dayStandingOf item today) s) s

/-- The day counts that begin at a rollover taken while the clock is Running (R141, log 38). -/
def beginDayCounts (s : State) : State :=
  match datedNow s with
  | none => s
  | some today =>
    forItems (fun i item s =>
      if item.lastDate.isNone then wantServiceJob (setItem i { item with lastDate := some today } s)
      else s) s

/-- The day rollover at the Service Unit (R144). -/
def serviceRollover (s : State) : State := serviceCalendar (beginDayCounts s)

/-- A ReminderTime firing of entry `k` (R146). -/
def serviceReminder (k : Nat) (s : State) : State :=
  forItems (fun i item s =>
    if item.config.reminder == some k && item.state != .ok && !item.acknowledged then
      queueServiceNotice i item .reminder s
    else s) s

/-- A ShiftStart firing (R148). -/
def serviceShiftStart (s : State) : State :=
  setService { s.service with
    items := s.service.items.map fun o => o.map fun i => { i with acknowledged := false } } s

/-! ## SERVICE_DONE (R150 to R152) -/

/-- The new jobs a SERVICE_DONE needs. -/
def serviceJobsNeeded (s : State) : Nat :=
  (if jobQueued Job.isService s then 0 else 1) + (if jobQueued Job.isHistory s then 0 else 1)

/-- Steps 1 to 5 of R150 for one item. DESIGN CHOICE (log 65): the service-state job is placed before the history
job. -/
def recordService (i : Nat) (item : ServiceItem) (t : Ticket) (s : State) : State :=
  let done : ServiceItem := { item with
    lastMeter := item.config.basis.bind s.meter.meters.value
    lastDate := datedNow s
    meterStanding := .ok
    dayStanding := .ok
    acknowledged := false
    owed := none }
  let entry : HistoryEntry :=
    ⟨i, item.config.code, item.config.basis, done.lastMeter, done.lastDate, t.station⟩
  let s := formDerate (setItem i done s)
  let s := setService { s.service with
    history := keepNewest 32 (s.service.history ++ [entry]), writePending := false } s
  carry Job.isHistory .history t (carry Job.isService .serviceState t s)

/-! ## Restore and start evaluation (R153, R154) -/

/-- An item that starts afresh (R153). -/
def freshItem (c : ItemConfig) (m : Meters) : ServiceItem :=
  ⟨c, c.basis.bind m.value, none, .ok, .ok, false, none⟩

/-- One place's item, taken back from the store if code and basis agree (R153). -/
def restoredItem (c : ItemConfig) (m : Meters) : Option StoredItem → ServiceItem
  | none => freshItem c m
  | some st =>
    if st.code == c.code && st.basis == c.basis then
      ⟨c, st.lastMeter, st.lastDate, st.meterStanding, st.dayStanding, false, none⟩
    else freshItem c m

/-- The start evaluation of one item (R154 steps 1 to 3). -/
def startItem (m : Meters) (today : Option Date) (item : ServiceItem) : ServiceItem :=
  let new := { item with
    meterStanding := meterStandingOf item m
    dayStanding := match today with
      | some d => dayStandingOf item d
      | none => item.dayStanding }
  { new with owed := if item.state.num < new.state.num then some .rise else none }

/-- The items a start builds and restores, before the start evaluation. -/
def restoredItems (configs : List (Option ItemConfig)) (stored : Option (List (Option StoredItem)))
    (m : Meters) : List (Option ServiceItem) :=
  (indexed configs).map fun (i, o) => o.map fun c =>
    restoredItem c m (stored.bind fun l => (l[i]?).join)

def standingsChanged (before after : List (Option ServiceItem)) : Bool :=
  before.map (Option.map fun i => (i.meterStanding, i.dayStanding))
    != after.map (Option.map fun i => (i.meterStanding, i.dayStanding))

/-- The history area wants a job: it joins a queued one or is queued. At a start the queue has room. -/
def wantHistoryJob (s : State) : State :=
  if jobQueued Job.isHistory s then s else queueJob (.history []) s

/-- The restore of both areas, then the start evaluation (R153, R154). DESIGN CHOICE (log 70): the fault and the job of
a lost service-state area come before those of a lost history area. -/
def restoreService (s : State) : State :=
  let stored := s.store.service.restored serviceAreaOk
  let before := restoredItems s.config.items stored s.meter.meters
  let after := before.map (Option.map (startItem s.meter.meters (datedNow s)))
  let s := formDerate (setService { s.service with
    items := after, history := (s.store.history.restored historyOk).getD [] } s)
  let s := if stored.isNone then wantServiceJob (report .serviceAreaLost serviceBlock s) else s
  let s :=
    if (s.store.history.restored historyOk).isNone then
      wantHistoryJob (report .historyAreaLost serviceBlock s)
    else s
  if standingsChanged before after then wantServiceJob s else s

end Sys2Proof.Machine
end

