-- ==== Sys2Proof/Machine/Meter.lean ====
section
/-! DEFINITION. The Meter Unit (R121 to R137): advances, announcements, SET_METER's change, checkpoints and
their restore. -/

namespace Sys2Proof.Machine

def setMeterUnit (u : MeterUnit) (s : State) : State := { s with meter := u }

/-! ## Advances (R122 to R125) -/

/-- One second added to a time meter (R123). -/
def TimeMeter.advance (m : TimeMeter) : TimeMeter :=
  if m.seconds < 3599 then { m with seconds := m.seconds + 1 }
  else if m.hours < maxHours then ⟨m.hours + 1, 0⟩
  else m

/-- The advance reaches a tenth of an hour and changes the meter (R125). -/
def TimeMeter.tenthReached (m : TimeMeter) : Bool := m.advance != m && m.advance.seconds % 360 == 0

/-- The condition of a time meter (R122). In Limp KeyOn alone advances. -/
def meterCondition (s : State) (n : Nat) : Bool :=
  if n == 6 then s.pins.keyOn
  else s.power == .running &&
    match n with
    | 0 => engineRunning s
    | 1 => pumpAbove s s.config.workThreshold && controlsInUse s
    | 2 => s.economy.state == .idling
    | 3 => pumpAbove s s.config.heavyThreshold
    | 4 => slewing s
    | 5 => travelReported s
    | _ => false

/-- The Service Unit takes an announcement in Running only (R154). -/
def announceMeter (n : Nat) (s : State) : State := if s.power == .running then serviceMeter n s else s

/-- The time meters whose condition holds each advance by one second. -/
def advancedTimes (s : State) : List TimeMeter :=
  (indexed s.meter.meters.times).map fun (n, m) => if meterCondition s n then m.advance else m

/-- The meters that announce a tenth-hour at this second. -/
def tenthHours (s : State) : List Nat :=
  (indexed s.meter.meters.times).filterMap fun (n, m) =>
    if meterCondition s n && m.tenthReached then some n else none

/-- A completed cycle at the Meter Unit (R124, R125). -/
def meterCycle (s : State) : State :=
  if s.meter.keyOffTaken || maxCycles ≤ s.meter.meters.cycles then s
  else
    announceMeter 7 (setMeterUnit { s.meter with
      meters := { s.meter.meters with cycles := s.meter.meters.cycles + 1 } } s)

/-! ## Checkpoints (R130 to R134) -/

/-- A meter's value as bytes in a reply: hours or count, then seconds of a time meter (R197). -/
def meterValueBytes (m : Meters) (n : Nat) : List Byte :=
  match m.value n with
  | some (.time h sec) => le 4 h ++ le 2 sec
  | some (.count c) => le 4 c
  | none => []

/-- SET_METER's Done reply: number and value (R127). -/
def setMeterReply (m : Meters) (n : Nat) : List Byte := byte n :: meterValueBytes m n

/-- Each of these waiters is answered Done, with its meter as it stands (R132), in the order in which they joined
(DESIGN CHOICE, log 59). -/
def answerWaiters (l : List Waiter) (s : State) : State :=
  l.foldl (fun s w => finishRequest w.ticket .done (setMeterReply s.meter.meters w.ticket.index) s) s

/-- The sequence counter is exhausted (R134). -/
def checkpointExhausted (s : State) : Bool := decide (max32 ≤ s.meter.sequence)

def exhaustCheckpoints (s : State) : State :=
  report .checkpointExhausted meterBlock
    (answerWaiters s.meter.waiters
      (setMeterUnit { s.meter with pending := .clear, waiters := [] } s))

/-- A checkpoint of the meters and the lifetime fuel as they stand. -/
def snapshotNow (s : State) (seq : Nat) : Checkpoint := ⟨seq, s.meter.meters, s.economy.lifetime⟩

/-- A checkpoint job is queued with the next sequence and a fresh snapshot (R131), at the head if urgent. -/
def queueCheckpoint (urgent : Bool) (s : State) : State :=
  let seq := s.meter.sequence + 1
  let s := setMeterUnit { s.meter with
    sequence := seq, job := .queued, snapshot := some (snapshotNow s seq) } s
  if urgent then setQueue (.checkpoint :: s.store.queue) s else queueJob .checkpoint s

/-- Pending is cleared, and its waiters are marked on the job (R131, R133). -/
def takeOverPending (s : State) : State :=
  setMeterUnit { s.meter with
    pending := .clear
    waiters := s.meter.waiters.map fun w => { w with onPending := false } } s

def PendingMark.wanted : PendingMark → PendingMark
  | .setUrgent => .setUrgent
  | _ => .set

/-- A checkpoint is wanted other than by SET_METER (R130, R131, R134). -/
def wantCheckpoint (s : State) : State :=
  if checkpointExhausted s then exhaustCheckpoints s
  else
    match s.meter.job with
    | .none =>
      if placeFree s then queueCheckpoint false s
      else setMeterUnit { s.meter with pending := .set } s
    | .queued | .inFlight => setMeterUnit { s.meter with pending := s.meter.pending.wanted } s

/-- SET_METER's want, over the changed meter: the request joins the waiters (R131, R134). -/
def wantCheckpointFor (t : Ticket) (s : State) : State :=
  let waiting := s.meter.job != .none
  wantCheckpoint (setMeterUnit { s.meter with waiters := s.meter.waiters ++ [⟨t, waiting⟩] } s)

/-- A supply drop in Running or Limp (R133; R134 and log 43 for the exhausted counter). -/
def urgentCheckpoint (s : State) : State :=
  match s.meter.job with
  | .queued =>
    let s := takeOverPending (setMeterUnit { s.meter with
      snapshot := s.meter.snapshot.map fun c => snapshotNow s c.sequence } s)
    setQueue (.checkpoint :: eraseFirst Job.isCheckpoint s.store.queue) s
  | .none => if checkpointExhausted s then exhaustCheckpoints s else takeOverPending (queueCheckpoint true s)
  | .inFlight =>
    if checkpointExhausted s then exhaustCheckpoints s
    else setMeterUnit { s.meter with pending := .setUrgent } s

/-- The pending checkpoint is offered a place after a store job completes (R131, R132). -/
def offerPendingCheckpoint (s : State) : State :=
  if s.meter.job != .none then s
  else
    match s.meter.pending with
    | .clear => s
    | .set =>
      if checkpointExhausted s then exhaustCheckpoints s
      else if placeFree s then takeOverPending (queueCheckpoint false s)
      else s
    | .setUrgent =>
      if checkpointExhausted s then exhaustCheckpoints s else takeOverPending (queueCheckpoint true s)

/-- The write of a checkpoint completes at the Meter Unit (R132). The follow-up is queued by the offering. -/
def checkpointCompleted (seq : Nat) (s : State) : State :=
  let answered := s.meter.waiters.filter fun w => !w.onPending
  let s := setMeterUnit { s.meter with
    lastCompleted := some seq
    waiters := s.meter.waiters.filter (·.onPending)
    job := .none
    snapshot := none } s
  endFault .meterLoss meterBlock (answerWaiters answered s)

/-! ## The seconds event (R113, R122, R130) -/

/-- The Meter Unit takes a seconds event. DESIGN CHOICE (log 58): the meters advance, then a periodic checkpoint
may be wanted, and then the tenth-hours are announced in meter order. -/
def meterSecond (s : State) : State :=
  if s.meter.keyOffTaken then s
  else
    let tenths := tenthHours s
    let s := setMeterUnit { s.meter with
      meters := { s.meter.meters with times := advancedTimes s } } s
    let s :=
      if !s.pins.keyOn then s
      else if s.meter.periodic < 359 then
        setMeterUnit { s.meter with periodic := s.meter.periodic + 1 } s
      else wantCheckpoint (setMeterUnit { s.meter with periodic := 0 } s)
    tenths.foldl (fun s n => announceMeter n s) s

/-! ## Restore (R135) -/

/-- The valid slot with the highest sequence. -/
def newestSlot : List Slot → Option Checkpoint
  | [] => none
  | x :: xs =>
    match newestSlot xs with
    | none => if x.valid then some x.content else none
    | some c => if x.valid && decide (c.sequence ≤ x.content.sequence) then some x.content else some c

def restoreCheckpoint (s : State) : State :=
  match newestSlot s.store.slots with
  | some c =>
    setEconomy { s.economy with lifetime := c.lifetime }
      (setMeterUnit { s.meter with meters := c.meters, sequence := c.sequence } s)
  | none => wantCheckpoint (report .meterLoss meterBlock s)

end Sys2Proof.Machine
end

