-- ==== Sys2Proof/Machine/Guidance.lean ====
section
/-! DEFINITION. The Guidance Unit (R70 to R85): profile, scan, guidance result, work-cycle detector. -/

namespace Sys2Proof.Machine

def setGuidance (g : GuidanceUnit) (s : State) : State := { s with guidance := g }

/-! ## The grade profile (R73) -/

def Segment.contains (g : Segment) (r : Int) : Bool := decide (g.reachFrom ≤ r) && decide (r < g.reachTo)

/-- The design height of a segment at a reach, above the benchmark. -/
def Segment.heightAt (g : Segment) (r : Int) : Int :=
  roundDiv (1000 * g.height + g.slope * (r - g.reachFrom)) 1000

/-- The present segments with their indexes, in index order. -/
def presentPlaces (p : List (Option Segment)) : List (Nat × Segment) :=
  (indexed p).filterMap fun (i, o) => o.map fun g => (i, g)

/-- The lowest present index, or 0 (R70, R74). -/
def lowestPresent (p : List (Option Segment)) : Nat :=
  match presentPlaces p with
  | [] => 0
  | (i, _) :: _ => i

/-- The region of a reach that no segment contains (R73). -/
def regionOf (places : List (Nat × Segment)) (r : Int) : ScanResult :=
  match places, places.getLast? with
  | (_, first) :: _, some (_, last) =>
    if r < first.reachFrom || last.reachTo ≤ r then .offProfile else .inGap
  | _, _ => .noProfile

/-! ## The scan (R76) -/

inductive Direction where
  | outward | inward | inPlace
  deriving DecidableEq, Repr

def directionOf (previous : Option Int) (r : Int) : Direction :=
  match previous with
  | none => .outward
  | some p => if p < r then .outward else if r < p then .inward else .inPlace

/-- The places a scan may examine, in the order it examines them, from the place it begins at. -/
def scanOrder (places : List (Nat × Segment)) (i : Nat) (d : Direction) : List (Nat × Segment) :=
  let outward := places.filter fun x => decide (i ≤ x.1)
  let start := match outward.head? with
    | some (j, _) => j
    | none => ((places.getLast?).map (·.1)).getD i
  match d with
  | .outward => places.filter fun x => decide (start ≤ x.1)
  | .inward => (places.filter fun x => decide (x.1 ≤ start)).reverse
  | .inPlace => places.filter fun x => x.1 == start

/-- Whether the scan goes on past a segment that does not contain `r`. -/
def goesOn (d : Direction) (g : Segment) (r : Int) : Bool :=
  match d with
  | .outward => decide (g.reachTo ≤ r)
  | .inward => decide (r < g.reachFrom)
  | .inPlace => false

/-- The walk: the index of the segment last examined, and whether it contains `r`. -/
def walk (d : Direction) (r : Int) : List (Nat × Segment) → Option (Nat × Bool)
  | [] => none
  | (i, g) :: rest =>
    if g.contains r then some (i, true)
    else if goesOn d g r then
      match walk d r rest with
      | some w => some w
      | none => some (i, false)
    else some (i, false)

/-- A scan for one reach. -/
def GuidanceUnit.scanAt (g : GuidanceUnit) (r : Int) : GuidanceUnit :=
  let places := presentPlaces g.profile
  match walk (directionOf g.previousReach r) r (scanOrder places g.scanIndex (directionOf g.previousReach r)) with
  | none => { g with scan := .noProfile }
  | some (i, found) =>
    { g with scanIndex := i, previousReach := some r, scan := if found then .found i else regionOf places r }

/-! ## The guidance result (R77, R78) -/

/-- The segment the latest scan found. -/
def foundSegment (g : GuidanceUnit) : Option (Nat × Segment) :=
  match g.scan with
  | .found i => match g.profile[i]? with
    | some (some seg) => some (i, seg)
    | _ => none
  | _ => none

def reasonOf (s : State) : Reason :=
  match s.pose.pose.quality with
  | .invalid => .poseInvalid
  | .degraded => .poseDegraded
  | .valid =>
    if s.guidance.benchmark.isNone then .noBenchmark
    else
      match s.guidance.scan with
      | .noProfile => .noProfile
      | .offProfile => .offProfile
      | .inGap => .inGap
      | .found _ => .none

def bandOf (f e : Int) : Band := if f < e then .above else if e < -f then .below else .onGrade

/-- An entry that R78 considers. -/
def floorConsidered (slew : BinAngle) (e : LimitEntry) : Bool :=
  e.config.kind == .depthFloor && e.state != .disabled && e.last.isSome && inScope e.config.scope slew

/-- The nearest depth floor: the smallest last clearance, of equal ones the lowest index (R78). -/
def nearestFloor (slew : BinAngle) : List (Nat × LimitEntry) → Option Floor
  | [] => none
  | (i, e) :: rest =>
    match floorConsidered slew e, e.last, nearestFloor slew rest with
    | true, some c, none => some ⟨i, c, e.state, e.warning⟩
    | true, some c, some f => if c ≤ f.clearance then some ⟨i, c, e.state, e.warning⟩ else some f
    | _, _, other => other

/-- The guidance result formed afresh. -/
def guidanceResult (s : State) : GuidanceResult :=
  let reason := reasonOf s
  let found := foundSegment s.guidance
  let p := s.pose.pose
  let height := found.map fun (_, g) => g.heightAt p.reach
  let error := match reason, s.guidance.benchmark, height with
    | .none, some b, some h => some (clampInt (-32767) 32767 (p.tip - (b + h)))
    | _, _, _ => none
  { reason := reason
    tipError := error
    band := error.map (bandOf s.config.fineBand)
    segment := found.map (·.1)
    height := match reason with
      | .none | .poseDegraded => height
      | _ => none
    floor := nearestFloor p.slewAngle (indexed s.limits) }

def formGuidance (s : State) : State := setGuidance { s.guidance with result := guidanceResult s } s

/-- A scan on the present pose record, then the result (R76, R77). -/
def scanAndForm (s : State) : State := formGuidance (setGuidance (s.guidance.scanAt s.pose.pose.reach) s)

/-! ## The work-cycle detector (R81 to R85) -/

def stageTime : Nat := 20000

/-- Entry into a stage, with the stage timer started afresh. -/
def enterStage (d : Detector) (s : State) : State :=
  setGuidance { s.guidance with detector := d, stageTimer := some (s.now + stageTime) } s

/-- A change into Idle, with how the cycle ended. -/
def endCycle (o : CycleOutcome) (s : State) : State :=
  setGuidance { s.guidance with detector := .idle, digAngle := none, stageTimer := none, outcome := o } s

/-- A cycle in progress is abandoned (R84). -/
def abandonCycle (s : State) : State :=
  if s.guidance.detector == .idle then s else endCycle .abandoned s

/-- A completed cycle is delivered (R85). -/
def completeCycle (s : State) : State := economyCycle (meterCycle (endCycle .completed s))

/-- The slew difference lies beyond the swing limit (R81). -/
def swungAway (s : State) : Bool :=
  match s.guidance.digAngle with
  | some a => decide (5461 < (signedDiff s.pose.pose.slewAngle a).natAbs)
  | none => false

/-- The Returning stage's test. -/
def testReturn (s : State) : State := if swungAway s then s else completeCycle s

/-- The conditions of the entry into Digging (R81). -/
def digBegins (s : State) : Bool :=
  (match livePayload s .pilot with
   | some (.pilot motions travel) => motions.meets MotionSet.bucketCurl && !travel
   | _ => false)
  && pumpAbove s s.config.digThreshold && s.pose.pose.quality != .invalid

def beginDig (s : State) : State :=
  let s := enterStage .digging s
  setGuidance { s.guidance with digAngle := some s.pose.pose.slewAngle } s

/-- An accepted PUMP arrival at the detector. -/
def detectorPump (s : State) : State :=
  if s.guidance.detector == .idle && digBegins s then beginDig s else s

/-- An accepted PILOT arrival at the detector. -/
def detectorPilot (s : State) : State :=
  let dump := (pilotMotions s).meets MotionSet.bucketDump
  match s.guidance.detector with
  | .idle => if digBegins s then beginDig s else s
  | .swingLoaded => if dump then enterStage .dumping s else s
  | .dumping => if dump then s else testReturn (enterStage .returning s)
  | .digging | .returning => s

/-- A pose update at the detector (R81, R82). -/
def detectorPose (s : State) : State :=
  if s.pose.pose.quality == .invalid then abandonCycle s
  else
    match s.guidance.detector with
    | .digging => if swungAway s then enterStage .swingLoaded s else s
    | .returning => testReturn s
    | _ => s

/-- A pose update that the detector would take as the end of a cycle. -/
def wouldComplete (s : State) : Bool :=
  s.pose.pose.quality != .invalid && s.guidance.detector == .returning && !swungAway s

/-- Stage expiry (R83). -/
def stageExpired (s : State) : State :=
  if s.guidance.detector == .idle then s else endCycle .timedOut s

/-- An accepted PILOT arrival at the Guidance Unit (R72, R81, R84). With Travel a cycle in progress is abandoned
and the detector's table is not consulted (DESIGN CHOICE, log 51); no benchmark is held afterwards. DEDUCED (log 78):
the guidance result is formed afresh also where no benchmark was held. -/
def guidancePilot (s : State) : State :=
  if pilotTravel s then
    let s := abandonCycle s
    formGuidance (setGuidance { s.guidance with benchmark := none } s)
  else detectorPilot s

/-- A pose update at the Guidance Unit (R76, R77, R81). -/
def guidancePose (s : State) : State := detectorPose (scanAndForm s)

/-! ## Restore (R70, R75) -/

/-- The scan state over a profile at start (R70). -/
def GuidanceUnit.over (g : GuidanceUnit) (p : List (Option Segment)) : GuidanceUnit :=
  { g with
    profile := p
    scanIndex := lowestPresent p
    scan := if (presentPlaces p).isEmpty then .noProfile else .offProfile }

/-- The grade profile's restore (R75). -/
def restoreGrade (s : State) : State :=
  match s.store.grade.restored profileOk with
  | some p => setGuidance (s.guidance.over p) s
  | none => report .gradeAreaLost guidanceBlock (queueJob (.gradeProfile []) s)

end Sys2Proof.Machine
end

