-- ==== Sys2Proof/Machine/Intervention.lean ====
section
/-! DEFINITION. The Intervention Unit (R43 to R69): records, the cut and slow sets, confirmation, Hold. An event
at the list is a chain of `Work` steps, closed by `interventionEvent`: it forms the sets once and queues the
record notices behind the demand. The raise that gives the last sequence number enters Hold at once, and the steps
after it have no effect. -/

namespace Sys2Proof.Machine

def setIntervention (u : InterventionUnit) (s : State) : State := { s with intervention := u }

/-! ## The sets (R55) -/

def RecordState.active : RecordState → Bool
  | .raised | .confirmed | .clearable => true
  | .overridden => false

/-- The record blocks motions of the cut set. -/
def Record.cuts (r : Record) : Bool := r.kind != .limitSlow && r.state.active

def unionOf (l : List Record) : MotionSet := l.foldl (fun m r => m ||| r.blocked) MotionSet.none

def cutSetOf (l : List Record) : MotionSet := unionOf (l.filter Record.cuts)
def slowSetOf (l : List Record) : MotionSet := unionOf (l.filter (·.kind == .limitSlow))

/-- How long a change waits for its confirmation (R59). -/
def confirmTime : Nat := 150

/-- Supervision's reaction to a change of the cut set (R59). -/
def superviseChange (now : Nat) (u : InterventionUnit) : InterventionUnit :=
  match u.supervision with
  | .settled => { u with confirmed := false, supervision := .awaiting, confirmTimer := some (now + confirmTime) }
  | .awaiting => { u with confirmed := false }
  | .faulted =>
    { u with
      confirmed := false
      confirmTimer := if u.confirmTimer.isNone then some (now + confirmTime) else u.confirmTimer }
  | .hold => u

/-- The sets are formed afresh; a change advances the demand sequence and places a CUT_DEMAND content
(R55, R56, R59). -/
def formSets (s : State) : State :=
  let u := s.intervention
  let cut := cutSetOf u.list
  let slow := slowSetOf u.list
  let formed := { u with cutSet := cut, slowSet := slow }
  if cut != u.cutSet then
    let s := setIntervention (superviseChange s.now { formed with demandSeq := u.demandSeq + 1 }) s
    placeContent .cutDemand (cutDemandData s) s
  else if slow != u.slowSet then
    let s := setIntervention formed s
    placeContent .cutDemand (cutDemandData s) s
  else setIntervention formed s

/-- Cut supervision enters Hold (R63). -/
def enterHold (s : State) : State :=
  if inHold s then s
  else
    let u := s.intervention
    let s := setIntervention { u with
      supervision := .hold
      confirmTimer := none
      holdAt := some s.now
      list := u.list.map fun r => { r with timerRuns := false }
      cutSet := MotionSet.all
      demandSeq := if u.cutSet == MotionSet.all then u.demandSeq else u.demandSeq + 1 } s
    economyForced (placeContent .cutDemand (cutDemandData s) s)

/-! ## Events at the list -/

/-- The state in the course of an event, and the record notices that the event queues (R54). -/
structure Work where
  state : State
  notices : List (Nat × List Byte)

/-- A record notice of the event, built from the record as it stands. -/
def Work.notice (w : Work) (r : Record) (state : Nat) : Work :=
  { w with notices := w.notices ++ [(r.seq, recordNoticeData r state)] }

/-- Records that satisfy `p` are changed by `f`; a notice goes out for each one that `f` has `announce` of. -/
def Work.change (p : Record → Bool) (f : Record → Record) (announce : Record → Bool) (w : Work) : Work :=
  let u := w.state.intervention
  let changed := u.list.filter fun r => p r && announce r
  changed.foldl (fun w r => w.notice (f r) (f r).state.num)
    { w with state := setIntervention { u with list := mapWhere p f u.list } w.state }

/-- Records that satisfy `p` are removed, each with its Removed notice; the Economy Unit hears of an emptied
list (R50). -/
def Work.remove (p : Record → Bool) (w : Work) : Work :=
  let u := w.state.intervention
  let kept := u.list.filter fun r => !p r
  let s := setIntervention { u with list := kept } w.state
  let s := if kept.isEmpty && !u.list.isEmpty then listEmpty s else s
  (u.list.filter p).foldl (fun w r => w.notice r 4) { w with state := s }

/-- The pose snapshot of a record raised now (R43). -/
def snapshotPose (s : State) : Snapshot :=
  ⟨s.pose.pose.reach, s.pose.pose.tip, s.pose.pose.slewAngle, s.pose.pose.quality⟩

/-- The sequence numbers are exhausted (R44). -/
def sequenceExhausted (s : State) : Bool := decide (65535 ≤ s.intervention.lastSeq)

/-- The sequence numbers run out (R44, R63): the fault is reported and Hold is entered. DEDUCED (log 50): the slow set
is that of the list as it stands, and Hold's demand is the one change of the event. -/
def exhaustSequence (s : State) : State :=
  enterHold (report .sequenceExhausted interventionBlock
    (setIntervention { s.intervention with slowSet := slowSetOf s.intervention.list } s))

/-- A raise (R43, R44, R50). The one that gives the number 65,535 enters Hold at once, the record listed as usual. -/
def Work.raise (kind : RecordKind) (source : Option Nat) (cause : RecordCause) (blocked : MotionSet)
    (w : Work) : Work :=
  let s := w.state
  if sequenceExhausted s then w
  else
    let u := s.intervention
    let r : Record := ⟨u.lastSeq + 1, kind, source, cause, blocked, snapshotPose s, .raised, false, false,
      none, false⟩
    let s := setIntervention { u with list := u.list ++ [r], lastSeq := u.lastSeq + 1 } s
    let s := economyRaise (abandonCycle s)
    let s := if u.list.isEmpty then listNonEmpty s else s
    let s := if sequenceExhausted s then exhaustSequence s else s
    { w with state := s }.notice r 0

/-- A step of an event. It has no effect in Hold (R46 to R53, R63), be Hold entered by a step before it (R44). -/
def Work.unlessHold (f : Work → Work) (w : Work) : Work := if inHold w.state then w else f w

/-- The end of an event at the list: the sets are formed where no step has entered Hold, and then the record notices
are queued behind the demand (R46, R54, R55; log 14, 50). -/
def Work.close (w : Work) : State :=
  w.notices.foldl (fun s n => queueRecordNotice n.1 n.2 s) (if inHold w.state then w.state else formSets w.state)

/-- An event at the list. In Hold it has no effect (R63). -/
def interventionEvent (f : Work → Work) (s : State) : State := (Work.unlessHold f ⟨s, []⟩).close

/-! ## What raises and updates records (R46 to R53) -/

/-- The record of an envelope entry. -/
def Record.ofEntry (i : Nat) (r : Record) : Bool :=
  (r.kind == .limitStop || r.kind == .limitSlow) && r.source == some i

/-- The ExternalStop record of a station. -/
def Record.ofStation (st : Nat) (r : Record) : Bool := r.kind == .externalStop && r.source == some st

def Record.isSensorLoss (r : Record) : Bool := r.kind == .sensorLoss

def BreachCause.record : BreachCause → RecordCause
  | .breach => .breach
  | .predictedBreach => .predictedBreach

def never (_ : Record) : Bool := false

/-- The cause of an entry's listed record is set (R46). -/
def Work.setCause (i : Nat) (c : BreachCause) (w : Work) : Work :=
  w.change (Record.ofEntry i) (fun r => { r with cause := c.record }) never

/-- A raise request of the Envelope Unit (R46). -/
def Work.raiseRequest (i : Nat) (kind : RecordKind) (c : BreachCause) (blocked : MotionSet) (w : Work) : Work :=
  if w.state.intervention.list.any (Record.ofEntry i) then w.setCause i c
  else w.raise kind (some i) c.record blocked

/-- A state that becomes Clearable. -/
def RecordState.clearing (st : RecordState) : Bool := st == .raised || st == .confirmed

/-- The record becomes Clearable if it is Raised or Confirmed. -/
def Record.clear (r : Record) : Record := if r.state.clearing then { r with state := .clearable } else r

/-- The record returns to Raised if it is Clearable. -/
def Record.reRaise (r : Record) : Record := if r.state == .clearable then { r with state := .raised } else r

/-- A breach report (R51, R52). -/
def Work.breachReport (i : Nat) (gone : Bool) (w : Work) : Work :=
  if gone then
    (w.change (fun r => r.ofEntry i && r.kind == .limitStop)
      (fun r => { r.clear with breachGone := true }) (fun r => r.state.clearing)).remove
      (fun r => r.ofEntry i && r.kind == .limitSlow)
  else
    w.change (Record.ofEntry i) (fun r => { r.reRaise with breachGone := false })
      (fun r => r.state == .clearable)

/-- The Stop entries that a loss of pose counts (R47). -/
def armedStop (e : LimitEntry) : Bool :=
  e.config.action == .stop && (e.state == .clear || e.state == .approach || e.state == .breach)

def armedMotions (l : List LimitEntry) : MotionSet :=
  (l.filter armedStop).foldl (fun m e => m ||| e.config.guarded) MotionSet.none

/-- A loss of pose (R47, R53; log 45). -/
def Work.lossOfPose (w : Work) : Work :=
  if w.state.intervention.list.any Record.isSensorLoss then
    w.change Record.isSensorLoss Record.reRaise (fun r => r.state == .clearable)
  else if w.state.limits.any armedStop then
    w.raise .sensorLoss none .poseInvalid (armedMotions w.state.limits)
  else w

/-- A pose update at the SensorLoss record (R47, R53), after one of quality `before`. -/
def Work.poseQuality (before : PoseQuality) : Work → Work := Work.unlessHold fun w =>
  match w.state.pose.pose.quality with
  | .valid => w.change Record.isSensorLoss Record.clear (fun r => r.state.clearing)
  | .degraded => w
  | .invalid => if before == .invalid then w else w.lossOfPose

/-- The listed record of a station that claims motions (R48). -/
def Record.claim (set : MotionSet) (r : Record) : Record :=
  { r with
    blocked := set
    cause := .externalRequest
    state := match r.state with
      | .clearable => .raised
      | .confirmed => if set.subset r.blocked then .confirmed else .raised
      | other => other }

/-- An accepted EXT_CUT arrival (R48). -/
def Work.extCut (st : Nat) (set : MotionSet) (w : Work) : Work :=
  if set == MotionSet.none then w.remove (Record.ofStation st)
  else if w.state.intervention.list.any (Record.ofStation st) then
    w.change (Record.ofStation st) (Record.claim set) (fun r => r.state == .clearable)
  else w.raise .externalStop (some st) .externalRequest set

/-- An EXT_CUT entry goes Lost (R49). -/
def Work.extLost (st : Nat) (w : Work) : Work :=
  w.change (Record.ofStation st) (fun r => { r.clear with cause := .externalSilent })
    (fun r => r.state.clearing)

/-! ## Confirmation (R58 to R62) -/

/-- The record is confirmed by an applied set (R58). -/
def Record.confirm (applied : MotionSet) (r : Record) : Record :=
  if r.kind != .limitSlow && r.state == .raised && r.blocked.subset applied then
    { r with state := .confirmed }
  else r

/-- Supervision after a VALVE_CUT arrival that echoes the current sequence. -/
def InterventionUnit.echoed (u : InterventionUnit) (now : Nat) (applied : MotionSet) : InterventionUnit :=
  let u := { u with list := u.list.map (Record.confirm applied) }
  if u.cutSet.subset applied then
    { u with
      confirmed := true
      confirmTimer := none
      supervision := if u.supervision == .awaiting then .settled else u.supervision }
  else
    match u.supervision with
    | .settled =>
      { u with confirmed := false, confirmTimer := some (now + confirmTime), supervision := .awaiting }
    | .faulted => { u with confirmed := false }
    | .awaiting | .hold => u

/-- An accepted VALVE_CUT arrival (R58). -/
def valveCutArrival (echo : BitVec 8) (applied : MotionSet) (s : State) : State :=
  if inHold s || echo != s.intervention.demandSeq then s
  else setIntervention (s.intervention.echoed s.now applied) s

/-- Confirm expiry (R60, R61). -/
def confirmExpired (s : State) : State :=
  match s.intervention.supervision with
  | .awaiting =>
    report .cutUnconfirmed (valveStation s)
      (setIntervention { s.intervention with supervision := .faulted, confirmTimer := none } s)
  | .faulted => report .cutUnconfirmed (valveStation s) (enterHold s)
  | .settled | .hold => s

/-- A Stop entry stands enabled, or a record is listed (R62). -/
def cutMatters (s : State) : Bool :=
  s.limits.any (fun e => e.config.action == .stop && e.state != .disabled)
    || !s.intervention.list.isEmpty

/-- The VALVE_CUT entry goes Lost (R62). -/
def valveLost (s : State) : State :=
  match s.intervention.supervision with
  | .settled | .awaiting =>
    if cutMatters s then
      report .valveSilent (valveStation s)
        (setIntervention { s.intervention with supervision := .faulted, confirmed := false } s)
    else s
  | .faulted => report .valveSilent (valveStation s) (enterHold s)
  | .hold => s

/-- The override timer of a record expires (R68). -/
def Work.overrideExpired (seq : Nat) (w : Work) : Work :=
  (w.remove (fun r => r.seq == seq && r.breachGone)).change (·.seq == seq)
    (fun r => { r with state := .raised, expiry := none, timerRuns := false }) (fun _ => true)

end Sys2Proof.Machine
end

