-- ==== Sys2Proof/Machine/Envelope.lean ====
section
/-! DEFINITION. The Envelope Unit (R19 to R42): clearances, the state machine, effects, restore. -/

namespace Sys2Proof.Machine

def setLimit (i : Nat) (e : LimitEntry) (s : State) : State := { s with limits := s.limits.set i e }

/-! ## Clearance (R21 to R24) -/

/-- The stop distance: the SLEW_STOP output, a free value where it is absent (log 17). -/
def stopDistance (s : State) : BinAngle :=
  match heldOutput s 1 with
  | some d => BitVec.ofInt 16 d
  | none => Config.absentStopDistance s.freeCount

/-- The predicted stop angle (R22). -/
def predictedStop (s : State) : BinAngle :=
  let p := s.pose.pose
  if 0 < p.slewRate then p.slewAngle + stopDistance s
  else if p.slewRate < 0 then p.slewAngle - stopDistance s
  else p.slewAngle

/-- The measured quantity of a kind (R20). -/
def measured (s : State) : LimitKind → Int
  | .heightCeiling => s.pose.pose.top
  | .depthFloor => s.pose.pose.tip
  | .reachWall => s.pose.pose.reach
  | .slewCcwStop | .slewCwStop => (predictedStop s).toNat

/-- A clearance from an entry's line with the slew angle taken at `slew` (R21, R23). -/
def clearanceAt (s : State) (c : LimitConfig) (slew : BinAngle) : Int :=
  match c.kind with
  | .heightCeiling => c.value - s.pose.pose.top
  | .depthFloor => s.pose.pose.tip - c.value
  | .reachWall => c.value - s.pose.pose.reach
  | .slewCcwStop => signedDiff (BitVec.ofInt 16 c.value) slew
  | .slewCwStop => signedDiff slew (BitVec.ofInt 16 c.value)

def clearance (s : State) (c : LimitConfig) : Int := clearanceAt s c (predictedStop s)
def actualClearance (s : State) (c : LimitConfig) : Int := clearanceAt s c s.pose.pose.slewAngle

/-- The breach cause at a clearance of 0 or less (R23). -/
def causeOf (s : State) (c : LimitConfig) : BreachCause :=
  if c.kind.isSlew && decide (0 < actualClearance s c) then .predictedBreach else .breach

/-! ## The state machine (R26, R27) -/

/-- The state after an evaluation in scope (R26). -/
def limitNext (st : LimitState) (c m h : Int) : LimitState :=
  match st with
  | .disabled => .disabled
  | .pending => if h < c then (if m < c then .clear else .approach) else .pending
  | .clear => if c ≤ 0 then .breach else if c ≤ m then .approach else .clear
  | .approach => if c ≤ 0 then .breach else if m + h < c then .clear else .approach
  | .breach => if m + h < c then .clear else if h ≤ c then .approach else .breach

/-- What an evaluation hands to the Intervention Unit (R29, R30). -/
inductive Handed where
  | raise (index : Nat) (kind : RecordKind) (cause : BreachCause) (blocked : MotionSet)
  | cause (index : Nat) (cause : BreachCause)
  | report (index : Nat) (gone : Bool)
  deriving DecidableEq, Repr

/-- The entry after an evaluation that finds clearance `c` and state `next` (R25 to R31). A breach cause is
chosen at a clearance of 0 or less, and kept inside the hysteresis (log 16). An entry that leaves Pending takes
the flag that its new state gives, not Pending's (DEDUCED, log 49). -/
def LimitEntry.evaluated (e : LimitEntry) (next : LimitState) (c : Int) (cause : BreachCause) : LimitEntry :=
  let flag :=
    match next with
    | .approach | .breach => true
    | .clear => if e.state != .clear && e.config.latch == .follow then false else e.warning
    | .pending => e.warning || decide (c ≤ e.config.margin)
    | .disabled => e.warning
  { e with
    state := next
    last := some c
    warning := flag
    cause := if next != .breach then none
      else if e.state == .breach && decide (0 < c) then e.cause
      else some cause }

/-- The warning event an evaluation makes (R28, R29, R31). DEDUCED (log 49): an entry makes a Pending event, and
takes the flag for it, only if the evaluation leaves it Pending. -/
def warnEvent (e : LimitEntry) (next : LimitState) (c : Int) : Option WarnEvent :=
  match next with
  | .approach => if e.state == .approach then none else some .approach
  | .breach => if e.state != .breach && e.config.action == .warn then some .breach else none
  | .pending => if !e.warning && decide (c ≤ e.config.margin) then some .pending else none
  | .clear | .disabled => none

/-- The raise request or cause report an evaluation makes (R29). -/
def breachHanded (i : Nat) (e new : LimitEntry) : List Handed :=
  match e.config.action, new.state, new.cause with
  | .warn, _, _ => []
  | action, .breach, some c =>
    if e.state != .breach then
      [.raise i (if action == .stop then .limitStop else .limitSlow) c e.config.guarded]
    else if e.cause != some c then [.cause i c]
    else []
  | _, _, _ => []

/-- The breach report an evaluation makes (R30). -/
def goneHanded (i : Nat) (e new : LimitEntry) : List Handed :=
  if e.state.gone == new.state.gone then [] else [.report i new.state.gone]

/-- The evaluation of one entry (R25). -/
def evaluateEntry (i : Nat) (e : LimitEntry) (s : State) : State × List Handed :=
  let c := clearance s e.config
  let next :=
    if inScope e.config.scope s.pose.pose.slewAngle then
      limitNext e.state c e.config.margin e.config.kind.hysteresis
    else .clear
  let new := e.evaluated next c (causeOf s e.config)
  let s := setLimit i new s
  let s := match warnEvent e next c with
    | some ev => queueWarning ⟨i, e.config.kind, ev, c, s.pose.pose.updates⟩ s
    | none => s
  (s, breachHanded i e new ++ goneHanded i e new)

/-- The evaluation of every enabled entry in index order (R25). -/
def evaluateAll (s : State) : State × List Handed :=
  (List.range 12).foldl (fun (s, hs) i =>
    match s.limits[i]? with
    | some e =>
      if e.state == .disabled then (s, hs)
      else
        let (s, more) := evaluateEntry i e s
        (s, hs ++ more)
    | none => (s, hs)) (s, [])

/-- A pose update at the Envelope Unit: frozen while the quality is Invalid (R25). -/
def envelopePose (s : State) : State × List Handed :=
  if s.pose.pose.quality == .invalid then (s, []) else evaluateAll s

/-- The Intervention Unit takes what an evaluation hands on (R46, R51, R52). -/
def Work.take (w : Work) (h : Handed) : Work :=
  w.unlessHold fun w =>
    match h with
    | .raise i k c b => w.raiseRequest i k c b
    | .cause i c => w.setCause i c
    | .report i gone => w.breachReport i gone

/-- Some raise request will raise a record. -/
def willRaise (s : State) (hs : List Handed) : Bool :=
  !inHold s && !sequenceExhausted s && hs.any fun
    | .raise i _ _ _ => !s.intervention.list.any (Record.ofEntry i)
    | _ => false

/-! ## A pose update (R3) -/

/-- The consumers take a pose update, after one of quality `before` (log 13, 14). DESIGN CHOICE (log 66): the
Intervention Unit takes what the evaluation hands on, an entry's raise or cause before its breach report, and then
the SensorLoss record reacts. -/
def consumePose (before : PoseQuality) (s : State) : State :=
  let (s, hs) := envelopePose s
  let s :=
    if willRaise s hs && wouldComplete s then
      useFree (if Config.announcementFirst s.freeCount then abandonCycle s else s)
    else s
  interventionEvent (fun w => (hs.foldl Work.take w).poseQuality before) (guidancePose s)

/-! ## Limit requests (R35 to R38) -/

/-- The entry becomes Pending with a report if its breach was gone (R30, R35 to R37). -/
def makePending (i : Nat) (old : LimitEntry) (config : LimitConfig) (s : State) : State :=
  let s := setLimit i { old with config := config, state := .pending, last := none, cause := none } s
  if old.state.gone then interventionEvent (fun w => w.breachReport i false) s else s

/-- The configured fields after TEACH_LIMIT (R35). -/
def taughtConfig (c : LimitConfig) (kind : LimitKind) (value : Int) : LimitConfig :=
  if kind == c.kind then { c with value := value }
  else { c with kind := kind, value := value, margin := kind.defaultMargin,
                guarded := kind.defaultGuarded, scope := none }

/-! ## Restore (R42) -/

def restoredLimit (l : StoredLimit) : LimitEntry :=
  ⟨l.config, if l.enabled then .pending else .disabled, false, none, none, none⟩

def restoreLimits (s : State) : State :=
  match s.store.limits.restored limitsOk with
  | some l => { s with limits := l.map restoredLimit }
  | none =>
    report .limitAreaLost envelopeBlock
      (queueJob (.limitArea []) { s with limits := s.config.limits.map restoredLimit })

end Sys2Proof.Machine
end

