-- ==== Sys2Proof/Machine/Pose.lean ====
section
/-! DEFINITION. The Pose Unit (R1 to R18): lookups and recall, the solve, quality, the Degraded timer. -/

namespace Sys2Proof.Machine

def setPoseUnit (u : PoseUnit) (s : State) : State := { s with pose := u }

/-! ## Lookups (R14 to R18) -/

/-- A lookup's output and Clamped flag for an input value (R14). -/
def lookup (pool : List Int) (c : DescConfig) (x : Int) : Int × Bool :=
  let point (i : Nat) : Int := pool.getD (c.base + i) 0
  let d := x - c.origin
  if d < 0 then (point 0, true)
  else if (((c.limit - 1) * c.step : Nat) : Int) < d then (point (c.limit - 1), true)
  else
    let i := d.toNat / c.step
    let r := d.toNat % c.step
    if r == 0 then (point i, false)
    else (point i + roundDiv ((point (i + 1) - point i) * r) c.step, false)

/-- A descriptor changes; TableClamped begins or ends with its Clamped flag (R11). -/
def setDescriptor (i : Nat) (old new : Descriptor) (s : State) : State :=
  let s := setPoseUnit { s.pose with descriptors := s.pose.descriptors.set i new } s
  if new.clamped && !old.clamped then report .tableClamped (.descriptor i) s
  else if !new.clamped && old.clamped then endFault .tableClamped (.descriptor i) s
  else s

/-- The descriptor after a lookup of `x`. -/
def Descriptor.looked (d : Descriptor) (pool : List Int) (x : Int) : Descriptor :=
  { d with held := some (lookup pool d.config x).1, clamped := (lookup pool d.config x).2 }

/-- Recall on the arrival of the bound input (R15). -/
def recallLookup (i : Nat) (x : Int) (s : State) : State :=
  match s.pose.descriptors[i]? with
  | some d => if d.enabled then setDescriptor i d (d.looked s.config.pool x) s else s
  | none => s

/-- The input value of a descriptor in the latest accepted payload of its topic (R12, R15). -/
def boundInput (s : State) (i : Nat) : Option Int :=
  match i with
  | 0 => match payloadOf s .bucketLink with
    | some (.bucketLink stroke) => some stroke
    | _ => none
  | 1 => match payloadOf s .slewPos with
    | some (.slewPos _ rate) => some rate.natAbs
    | _ => none
  | 2 => match payloadOf s .coolant with
    | some (.coolant t) => some t
    | _ => none
  | _ => none

/-- The descriptor after TABLE_RECALL with Enabled (R16). -/
def Descriptor.recalled (d : Descriptor) (pool : List Int) : Option Int → Descriptor
  | some x => { d.looked pool x with enabled := true }
  | none => { d with enabled := true, held := none, clamped := false }

/-- The descriptor after TABLE_RECALL with Disabled (R16). -/
def Descriptor.fixedTo (d : Descriptor) (v : Int) : Descriptor :=
  { d with enabled := false, fixedValue := v, held := some v, clamped := false }

/-! ## The solve (R4, R5) -/

/-- The tilt of the boom plane in hundredths of a degree (R4). -/
def tiltOf (pitch roll : Int) (slew : BinAngle) : Int :=
  roundFix (pitch * fixCos slew.toNat 65536 - roll * fixSin slew.toNat 65536)

/-- An angle in hundredths of a degree brought into −18,000..+17,999. -/
def normalAngle (a : Int) : Int := (a + 18000) % 36000 - 18000

/-- The pose record's geometry and slew fields from five payloads and a bucket angle (R4, R5, R7). -/
def solved (p : PoseRecord) (g : Geometry) (boom arm k pitch roll : Int) (slew : BinAngle) (rate : Int) :
    PoseRecord :=
  let b := boom + tiltOf pitch roll slew
  let ba := b + arm
  let bak := ba + k
  let reach := roundFix (g.x0 * fixUnit + g.lb * cosCentidegrees b + g.la * cosCentidegrees ba
    + g.lk * cosCentidegrees bak)
  let pin := g.h0 * fixUnit + g.lb * sinCentidegrees b
  let tip := roundFix (pin + g.la * sinCentidegrees ba + g.lk * sinCentidegrees bak)
  { p with
    reach := reach
    tip := tip
    top := max tip (roundFix pin)
    slewAngle := slew
    slewRate := rate
    tipAngle := normalAngle bak }

/-- The solve from the latest payloads; absent while an entry holds none (R2). -/
def solvePose (s : State) : Option PoseRecord :=
  match payloadOf s .boomPos, payloadOf s .armPos, payloadOf s .bucketLink, payloadOf s .slewPos,
      payloadOf s .chassisTilt with
  | some (.boomPos boom), some (.armPos arm), some (.bucketLink _), some (.slewPos slew rate),
      some (.chassisTilt pitch roll) =>
    some (solved s.pose.pose s.config.geometry boom arm ((heldOutput s 0).getD 0) pitch roll slew rate)
  | _, _, _, _, _ => none

/-! ## Quality (R8, R9) -/

def poseEntries (s : State) : List SubEntry := s.topics.filter fun e => isPoseRole e.config.role

/-- The BUCKET or SLEW_STOP lookup is Clamped. -/
def poseClamped (s : State) : Bool := (s.pose.descriptors.take 2).any (·.clamped)

/-- The grade (R8). -/
def gradeOf (s : State) : PoseQuality :=
  if (poseEntries s).all (fun e => e.state == .fresh) && !poseClamped s then .valid
  else if (poseEntries s).any (fun e => e.state == .lost || e.state == .never) || s.pose.latch then .invalid
  else .degraded

def degradedTime : Nat := 2000

/-- A grade takes effect: quality, latch and Degraded timer (R8, R9). -/
def applyGrade (s : State) : State :=
  let q := gradeOf s
  let u := s.pose
  let timer :=
    match q with
    | .degraded => if u.pose.quality == .degraded then u.degradedTimer else some (s.now + degradedTime)
    | _ => none
  let cleared := q == .valid && u.latch
  let s := setPoseUnit { u with
    pose := { u.pose with quality := q }, degradedTimer := timer, latch := u.latch && !cleared } s
  if cleared then endFault .poseTimeout poseBlock s else s

/-- A pose update is announced (R3), after one of quality `before`. -/
def announcePose (before : PoseQuality) (s : State) : State :=
  consumePose before (setPoseUnit { s.pose with
    pose := { s.pose.pose with updates := s.pose.pose.updates + 1 } } s)

/-- Solve if the payloads are there, grade, and announce if solved or changed (R2 steps 2 to 4, R17). -/
def solveAndGrade (s : State) : State :=
  let before := s.pose.pose.quality
  match solvePose s with
  | some p => announcePose before (applyGrade (setPoseUnit { s.pose with pose := p } s))
  | none =>
    let s := applyGrade s
    if s.pose.pose.quality != before then announcePose before s else s

/-- An accepted pose-input arrival (R2). -/
def poseArrival (p : Payload) (s : State) : State :=
  solveAndGrade (match p with
    | .bucketLink stroke => recallLookup 0 stroke s
    | .slewPos _ rate => recallLookup 1 rate.natAbs s
    | _ => s)

/-- A grade without an arrival (R8). -/
def gradeOnly (s : State) : State :=
  let before := s.pose.pose.quality
  let s := applyGrade s
  if s.pose.pose.quality != before then announcePose before s else s

/-- Degraded expiry (R9). DESIGN CHOICE (log 48): PoseTimeout is reported before the consumers take the
announced update, so before what they report in the same event. -/
def degradedExpired (s : State) : State :=
  let before := s.pose.pose.quality
  announcePose before (report .poseTimeout poseBlock (setPoseUnit { s.pose with
    pose := { s.pose.pose with quality := .invalid }, degradedTimer := none, latch := true } s))

end Sys2Proof.Machine
end

