-- ==== Sys2Proof/Machine/TimeBase.lean ====
section
/-! DEFINITION. The Time Base (R108 to R120): counting, announcements, sets, losing the clock, and its build at
a start. -/

namespace Sys2Proof.Machine

def setTime (t : TimeBase) (s : State) : State := { s with time := t }

/-- The keep-alive supply is present. -/
def powered (s : State) : Bool := s.power != .off

/-- The length of a second that begins at this second number (R110). -/
def secondLength (second : Nat) (trim : Int) : Nat :=
  if second == 29 || second == 59 then (32768 - trim).toNat else 32768

/-! ## Announcements (R113, R119, R120; log 12) -/

/-- What a count announces to one consumer. -/
inductive Announcement where
  | second
  | rollover
  | shiftStart
  | reminder (entry : Nat)
  deriving DecidableEq, Repr

/-- A time-match entry fires at this clock time (R119). -/
def TimeMatch.firesAt (t : ClockTime) (m : TimeMatch) : Bool :=
  m.enabled && m.minute == t.minute && m.hour == t.hour && m.days.getLsbD t.dayOfWeek

/-- The entries that fire at a count into `t`, in index order. -/
def firings (s : State) (t : ClockTime) : List (Nat × MatchPurpose) :=
  if clockRunning s && t.second == 0 then
    (indexed s.time.timeMatches).filterMap fun (i, m) =>
      if TimeMatch.firesAt t m then some (i, m.purpose) else none
  else []

/-- A count into 00:00:00. -/
def dayCount (t : ClockTime) : Bool := t.second == 0 && t.minute == 0 && t.hour == 0

def economyAnnouncements (t : ClockTime) (fired : List (Nat × MatchPurpose)) : List Announcement :=
  [.second] ++ (if dayCount t then [.rollover] else [])
    ++ fired.filterMap fun f => if f.2 == .shiftStart then some .shiftStart else none

def serviceAnnouncements (t : ClockTime) (fired : List (Nat × MatchPurpose)) : List Announcement :=
  (if dayCount t then [.rollover] else [])
    ++ fired.map fun f => if f.2 == .shiftStart then .shiftStart else .reminder f.1

def economyTakes (s : State) : Announcement → State
  | .second => economySecond s
  | .rollover => economyRollover s
  | .shiftStart => shiftStart s
  | .reminder _ => s

def serviceTakes (s : State) : Announcement → State
  | .second => s
  | .rollover => serviceRollover s
  | .shiftStart => serviceShiftStart s
  | .reminder k => serviceReminder k s

/-- One consumer takes the announcements of a count, in an order the manual leaves open. -/
def takeAll (takes : State → Announcement → State) (l : List Announcement) (s : State) : State :=
  if l.length < 2 then l.foldl takes s
  else useFree ((permute l (Config.announcementOrder s.freeCount)).foldl takes s)

/-- The announcements of a count. The Economy and Service Units take none in Limp (R90, R154). DESIGN CHOICE (log 67):
the Meter Unit takes them first, then the Economy Unit, then the Service Unit. -/
def announceCount (s : State) : State :=
  let t := s.time.clock
  let fired := firings s t
  let s := meterSecond s
  if s.power == .running then
    takeAll serviceTakes (serviceAnnouncements t fired)
      (takeAll economyTakes (economyAnnouncements t fired) s)
  else s

/-- The crystal periods have reached the length of the present second (R109, log 5). -/
def countDue (s : State) : Bool :=
  powered s && !s.time.stopped && decide (s.time.length ≤ s.time.prescaler + s.time.carried)

/-- The clock counts one second: the prescaler returns to 0, and the periods past the length stay to be counted in
the second that begins (R109, R110). -/
def countSecond (s : State) : State :=
  let t := nextSecond s.time.clock
  setTime { s.time with
    clock := t
    prescaler := 0
    carried := s.time.prescaler + s.time.carried - s.time.length
    length := secondLength t.second s.time.trim } s

/-- A clock count. One whose second is not over is discarded (R117). -/
def clockCounted (s : State) : State :=
  if countDue s then
    let s := countSecond s
    if awake s then announceCount s else s
  else s

/-! ## Setting (R114 to R116) -/

/-- The step of a set (R115). -/
def clockStep (before after : ClockTime) : Int :=
  clampInt (-3155759999) 3155759999 ((secondNumber after : Int) - secondNumber before)

/-- A set of the clock with its effects (R115). DESIGN CHOICE (log 62): the Economy Unit takes the set before the
Service Unit, and ClockUnset ends last. -/
def setClockTo (t : ClockTime) (source : SetSource) (s : State) : State :=
  let before := s.time.clock
  let s := setTime { s.time with
    clock := t
    prescaler := 0
    carried := 0
    length := secondLength t.second s.time.trim
    unsetCause := none
    lastSet := ⟨source, some (clockStep before t), some t⟩ } s
  endFault .clockUnset timeBlock (serviceCalendar (economyClockSet before.day s))

/-- The payload time differs from the clock by more than 120 s. -/
def farFrom (a b : ClockTime) : Bool :=
  decide (120 < ((secondNumber a : Int) - secondNumber b).natAbs)

/-- An accepted TIME_SYNC arrival, its entry already graded (R116). -/
def timeSyncArrival (t : ClockTime) (s : State) : State :=
  match entryOf s .timeSync with
  | none => s
  | some e =>
    if !dateExists t.date t.month t.year || s.time.stopped || e.state != .fresh then s
    else if !clockRunning s then setClockTo t .timeSync s
    else if farFrom t s.time.clock then
      pulseFault .clockStep (.station e.config.station) (setClockTo t .timeSync s)
    else s

/-! ## Losing the clock (R112) -/

/-- The Diagnostic List takes reports and end reports: from the start-up sequence on (R173). -/
def listTakes (s : State) : Bool := awake s || s.power == .startUp

/-- The crystal stops (R112). DESIGN CHOICE (log 55): OscillatorStop is reported before ClockUnset. DEDUCED (log 68):
both are reported after the clock has gone Unset, so they leave their stamps absent. -/
def oscillatorStopped (s : State) : State :=
  if !powered s || s.time.stopped then s
  else
    let wasRunning := clockRunning s
    let s := setTime { s.time with
      clock := .origin, prescaler := 0, carried := 0, length := 32768, unsetCause := some .oscillatorStop,
      stopped := true, lastSet := ⟨.none, none, none⟩ } s
    if awake s then
      let s := report .oscillatorStop timeBlock s
      if wasRunning then report .clockUnset timeBlock s else s
    else s

def oscillatorRestarted (s : State) : State :=
  if !powered s || !s.time.stopped then s
  else
    let s := setTime { s.time with stopped := false } s
    if listTakes s then endFault .oscillatorStop timeBlock s else s

/-! ## Build (R110, R112, R118) -/

/-- The Time Base at a start with a good image. -/
def buildTime (initialTrim : Int) (matches' : List TimeMatch) (t : TimeBase) : TimeBase :=
  if t.trimLoaded then { t with timeMatches := matches' }
  else { t with trim := initialTrim, trimLoaded := true, timeMatches := matches' }

/-- The reports of a start when the Time Base has been built, OscillatorStop first (DESIGN CHOICE, log 55). -/
def reportClock (s : State) : State :=
  let s := if s.time.stopped then report .oscillatorStop timeBlock s else s
  if clockRunning s then s else report .clockUnset timeBlock s

end Sys2Proof.Machine
end

