-- ==== Sys2Proof/Machine/StoreWork.lean ====
section
/-! DEFINITION. The completion of a store write (R188): the array, the answers, the ends of faults, the
offering of free places. Records of READ share their encodings with these replies (R200). -/

namespace Sys2Proof.Machine

/-! ## Encodings of records (R198, R200; log 24, 29) -/

/-- The value of an envelope entry (R19): a signed 16-bit number, or a slew angle. -/
def valueBytes (c : LimitConfig) : List Byte := le 2 c.value

def scopeBytes (c : LimitConfig) : List Byte :=
  presence 4 (c.scope.map fun sc => le 2 sc.start.toNat ++ le 2 sc.stop.toNat)

def noticeBytes (n : WarnNotice) : List Byte :=
  [byte n.index, byte n.kind.num, byte n.event.num] ++ signed24 (some n.clearance) ++ le 2 n.updates.toNat

/-- Every field of an envelope entry, in the order of R19. DEDUCED (log 76): a scope and a notice owed, each made of
several items, are one field each when the record is cut into parts (unsafe). -/
def limitFields (i : Nat) (e : LimitEntry) : List (List Byte) :=
  [[byte i], [byte e.config.kind.num], valueBytes e.config, le 2 e.config.margin, [byte e.config.action.num],
   [e.config.guarded], scopeBytes e.config, [byte e.config.owner.num], [byte e.config.latch.num],
   [byte e.state.num], [flagByte e.warning], signed24 e.last,
   presence 1 (e.cause.map fun c => [byte c.num]), presence 8 (e.owed.map noticeBytes)]

/-- A place of the grade profile as SET_GRADE's arguments encode it, without the operation code; DEDUCED (log 73): a
cleared place is four words 8000H, the absent value of a signed quantity, with no presence byte (unsafe). -/
def placeBytes : Option Segment → List Byte
  | some g => signed16 (some g.reachFrom) ++ signed16 (some g.reachTo) ++ signed16 (some g.height)
      ++ signed16 (some g.slope)
  | none => signed16 none ++ signed16 none ++ signed16 none ++ signed16 none

/-- A stored meter value: hours or count, then seconds. -/
def lastMeterBytes (v : Option MeterValue) : List Byte :=
  presence 6 (v.map fun
    | .time h sec => le 4 h ++ le 2 sec
    | .count n => le 4 n ++ le 2 0)

/-- SERVICE_DONE's Done reply (R150). -/
def serviceDoneReply (i : Nat) (item : ServiceItem) : List Byte :=
  [byte i] ++ lastMeterBytes item.lastMeter ++ dateBytes item.lastDate ++ [byte item.state.num]

/-- The bytes WRITE_IMAGE's reply shows: a byte that holds a key is zero (R190, log 9). -/
def shownBytes (b : Nat) (w : BitVec 32) : List Byte :=
  (indexed (wordBytes w)).map fun (k, x) => if Config.imageKeyByte (4 * b + k) then 0#8 else x

/-- The Done data of a limit request, over the entry as it stands at the reply (R35 to R38, R40). -/
def limitReply (code : Byte) (i : Nat) (e : LimitEntry) : List Byte :=
  if code == 8#8 then (limitFields i e).flatten
  else if code == 7#8 then [byte i, byte e.config.kind.num] ++ valueBytes e.config ++ [byte e.state.num]
  else [byte i, byte e.state.num]

def answerLimit (t : Ticket) (s : State) : State :=
  match s.limits[t.index]? with
  | some e => finishRequest t .done (limitReply t.code t.index e) s
  | none => s

def answerGrade (t : Ticket) (s : State) : State :=
  finishRequest t .done (byte t.index :: placeBytes ((s.guidance.profile[t.index]?).join)) s

/-- DEDUCED (log 64): the reply shows the item as it stands when both writes have completed (R150). -/
def answerService (t : Ticket) (s : State) : State :=
  match s.service.items[t.index]? with
  | some (some item) => finishRequest t .done (serviceDoneReply t.index item) s
  | _ => s

/-- A SERVICE_DONE still waits on another job. -/
def stillWaits (s : State) (t : Ticket) : Bool := s.store.queue.any fun j => j.tickets.contains t

/-- The effects of a completed write beyond the array: answers, then the ends of faults. DESIGN CHOICE (log 59): the
requests on one job are answered in the order in which they joined it, ahead of the end of the area's fault. -/
def jobCompleted (w : Writing) (s : State) : State :=
  match w.job with
  | .imageBlock b x t => finishRequest t .done (le 2 b ++ shownBytes b x) s
  | .checkpoint =>
    match w.content with
    | .checkpoint c => checkpointCompleted c.sequence s
    | _ => s
  | .gradeProfile l => endFault .gradeAreaLost guidanceBlock (l.foldl (fun s t => answerGrade t s) s)
  | .limitArea l => endFault .limitAreaLost envelopeBlock (l.foldl (fun s t => answerLimit t s) s)
  | .history l =>
    endFault .historyAreaLost serviceBlock
      (l.foldl (fun s t => if stillWaits s t then s else answerService t s) s)
  | .serviceState l =>
    endFault .serviceAreaLost serviceBlock
      (l.foldl (fun s t => if stillWaits s t then s else answerService t s) s)
  | .dayRecords => endFault .dayAreaLost economyBlock s

/-- The write-pending flags are offered places (R106, R152, R188). -/
def offerDayJob (s : State) : State :=
  if s.economy.writePending && placeFree s then wantDayJob s else s

def offerServiceJob (s : State) : State :=
  if s.service.writePending && placeFree s then wantServiceJob s else s

/-- The write in flight completes (R188). The next job begins at the end of the event. -/
def writeCompleted (s : State) : State :=
  match s.store.writing with
  | none => s
  | some w =>
    let s := useFree { s with store := { s.store.programmed w.content s.freeCount with writing := none } }
    offerServiceJob (offerDayJob (offerPendingCheckpoint (jobCompleted w s)))

end Sys2Proof.Machine
end

