-- ==== Sys2Proof/Machine/Topics.lean ====
section
/-! DEFINITION. The Topic Map (R156 to R159): judging a frame, grading an entry, handing arrivals and state
changes to the blocks. -/

namespace Sys2Proof.Machine

/-! ## Judging (R157, R158) -/

/-- The entry after an accepted frame, before its state changes. -/
def SubEntry.took (e : SubEntry) (c : Counter) (p : Payload) (now run gaps : Nat) (st : EntryState) : SubEntry :=
  { e with payload := some p, counter := some c, ageFrom := now, run := run, gaps := gaps, state := st }

/-- State after an accepted in-sequence frame (R158). -/
def afterInSequence (st : EntryState) (run : Nat) : EntryState :=
  match st with
  | .recovering => if 3 ≤ run then .fresh else .recovering
  | _ => .fresh

/-- State after an accepted frame that follows a gap (R158). -/
def afterGap : EntryState → EntryState
  | .stale => .stale
  | .fresh => .fresh
  | _ => .recovering

/-- The entry after a frame with counter `c`, absent for a repeat. -/
def SubEntry.judge (e : SubEntry) (c : Counter) (p : Payload) (now : Nat) : Option SubEntry :=
  match e.state, e.counter with
  | .never, _ | .lost, _ => some (e.took c p now 1 e.gaps .recovering)
  | st, last =>
    if last == some c then none
    else if last.map (· + 1) == some c then
      let run := satAdd 255 e.run 1
      some (e.took c p now run e.gaps (afterInSequence st run))
    else some (e.took c p now 1 (satAdd 255 e.gaps 1) (afterGap st))

def setTopic (i : Nat) (e : SubEntry) (s : State) : State := { s with topics := s.topics.set i e }

/-- Conditions that end when an entry becomes Fresh (R62, R158). DESIGN CHOICE (log 60): TopicLost ends before
ValveSilent, and both before the arrival is handed on. -/
def freshened (e : SubEntry) (s : State) : State :=
  let s := endFault .topicLost (.topic e.config.topic) s
  if e.config.role == .valveCut then endFault .valveSilent (.station e.config.station) s else s

/-! ## Handing on (R159) -/

/-- The blocks that take a role take its accepted arrival. -/
def handArrival (station : Nat) (p : Payload) (s : State) : State :=
  match p with
  | .boomPos _ | .armPos _ | .bucketLink _ | .slewPos _ _ | .chassisTilt _ _ => poseArrival p s
  | .engineRun running speed => economyEngineRun running speed s
  | .engineFuel rate => integrateFuel rate s
  | .coolant t => recallLookup 2 t s
  | .pump _ => detectorPump s
  | .pilot _ _ => guidancePilot (economyPilot s)
  | .valveCut echo applied => valveCutArrival echo applied s
  | .extCut set => interventionEvent (Work.extCut station set) s
  | .timeSync t => timeSyncArrival t s

/-- The entry a frame arrives on: of a role, and of a station where the role has several. -/
def onTopic (role : Role) (station : Option Nat) (e : SubEntry) : Bool :=
  e.config.role == role && (match station with
    | none => true
    | some st => e.config.station == st)

/-- A frame on a graded entry's topic (R157, R159, R194). The Topic Map takes it in Running only. -/
def takeFrame (role : Role) (station : Option Nat) (f : Frame) (s : State) : State :=
  if s.power != .running || !receiving s then s
  else
    match indexOf? (onTopic role station) s.topics, s.topics.find? (onTopic role station),
        framePayload role f with
    | some i, some e, some p =>
      match e.judge (frameCounter f) p s.now with
      | none => s
      | some new =>
        let s := setTopic i new s
        let s := if new.state == .fresh && e.state != .fresh then freshened new s else s
        handArrival e.config.station p s
    | _, _, _ => s

/-! ## Ages (R158) -/

/-- A graded entry's age, in Running. -/
def SubEntry.age (e : SubEntry) (now : Nat) : Nat := now - e.ageFrom

def graded (e : SubEntry) : Bool := e.config.role != .request

/-- The entry's stale limit has passed (log 3, 4). -/
def staleDue (now : Nat) (e : SubEntry) : Bool :=
  graded e && e.state == .fresh && decide (e.config.staleLimit ≤ e.age now)

/-- The entry's lost limit has passed. -/
def lostDue (now : Nat) (e : SubEntry) : Bool :=
  graded e && (e.state == .never || e.state == .recovering || e.state == .stale)
    && decide (e.config.lostLimit ≤ e.age now)

/-- A Fresh entry goes Stale. -/
def staleEntry (i : Nat) (s : State) : State :=
  match s.topics[i]? with
  | some e =>
    if s.power == .running && staleDue s.now e then
      let s := setTopic i { e with state := .stale } s
      if isPoseRole e.config.role then gradeOnly s else s
    else s
  | none => s

/-- The Lost event by role (R159). -/
def handLost (e : SubEntry) (s : State) : State :=
  match e.config.role with
  | .boomPos | .armPos | .bucketLink | .slewPos | .chassisTilt => gradeOnly s
  | .engineRun => engineStopped s
  | .pilot => abandonCycle (activityPresent s)
  | .valveCut => valveLost s
  | .extCut => interventionEvent (Work.extLost e.config.station) s
  | .engineFuel | .coolant | .pump | .timeSync | .request => s

/-- An entry goes Lost. DESIGN CHOICE (log 60): TopicLost is reported before the state change is handed on. -/
def lostEntry (i : Nat) (s : State) : State :=
  match s.topics[i]? with
  | some e =>
    if s.power == .running && lostDue s.now e then
      handLost e (report .topicLost (.topic e.config.topic) (setTopic i { e with state := .lost } s))
    else s
  | none => s

end Sys2Proof.Machine
end

