-- ==== Sys2Proof/Machine/Publish.lean ====
section
/-! DEFINITION. The end of every event: CUTOUT, contents placed on a change, the store's next write, the
controller's next frame; and the periods of the publications. -/

namespace Sys2Proof.Machine

/-! ## CUTOUT (R64) -/

/-- CUTOUT's setting in Running. -/
def cutoutPermitted (s : State) : Bool :=
  (s.intervention.supervision == .settled || s.intervention.supervision == .awaiting)
    && s.bus.busState == .online

def setCutout (b : Bool) (s : State) : State := { s with pins := { s.pins with cutout := b } }

def settleCutout (s : State) : State :=
  if s.power == .running then setCutout (cutoutPermitted s) s else s

/-! ## Placements on a change (R101, R171) -/

def settleEngineReq (before after : State) : State :=
  if before.power == .running && after.power == .running && engineReqData before != engineReqData after then
    placeContent .engineReq (engineReqData after) after
  else after

/-- The fields of STATUS whose change places a content at once. -/
def statusWatch (s : State) : PowerState × Supervision × BusState × PoseQuality × Attention × Bool :=
  (s.power, s.intervention.supervision, s.bus.busState, s.pose.pose.quality, s.diag.attention,
    s.service.derate)

def settleStatus (before after : State) : State :=
  if awake after && statusWatch before != statusWatch after then
    placeContent .status (statusData after) after
  else after

/-- The store works in every state but Off and Keep-alive. -/
def settleStore (s : State) : State :=
  if awake s || s.power == .startUp then beginWrite s else s

/-- The end of an event that began at `before` and left `after` (log 23). -/
def settle (before after : State) : State :=
  feedController (settleStore (settleStatus before (settleEngineReq before (settleCutout after))))

/-! ## Periods (R56, R79, R101, R136, R171) -/

def CyclicPub.period : CyclicPub → Nat
  | .cutDemand => 50
  | .guidance => 100
  | .engineReq => 100
  | .meters => 1000
  | .status => 200

def pubData (s : State) : CyclicPub → List Byte
  | .cutDemand => cutDemandData s
  | .guidance => guidanceData s
  | .engineReq => engineReqData s
  | .meters => metersData s
  | .status => statusData s

/-- The publication goes out in this power state (R160). -/
def publishes (s : State) (p : CyclicPub) : Bool :=
  s.power == .running || (s.power == .limp && p == .status)

def periodDue (s : State) (p : CyclicPub) : Bool :=
  publishes s p && decide ((s.bus.place p).due ≤ s.now)

def setDue (p : CyclicPub) (t : Nat) (s : State) : State :=
  { s with bus := s.bus.setPlace { s.bus.place p with due := t } p }

/-- A publication's period: a content is placed, and the next period falls one period later. -/
def periodic (p : CyclicPub) (s : State) : State :=
  if periodDue s p then
    placeContent p (pubData s p) (setDue p ((s.bus.place p).due + p.period) s)
  else s

/-- Every period begins at the end of the start-up sequence (R183; log 22). -/
def startPeriods (s : State) : State :=
  cyclicPubs.foldl (fun s p => setDue p (s.now + p.period) s) s

end Sys2Proof.Machine
end

