-- ==== Sys2Proof/Machine/StartUp.lean ====
section
/-! DEFINITION. Power states, the start-up sequence, Limp, key-off, supply losses, RESTART's start, the drop
detector (R181 to R186). -/

namespace Sys2Proof.Machine

/-- Every volatile item takes its value at start; the Time Base keeps all but its time-match entries
(R108, R181, R183). -/
def giveUp (s : State) : State :=
  { s with
    limpCause := none
    pins := { s.pins with cutout := false }
    keyOffHeld := false
    listenEnds := none
    restart := none
    config := .blank
    imageGood := false
    topics := []
    bus := .atStart
    pose := .atStart
    limits := []
    intervention := .atStart
    guidance := .atStart
    economy := .atStart
    time := { s.time with timeMatches := [] }
    meter := .atStart
    service := .atStart
    diag := .empty
    store := { s.store with queue := [], writing := none }
    access := List.replicate 4 .empty }

/-! ## The image (R183 step 2, R187, R191) -/

/-- The fields of the image in force, if it is good. -/
def acceptedImage (s : State) : Option ImageFields :=
  match s.store.imageInForce with
  | none => none
  | some one =>
    match (if one then s.store.image1 else s.store.image0).view.fields with
    | some f => if imageOk s.station f then some f else none
    | none => none

/-- The staging copy: not the image in force, copy 0 when there is none (R187). -/
def stagingCopy (p : ParameterStore) : Bool :=
  match p.imageInForce with
  | none => false
  | some b => !b

/-! ## Build (R183 step 3) -/

/-- The fallback REQUEST entry of a bad image (R156). -/
def fallbackEntry (station : Nat) : SubEntry := .atStart ⟨1984 + station, 31, .request, 0, 0⟩

/-- The fallback publication topics (R160). -/
def fallbackTopics (station : Nat) : PubTopics :=
  { PubTopics.absent with status := some (1920 + station), reply := some (1952 + station) }

/-- The build from a good image. -/
def buildGood (f : ImageFields) (s : State) : State :=
  { s with
    imageGood := true
    config := f
    topics := f.subs.map .atStart
    bus := { s.bus with topics := f.pubs }
    pose := { s.pose with descriptors := f.descriptors.map .atStart }
    time := buildTime f.initialTrim f.timeMatches s.time }

/-- An envelope entry that nothing has restored (log 47). -/
def unrestoredEntry (i : Nat) : LimitEntry := ⟨Config.unrestoredLimit i, .disabled, false, none, none, none⟩

/-- The build with a bad image. The grade profile stands as no start has restored it, eight cleared places (DEDUCED,
log 61); the envelope entries are log 47's, the day-record area is log 54's. -/
def buildBad (s : State) : State :=
  { s with
    limits := (List.range 12).map unrestoredEntry
    topics := [fallbackEntry s.station]
    bus := { s.bus with topics := fallbackTopics s.station } }

/-! ## Entry into Running and Limp (R183 step 6, R184) -/

/-- An enabled Technician-owned Stop entry. -/
def withholds (l : StoredLimit) : Bool :=
  l.enabled && l.config.action == .stop && l.config.owner == .technician

/-- CUTOUT's setting on entry to Limp. -/
def limpCutout (s : State) : Bool :=
  if s.imageGood then !(storedLimits s).any withholds
  else
    match s.store.limits.restored limitsOk with
    | some l => !l.any withholds
    | none => false

/-- The Limp cause: the first that applies. -/
def limpCauseOf (s : State) (clash : Bool) : Option LimpCause :=
  if !s.imageGood then some .imageBad
  else if s.station == 0 then some .strapFault
  else if clash then some .topicClash
  else none

/-- A key-off taken in Running or Limp (R185). DESIGN CHOICE (log 63): the final checkpoint is wanted before the
day-record job. -/
def takeKeyOff (s : State) : State :=
  let s := wantCheckpoint (setMeterUnit { s.meter with keyOffTaken := true } s)
  if s.power == .running then wantDayJob s else s

/-- The graded entries' ages count from here (R157). -/
def startAges (s : State) : State :=
  { s with topics := s.topics.map fun e => { e with ageFrom := s.now } }

/-- The end of the start-up sequence; a held key-off is then taken (R181, log 21). -/
def endStart (clash : Bool) (s : State) : State :=
  let s := startPeriods { s with listenEnds := none }
  let s :=
    match limpCauseOf s clash with
    | some c => setCutout (limpCutout s) { s with power := .limp, limpCause := some c }
    | none => offerOwedTimes 8 (startAges { s with power := .running })
  if s.keyOffHeld || !s.pins.keyOn then takeKeyOff { s with keyOffHeld := false } else s

/-! ## The start-up sequence (R183) -/

/-- Steps 1 and 2: straps and image. -/
def readStraps (s : State) : State :=
  let s := { s with station := s.pins.straps.toNat }
  if s.station == 0 then report .strapFault startUpBlock s else s

/-- Step 4 with a good image. -/
def restoreAll (s : State) : State :=
  restoreService (restoreDays (restoreCheckpoint (restoreGrade (restoreLimits s))))

/-- Steps 2 to 4. -/
def buildAndRestore (s : State) : State :=
  let s := { s with store := { s.store with staging := stagingCopy s.store } }
  match acceptedImage s with
  | some f => restoreAll (reportClock (buildGood f s))
  | none => restoreCheckpoint (reportClock (buildBad (report .imageBad storeBlock s)))

/-- A start, from its first step; the listen of 500 ms waits for its end or a clash (step 5). -/
def beginStart (s : State) : State :=
  let s := buildAndRestore (readStraps { giveUp s with power := .startUp, detectorArmed := true })
  if s.imageGood && s.station != 0 then { s with listenEnds := some (s.now + 500) } else endStart false s

/-! ## Lines and supplies (R181, R182, R185) -/

/-- Entry to Keep-alive. -/
def enterKeepAlive (s : State) : State := { giveUp s with power := .keepAlive }

/-- A start follows at once while KEYON is asserted (R181). -/
def startIfKeyOn (s : State) : State := if s.pins.keyOn then beginStart s else s

def batteryConnected (keyOn : Bool) (straps : BitVec 5) (s : State) : State :=
  if s.power == .off then
    startIfKeyOn { s with
      power := .keepAlive, time := .atBatteryConnect, pins := { s.pins with keyOn := keyOn, straps := straps } }
  else s

/-- Removal of the keep-alive supply, from any state: nothing runs. -/
def keepAliveLost (s : State) : State :=
  if s.power == .off then s
  else { giveUp (cutOffStore s) with power := .off, time := .atBatteryConnect }

def mainSupplyLost (s : State) : State :=
  if awake s || s.power == .startUp then enterKeepAlive (cutOffStore s) else s

def keyTurnedOn (straps : BitVec 5) (s : State) : State :=
  let s := { s with pins := { s.pins with keyOn := true, straps := straps } }
  if s.power == .keepAlive then beginStart s else s

def keyTurnedOff (s : State) : State :=
  let s := { s with pins := { s.pins with keyOn := false } }
  if awake s then (if s.meter.keyOffTaken then s else takeKeyOff s)
  else if s.power == .startUp then { s with keyOffHeld := true }
  else s

/-- The key-off shutdown completes when all of these hold at once (R185). -/
def shutdownDone (s : State) : Bool :=
  awake s && s.meter.keyOffTaken && s.store.queue.isEmpty && s.store.writing.isNone
    && s.meter.job == .none && s.meter.pending == .clear
    && !s.economy.writePending && !s.service.writePending

def shutdownCompleted (s : State) : State :=
  if shutdownDone s then startIfKeyOn (enterKeepAlive s) else s

/-- The supply-drop detector detects (R182). -/
def supplyDropped (s : State) : State :=
  if powered s && s.detectorArmed then
    let s := { s with detectorArmed := false }
    if awake s then urgentCheckpoint s else s
  else s

def detectorRearmed (s : State) : State := if powered s then { s with detectorArmed := true } else s

/-! ## RESTART's start and the listen (R166, R183, R186) -/

/-- A waiting RESTART may start. -/
def restartDue (s : State) : Bool :=
  match s.restart with
  | some w => awake s && (w.replySent || decide (w.deadline ≤ s.now)) && s.store.writing.isNone
  | none => false

def restartBegun (s : State) : State := if restartDue s then beginStart s else s

/-- The part listens in the start-up sequence. -/
def listening (s : State) : Bool := s.power == .startUp && s.listenEnds.isSome

def listenEnded (s : State) : State :=
  if s.power == .startUp && due s.now s.listenEnds then endStart false s else s

/-- A frame of another station on one of the part's own topics (R166). -/
def clashHeard (topic : Nat) (s : State) : State :=
  if !(publicationTopics s.bus.topics).contains topic then s
  else if listening s then endStart true (pulseFault .topicClash (.topic topic) s)
  else if receiving s then
    let s := pulseFault .topicClash (.topic topic) s
    if s.power == .running && s.bus.topics.cutDemand == some topic then enterHold s else s
  else s

/-! ## Bus-off (R165) -/

/-- The frame with the controller becomes a candidate again (R162, R196). -/
def Biu.release (b : Biu) : Biu :=
  match b.controller with
  | some (.cyclic p) =>
    let c := b.place p
    { b.setPlace (if c.framesSent == 0 then { c with sending := none } else c) p with controller := none }
  | _ => { b with controller := none }

/-- The controller goes bus-off (R165, log 36). -/
def busWentOff (s : State) : State :=
  if awake s && s.bus.busState == .online && decide (255 < s.bus.txErrors) then
    let b := s.bus.release
    if b.busOffCount < 2 then
      report .busOff biuBlock { s with bus := { b with busState := .busOff, busOffCount := b.busOffCount + 1 } }
    else
      let s := report .busSilent biuBlock { s with bus := { b with busState := .silent, busOffCount := 3 } }
      if s.power == .running then enterHold s else s
  else s

def busRecovered (s : State) : State :=
  if awake s && s.bus.busState == .busOff then
    endFault .busOff biuBlock { s with bus := { s.bus with busState := .online, txErrors := 0 } }
  else s

/-- The frame with the controller is transmitted (R162, R165). -/
def frameSent (s : State) : State :=
  let counted := { s with bus := { s.bus with txErrors := s.bus.txErrors - 1 } }
  match s.bus.controller with
  | none => s
  | some (.cyclic p) => sentCyclic p counted
  | some (.ring id) =>
    match s.bus.ring.find? (·.id == id) with
    | some f => sentRing f counted
    | none => s

/-- The attempt ends without transmission (R162, R165). -/
def attemptFailed (error : Bool) (s : State) : State :=
  if s.bus.controller.isNone then s
  else
    let b := s.bus.release
    { s with bus := { b with txErrors := b.txErrors + if error then 8 else 0 } }

end Sys2Proof.Machine
end

