-- ==== Sys2Proof/Machine/ReadRecords.lean ====
section
/-! DEFINITION. The records READ returns (R169, R170, R200): their fields, and the cut into parts. -/

namespace Sys2Proof.Machine

/-! ## Parts (R200) -/

/-- A field that would not fit in the room left in a part of 12 bytes begins the next part. -/
def packInto (current : List Byte) : List (List Byte) → List (List Byte)
  | [] => [current]
  | f :: rest =>
    if current.length + f.length ≤ 12 then packInto (current ++ f) rest
    else current :: packInto f rest

def pack (fields : List (List Byte)) : List (List Byte) := packInto [] fields

/-- A record's parts brought to the number its selector fixes (log 27). -/
def padParts (n : Nat) (l : List (List Byte)) : List (List Byte) := l ++ List.replicate (n - l.length) []

def u32Bytes (n : Nat) : List Byte := le 4 n
/-- Two bytes for a number whose range fits 16 bits; DEDUCED (log 24) where R200 names such a number among the counts
and sequences of four bytes as well (unsafe). -/
def u16Bytes (n : Nat) : List Byte := le 2 n

/-! ## Records -/

def counterBytes (c : Option Counter) : List Byte := presence 2 (c.map fun c => u16Bytes c.toNat)

/-- An age in milliseconds; above 65,535 its 16 bits are a free value (log 30). In Limp ages stay 0. -/
def ageBytes (s : State) (e : SubEntry) : List Byte :=
  if s.power != .running then u16Bytes 0
  else if e.age s.now ≤ 65535 then u16Bytes (e.age s.now)
  else u16Bytes (Config.ageBeyond s.freeCount).toNat

/-- The length of the longest reply: the four bytes of R198 and every field of an envelope entry (R36). -/
def longestReply : Nat := 35

/-- A stored reply: a presence byte, its length, and its bytes, each a field of its own, in the room of the longest
reply (log 26). -/
def storedReplyFields (r : Option (List Byte)) : List (List Byte) :=
  let b := r.getD []
  (flagByte r.isSome :: byte b.length :: (b ++ List.replicate (longestReply - b.length) 0#8)).map fun x => [x]

/-- A subscription entry: counter and state first, then the order of R156; a REQUEST entry has the request
fields of R167 in place of limits, age and state (log 26). -/
def subscriptionFields (s : State) (e : SubEntry) : List (List Byte) :=
  let identity := [u16Bytes e.config.topic, [byte e.config.station], [byte e.config.role.num]]
  if e.config.role == .request then
    [counterBytes e.counter] ++ identity
      ++ [counterBytes e.inFlight] ++ storedReplyFields e.stored ++ [u16Bytes e.run, u16Bytes e.gaps]
  else
    [counterBytes e.counter, [byte e.state.num]] ++ identity
      ++ [u16Bytes e.config.staleLimit, u16Bytes e.config.lostLimit, ageBytes s e, u16Bytes e.run,
          u16Bytes e.gaps]

/-- The time left of an override in 0.1 s, rounded up; in Hold the time left at the entry to Hold (R200). -/
def overrideLeft (s : State) (r : Record) : Nat :=
  match r.expiry with
  | none => 0
  | some t =>
    let at' := if r.timerRuns then s.now else s.intervention.holdAt.getD s.now
    max 1 ((t - at' + 99) / 100)

/-- The intervention record's two parts (R200). -/
def recordParts (s : State) (r : Record) : List (List Byte) :=
  [u16Bytes r.seq ++ [byte r.kind.num, indexByte r.source, byte r.cause.num, r.blocked,
      byte (r.state.num + (if r.breachGone then 4 else 0) + (if r.owed then 8 else 0))]
      ++ u16Bytes (overrideLeft s r),
   u16Bytes r.seq ++ le 2 r.snapshot.reach ++ le 2 r.snapshot.tip ++ u16Bytes r.snapshot.slewAngle.toNat
      ++ [byte r.snapshot.quality.num]]

/-- One meter (R136). -/
def meterFields (m : Meters) (n : Nat) : List (List Byte) :=
  match m.value n with
  | some (.time h sec) => [[byte n], [0#8], u32Bytes h, u16Bytes sec]
  | some (.count c) => [[byte n], [1#8], u32Bytes c]
  | none => []

/-- The checkpoint state (R136). DEDUCED (log 24): the number of waiting requests and the periodic count take two bytes,
the sequence numbers four (unsafe). -/
def checkpointFields (u : MeterUnit) : List (List Byte) :=
  [u32Bytes u.sequence, [byte u.job.num], presence 4 (u.snapshot.map fun c => u32Bytes c.sequence),
   [byte u.pending.num], u16Bytes u.waiters.length, u16Bytes u.periodic,
   presence 4 (u.lastCompleted.map u32Bytes)]

/-- A service item (R138, R139). -/
def itemFields (i : ServiceItem) : List (List Byte) :=
  let c := i.config
  [u16Bytes c.code, [byte c.cls.num], [indexByte c.basis], u32Bytes c.meterInterval, u32Bytes c.meterLead,
   u32Bytes c.meterGrace, u16Bytes c.dayInterval, u16Bytes c.dayLead, u16Bytes c.dayGrace,
   [indexByte c.reminder], lastMeterBytes i.lastMeter, dateBytes i.lastDate, [byte i.meterStanding.num],
   [byte i.dayStanding.num], [byte i.state.num], [flagByte i.acknowledged],
   presence 1 (i.owed.map fun k => [byte k.num])]

/-- A history entry (R151). -/
def historyFields (e : HistoryEntry) : List (List Byte) :=
  [[byte e.item], u16Bytes e.code, [indexByte e.basis], lastMeterBytes e.meter, dateBytes e.date,
   [byte e.station]]

/-- A day record (R104). -/
def dayFields (r : DayRecord) : List (List Byte) :=
  [dateBytes r.date, u32Bytes r.engineSeconds, u32Bytes r.fuel, u32Bytes r.idleFuel, u16Bytes r.cycles,
   u16Bytes r.interventions, [flagByte r.clockSet]]

/-- The shift totals (R103). -/
def shiftFields (t : ShiftTotals) : List (List Byte) :=
  [u32Bytes t.fuel, u32Bytes t.idleFuel, u32Bytes t.engineSeconds]

/-- A fault entry: occurrences first, then the order of R173. -/
def faultFields (e : FaultEntry) : List (List Byte) :=
  [u16Bytes e.occurrences, [byte e.code.num], u16Bytes e.source.num, [if e.active then 0#8 else 1#8],
   timeBytes e.firstTime, timeBytes e.lastTime]

/-- The clock's fields, in the order of R108. DEDUCED (log 24): the trim has one signed byte, as in SET_TRIM. DEDUCED
(log 76): the last set is packed as three fields, source, step and time, since its 14 bytes fit no part, while a scope
and a notice owed are one field each (unsafe). -/
def clockFields (t : TimeBase) : List (List Byte) :=
  [timeBytes (some t.clock), [flagByte t.unsetCause.isNone],
   presence 1 (t.unsetCause.map fun c => [byte c.num]), [flagByte t.stopped], le 1 t.trim,
   [flagByte t.trimLoaded], [byte t.lastSet.source.num], presence 5 (t.lastSet.step.map (le 5)),
   timeBytes t.lastSet.time]

/-- A time-match entry (R118). DESIGN CHOICE (log 57): the part is empty while no time-match entries are held. -/
def matchPart (t : TimeBase) (i : Nat) : List Byte :=
  match t.timeMatches[i]? with
  | some m => [byte i, byte m.minute, byte m.hour, m.days.setWidth 8, byte m.purpose.num, flagByte m.enabled]
  | none => []

/-- The clock's parts (R170, R200): the clock's fields that part 0 can take, the six time-match entries in parts 1
to 6, and the clock's other fields after them (log 25). -/
def clockParts (t : TimeBase) : List (List Byte) :=
  let clock := pack (clockFields t)
  clock.take 1 ++ (List.range 6).map (matchPart t) ++ clock.drop 1

/-- A day record by its index (R104). -/
def dayAt (a : DayArea) (i : Nat) : Option (List (List Byte)) :=
  if i == 15 then some (shiftFields a.shift)
  else if i == 0 then some (dayFields a.opened)
  else (a.ring.reverse[i - 1]?).map dayFields

/-- The parts of the record that answers to a selector and index; the outer level is absent for an unknown
selector, the inner one for an index that names no record (R170). -/
def recordOf (s : State) (selector index : Nat) : Option (Option (List (List Byte))) :=
  match selector with
  | 1 => some ((s.topics[index]?).map fun e => padParts 5 (pack (subscriptionFields s e)))
  | 2 => some ((s.limits[index]?).map fun e => pack (limitFields index e))
  | 3 => some ((s.intervention.list.find? (·.seq == index)).map (recordParts s))
  | 4 => some (if 8 < index then none
      else some (padParts 2 (pack (if index == 8 then checkpointFields s.meter
        else meterFields s.meter.meters index))))
  | 5 => some (((s.service.items[index]?).join).map fun i => pack (itemFields i))
  | 6 => some ((s.service.history.reverse[index]?).map fun e => pack (historyFields e))
  | 7 => some ((dayAt s.economy.days index).map fun f => padParts 3 (pack f))
  | 8 => some ((s.diag.entries[index]?).map fun e => pack (faultFields e))
  | 9 => some (if index == 0 then some (clockParts s.time) else none)
  | _ => none

/-- The age that READ shows is beyond 16 bits, so that a free value was used. -/
def readsFree (s : State) (selector index : Nat) : Bool :=
  selector == 1 && s.power == .running &&
    match s.topics[index]? with
    | some e => e.config.role != .request && decide (65535 < e.age s.now)
    | none => false

end Sys2Proof.Machine
end

