-- ==== Sys2Proof/Machine/Requests.lean ====
section
/-! DEFINITION. The request framework (R167, R185, R197): repeats, Busy, the code step, Limp and key-off, then
the owner. -/

namespace Sys2Proof.Machine

/-- A block that owns a request: its answer, over the arguments from D2. -/
abbrev Owner := Ticket → List Byte → State → Answer

/-- Requests taken in Limp (R167 step 4). -/
def takenInLimp (code : Byte) : Bool := [1#8, 2#8, 3#8, 4#8, 5#8].contains code

/-- Requests that pass the key-off check of the framework: READ, and RESTART, whose own entry has the check
in its order (R185, R186; log 18). -/
def passesKeyOff (code : Byte) : Bool := code == 1#8 || code == 3#8

/-- A repeat of the waiting RESTART's own request queues its Done reply again: that frame counts as the
reply (R186). -/
def noteRequeued (e : SubEntry) (reply : List Byte) (s : State) : State :=
  if 8 ≤ s.bus.ring.length then s
  else { s with restart := s.restart.map fun w =>
    if w.stations.head? == some e.config.station && reply.getD 1 0 == 3#8 && reply.getD 3 1 == 0#8 then
      { w with replyIds := w.replyIds ++ [s.bus.nextId] }
    else w }

/-- A repeat (R167 step 1). -/
def repeatRequest (e : SubEntry) (s : State) : State :=
  if e.counter == e.inFlight then s
  else
    match e.stored with
    | none => s
    | some reply =>
      let s := noteRequeued e reply s
      { s with bus := s.bus.queueReply reply }

/-- The tag of a request; a free value where its data hold none (log 31). -/
def requestTag (r : Request) (s : State) : Byte × State :=
  match r.data with
  | tag :: _ => (tag, s)
  | [] => (Config.missingTag s.freeCount, useFree s)

/-- Steps 3 to 5 of R167, the request standing as its entry's last frame. DESIGN CHOICE (log 52): the reply joins the
event ring after the notices that the owner's effect has queued in the same event. -/
def judgeRequest (code : Byte) (owner : Option Owner) (t : Ticket) (r : Request) (s : State) : State :=
  match owner with
  | none => sendReply t .badArgument [] s
  | some own =>
    if !argsComplete code.toNat r then sendReply t .badArgument [] s
    else if s.power == .limp && !takenInLimp code then sendReply t .refusedState [] s
    else if s.meter.keyOffTaken && !passesKeyOff code then sendReply t .refusedState [] s
    else
      match own t r.args s with
      | .reply res data s => sendReply t res data s
      | .flight s => modifyRequest t.station (fun e => { e with inFlight := some t.counter }) s

/-- A new frame (R167 step 2). DEDUCED (log 34): R157's judging fields are not used in a REQUEST entry, so its last
payload stays absent and its run and gap count stay 0 (safe). -/
def newRequest (code : Byte) (owner : Option Owner) (e : SubEntry) (r : Request) (s : State) : State :=
  let s := modifyRequest r.station (fun e => { e with counter := some r.counter, stored := none }) s
  let (tag, s) := requestTag r s
  let t : Ticket := ⟨r.station, r.counter, code, tag, 0⟩
  if e.inFlight.isSome then sendReply t .busy [] s else judgeRequest code owner t r s

/-- A completed request frame (R167). A station without a REQUEST entry has no topic for it. -/
def takeRequest (code : Byte) (owner : Option Owner) (r : Request) (s : State) : State :=
  match requestEntry s r.station with
  | none => s
  | some e =>
    if !receiving s then s
    else
      let s := modifyRequest r.station (fun e => { e with assembly := none }) s
      if e.counter == some r.counter then repeatRequest e s else newRequest code owner e r s

/-! ## Owners of Access, Store, Diagnostic List -/

/-- READ (R169). -/
def readOwner : Owner := fun _ a s =>
  let selector := argNat a 0
  let index := argU16 a 1
  let part := argNat a 3
  match recordOf s selector index with
  | none => refuse .badArgument s
  | some none => refuse .unknownRecord s
  | some (some parts) =>
    match parts[part]? with
    | none => refuse .badArgument s
    | some bytes =>
      accept ([byte selector] ++ u16Bytes index ++ [byte part, byte parts.length] ++ bytes)
        (if readsFree s selector index then useFree s else s)

/-- A free entry has no level and no lockout expiry (R192). -/
def Grant.free (g : Grant) : Bool := g.level.isNone && g.lockout.isNone

def setGrants (l : List Grant) (s : State) : State := { s with access := l }

/-- An entry with its place in the Access Table. -/
def grantOf (s : State) (station : Nat) : Option (Nat × Grant) :=
  match indexOf? (Grant.serves station) s.access, s.access.find? (Grant.serves station) with
  | some i, some g => some (i, g)
  | _, _ => none

/-- The station's entry, or the free entry of lowest index taken for it (R193). -/
def grantFor (s : State) (station : Nat) : Option (Nat × Grant) :=
  match grantOf s station with
  | some x => some x
  | none => (indexOf? Grant.free s.access).map fun i => (i, { Grant.empty with station := some station })

/-- The image's key of a level (R192). -/
def imageKey (s : State) : OwnerLevel → BitVec 32
  | .supervisor => s.config.supervisorKey
  | .technician => s.config.technicianKey

/-- The entry after a failure counted (R193). -/
def Grant.failed (g : Grant) (now : Nat) : Grant :=
  if g.failures < 4 then { g with failures := g.failures + 1 }
  else { g with level := none, expiry := none, failures := 0, lockout := some (now + 60000) }

/-- The code check of KEY. -/
def checkKey (need : OwnerLevel) (code : BitVec 32) (t : Ticket) (s : State) : Answer :=
  match grantFor s t.station with
  | none => refuse .refusedFull s
  | some (i, g) =>
    if imageKey s need == 0 then refuse .refusedKey (setGrants (s.access.set i g) s)
    else if code == imageKey s need then
      accept ([byte (ownerLevel need).num] ++ u16Bytes 600)
        (setGrants (s.access.set i
          { g with level := some need, expiry := some (s.now + grantTime), failures := 0 }) s)
    else refuse .refusedKey (setGrants (s.access.set i (g.failed s.now)) s)

/-- KEY (R193). DEDUCED (log 71): the Done reply for level Operator carries the level, one byte 0. -/
def keyOwner : Owner := fun t a s =>
  match levelOf (argNat a 0) with
  | none => refuse .badArgument s
  | some level =>
    if ((grantOf s t.station).bind (·.2.lockout)).isSome then refuse .refusedLocked s
    else
      match level with
      | .operator =>
        accept [0#8] (setGrants (mapWhere (Grant.serves t.station)
          (fun g => { g with level := none, expiry := none }) s.access) s)
      | .supervisor => checkKey .supervisor (argU32 a 1) t s
      | .technician => checkKey .technician (argU32 a 1) t s

/-- The waiting RESTART that a taken request makes or joins (R186; log 20). -/
def restartWait (t : Ticket) (s : State) : RestartWait :=
  match s.restart with
  | some w => { w with stations := w.stations ++ [t.station] }
  | none => ⟨[t.station], s.now + 200, if s.bus.ring.length < 8 then [s.bus.nextId] else [], false⟩

/-- RESTART (R186). -/
def restartOwner : Owner := fun t _ s =>
  if s.restart.any (fun w => w.stations.contains t.station) then refuse .busy s
  else if s.meter.keyOffTaken then refuse .refusedState s
  else checkLevel .technician t s fun s => accept [] { s with restart := some (restartWait t s) }

/-- CLEAR_FAULTS (R179). -/
def clearFaultsOwner : Owner := fun t _ s =>
  if inHold s then refuse .refusedState s
  else checkLevel .technician t s fun s =>
    let removed := (s.diag.entries.filter fun e => !e.active).length
    let d := clearInactive s.diag (stampNow s)
    accept (u16Bytes removed ++ u16Bytes d.entries.length) { s with diag := d }

/-- WRITE_IMAGE (R190). -/
def writeImageOwner : Owner := fun t a s =>
  if inHold s then refuse .refusedState s
  else checkLevel .technician t s fun s =>
    if engineRunning s then refuse .refusedState s
    else if 2047 < argU16 a 0 then refuse .badArgument s
    else if !placeFree s then refuse .busy s
    else .flight (queueJob (.imageBlock (argU16 a 0) (argU32 a 2) t) s)

end Sys2Proof.Machine
end

