-- ==== Sys2Proof/Machine/RequestsLimits.lean ====
section
/-! DEFINITION. Requests of the Envelope and Intervention Units (R33 to R38, R66 to R69). -/

namespace Sys2Proof.Machine

/-! ## Envelope Unit -/

/-- A Latched entry whose flag ACK_WARNING may clear (R33). -/
def LimitEntry.acknowledgeable (e : LimitEntry) : Bool := e.config.latch == .latched && !e.inWarning

/-- ACK_WARNING All. -/
def ackAllWarnings (s : State) : Answer :=
  accept (u16Bytes (s.limits.filter fun e => e.acknowledgeable && e.warning).length)
    { s with limits := mapWhere LimitEntry.acknowledgeable (fun e => { e with warning := false }) s.limits }

/-- ACK_WARNING (R33). -/
def ackWarningOwner : Owner := fun _ a s =>
  let i := argNat a 0
  if limpOrHold s then refuse .refusedState s
  else if i == 255 then ackAllWarnings s
  else
    match s.limits[i]? with
    | none => refuse .unknownRecord s
    | some e =>
      if e.config.latch == .latched && e.inWarning then refuse .refusedState s
      else
        let flag := e.warning && e.config.latch == .follow
        accept [byte i, flagByte flag] (setLimit i { e with warning := flag } s)

/-- Checks 2 to 5 of R34, and the rest of a limit request over its entry. -/
def limitRequest (t : Ticket) (a : List Byte) (s : State) (rest : Nat → LimitEntry → State → Answer) : Answer :=
  if limpOrHold s then refuse .refusedState s
  else checkLevel .supervisor t s fun s =>
    match s.limits[argNat a 0]? with
    | none => refuse .unknownRecord s
    | some e =>
      if e.config.owner == .technician && !holds s t.station .technician then refuse .refusedLevel s
      else rest (argNat a 0) e s

/-- The change joins or queues a limit-area job, and its request waits (R40). -/
def carryLimit (t : Ticket) (i : Nat) (s : State) : Answer :=
  .flight (carry Job.isLimits .limitArea { t with index := i } s)

/-- TEACH_LIMIT (R35). -/
def teachLimitOwner : Owner := fun t a s =>
  limitRequest t a s fun i e s =>
    match limitKindOf (argNat a 1) with
    | none => refuse .badArgument s
    | some kind =>
      if s.pose.pose.quality != .valid then refuse .refusedState s
      else if !canCarry Job.isLimits s then refuse .busy s
      else carryLimit t i (makePending i e (taughtConfig e.config kind (measured s kind)) s)

/-- The configured fields that SET_LIMIT's arguments give, if every code is in range (R36, R197). -/
def limitArgs (a : List Byte) : Option LimitConfig :=
  match limitKindOf (argNat a 1), limitActionOf (argNat a 6) with
  | some kind, some action =>
    let flags := arg8 a 8
    some {
      kind := kind
      value := if kind.isSlew then argU16 a 2 else argS16 a 2
      margin := argU16 a 4
      action := action
      guarded := if flags.getLsbD 0 then kind.defaultGuarded else arg8 a 7
      scope :=
        if flags.getLsbD 1 then some ⟨BitVec.ofNat 16 (argU16 a 9), BitVec.ofNat 16 (argU16 a 11)⟩ else none
      owner := if flags.getLsbD 2 then .technician else .supervisor
      latch := if flags.getLsbD 3 then .latched else .follow }
  | _, _ => none

/-- SET_LIMIT (R36). -/
def setLimitOwner : Owner := fun t a s =>
  limitRequest t a s fun i e s =>
    if (arg8 a 8).getLsbD 2 && !holds s t.station .technician then refuse .refusedLevel s
    else
      match limitArgs a with
      | none => refuse .badArgument s
      | some c =>
        if !c.ok then refuse .badArgument s
        else if !canCarry Job.isLimits s then refuse .busy s
        else carryLimit t i (makePending i e c s)

/-- ENABLE_LIMIT (R37). -/
def enableLimitOwner : Owner := fun t a s =>
  limitRequest t a s fun i e s =>
    if e.state != .disabled then accept [byte i, byte e.state.num] s
    else if !canCarry Job.isLimits s then refuse .busy s
    else carryLimit t i (makePending i e e.config s)

/-- DISABLE_LIMIT's refusal by state (R38). -/
def disableRefused (i : Nat) (e : LimitEntry) (s : State) : Bool :=
  s.intervention.list.any (Record.ofEntry i) || (e.state == .breach && e.config.action != .warn)

/-- DISABLE_LIMIT (R38). -/
def disableLimitOwner : Owner := fun t a s =>
  limitRequest t a s fun i e s =>
    if e.state == .disabled then accept [byte i, byte e.state.num] s
    else if disableRefused i e s then refuse .refusedState s
    else if !canCarry Job.isLimits s then refuse .busy s
    else carryLimit t i (setLimit i
      { e with state := .disabled, warning := false, last := none, cause := none, owed := none } s)

/-! ## Intervention Unit -/

/-- RELEASE may remove the record (R66). -/
def Record.releasable (r : Record) : Bool :=
  (r.state == .clearable && r.kind != .limitSlow) || (r.state == .overridden && r.breachGone)

/-- The release of a record. DESIGN CHOICE (log 52): its Removed notice joins the event ring before the reply. -/
def releaseRecord (r : Record) (s : State) : Answer :=
  if r.releasable then
    accept (u16Bytes r.seq) (interventionEvent (Work.remove (·.seq == r.seq)) s)
  else refuse .refusedState s

/-- RELEASE (R66). -/
def releaseOwner : Owner := fun t a s =>
  let seq := argU16 a 0
  if limpOrHold s then refuse .refusedState s
  else if seq == 0 then refuse .badArgument s
  else
    match s.intervention.list.find? (·.seq == seq) with
    | none => refuse .unknownRecord s
    | some r =>
      if r.cause == .externalSilent then checkLevel .technician t s (releaseRecord r)
      else releaseRecord r s

/-- The entry of an entry's record is Technician-owned (R67). -/
def technicianOwned (s : State) (r : Record) : Bool :=
  match r.source.bind fun i => s.limits[i]? with
  | some e => e.config.owner == .technician
  | none => false

def overrideTime : Nat := 30000

/-- The record set aside (R67). -/
def Record.setAside (now : Nat) (r : Record) : Record :=
  { r with state := .overridden, expiry := some (now + overrideTime), timerRuns := true }

/-- OVERRIDE (R67). DESIGN CHOICE (log 52): its record notice joins the event ring before the reply. -/
def overrideOwner : Owner := fun t a s =>
  let seq := argU16 a 0
  if limpOrHold s then refuse .refusedState s
  else checkLevel .supervisor t s fun s =>
    if seq == 0 then refuse .badArgument s
    else
      match s.intervention.list.find? (·.seq == seq) with
      | none => refuse .unknownRecord s
      | some r =>
        if r.kind != .limitStop || !(r.state == .confirmed || r.state == .clearable)
            || technicianOwned s r then refuse .refusedState s
        else
          accept (u16Bytes seq ++ u16Bytes 300)
            (interventionEvent
              (Work.change (·.seq == seq) (Record.setAside s.now) (fun _ => true)) s)

/-- RESUME (R69). -/
def resumeOwner : Owner := fun t _ s =>
  if limpOrHold s then refuse .refusedState s
  else checkLevel .supervisor t s fun s =>
    let u := s.intervention
    if u.supervision == .faulted && u.confirmed && u.confirmTimer.isNone then
      accept ([byte Supervision.settled.num] ++ u16Bytes u.demandSeq.toNat)
        (endFault .cutUnconfirmed (valveStation s) (setIntervention { u with supervision := .settled } s))
    else refuse .refusedState s

end Sys2Proof.Machine
end

