-- ==== Sys2Proof/Machine/RequestsWork.lean ====
section
/-! DEFINITION. Requests of the Guidance, Economy, Pose, Time, Meter and Service blocks (R16, R71, R74, R88,
R111, R114, R127, R147, R150). -/

namespace Sys2Proof.Machine

/-! ## Guidance Unit -/

def setBenchmark (b : Option Int) (s : State) : Answer :=
  accept (signed16 b) (formGuidance (setGuidance { s.guidance with benchmark := b } s))

/-- BENCHMARK (R71). -/
def benchmarkOwner : Owner := fun t a s =>
  if limpOrHold s then refuse .refusedState s
  else checkLevel .supervisor t s fun s =>
    match argNat a 0 with
    | 0 =>
      if s.pose.pose.quality != .valid || pilotTravel s then refuse .refusedState s
      else setBenchmark (some s.pose.pose.tip) s
    | 1 => setBenchmark none s
    | _ => refuse .badArgument s

/-- A segment fits between the nearest present segments of lower and higher index (R74). -/
def segmentFits (p : List (Option Segment)) (i : Nat) (g : Segment) : Bool :=
  (match ((presentPlaces p).filter fun x => decide (x.1 < i)).getLast? with
   | some (_, below) => decide (below.reachTo ≤ g.reachFrom)
   | none => true)
  && (match ((presentPlaces p).filter fun x => decide (i < x.1)).head? with
      | some (_, above) => decide (g.reachTo ≤ above.reachFrom)
      | none => true)

/-- The change a SET_GRADE makes (R74). R80 gives the next update's scan the index at reset, R76 the index and the
reach of the update before; DEDUCED (log 72): the scan that SET_GRADE itself runs is such an update and moves both, so
the next update starts from where it ended (safe: the result is the same from either start, R76). -/
def changeGrade (t : Ticket) (i : Nat) (place : Option Segment) (s : State) : Answer :=
  if !canCarry Job.isGrade s then refuse .busy s
  else
    let p := s.guidance.profile.set i place
    let s := scanAndForm (setGuidance { s.guidance with
      profile := p, scanIndex := lowestPresent p, previousReach := none } s)
    .flight (carry Job.isGrade .gradeProfile { t with index := i } s)

/-- SET_GRADE (R74). -/
def setGradeOwner : Owner := fun t a s =>
  let i := argNat a 0
  if limpOrHold s then refuse .refusedState s
  else checkLevel .supervisor t s fun s =>
    if 7 < i then refuse .unknownRecord s
    else
      match argNat a 1 with
      | 0 =>
        let g : Segment := ⟨argS16 a 2, argS16 a 4, argS16 a 6, argS16 a 8⟩
        if g.ok && within (-32767) 32767 (g.heightAt g.reachTo) && segmentFits s.guidance.profile i g then
          changeGrade t i (some g) s
        else refuse .badArgument s
      | 1 =>
        match s.guidance.profile[i]? with
        | some (some _) => changeGrade t i none s
        | _ => accept (byte i :: placeBytes none) s
      | _ => refuse .badArgument s

/-! ## Economy Unit -/

/-- POWER_MODE (R88). -/
def powerModeOwner : Owner := fun _ a s =>
  if limpOrHold s then refuse .refusedState s
  else
    match powerModeOf (argNat a 0) with
    | none => refuse .badArgument s
    | some mode =>
      if s.service.derate && mode != .economy then refuse .refusedState s
      else
        let s := setEconomy { s.economy with requested := mode } s
        accept [byte mode.num, byte (modeInForce s).num] s

/-! ## Pose Unit -/

/-- TABLE_RECALL's effect on the pose (R17). -/
def recallPose (i : Nat) (s : State) : State := if i < 2 then solveAndGrade s else s

/-- The recall's effect and its Done reply. DESIGN CHOICE (log 52): the notices of its pose update join the event ring
before the reply. DEDUCED (log 77): the held output goes out as the fixed value is taken, a signed 16-bit value, 8000H
where it is absent. -/
def doneRecall (i : Nat) (old new : Descriptor) (s : State) : Answer :=
  accept ([byte i, if new.enabled then 0#8 else 1#8] ++ signed16 new.held ++ [flagByte new.clamped])
    (recallPose i (setDescriptor i old new s))

/-- TABLE_RECALL (R16). -/
def tableRecallOwner : Owner := fun t a s =>
  let i := argNat a 0
  if limpOrHold s then refuse .refusedState s
  else checkLevel .technician t s fun s =>
    match s.pose.descriptors[i]? with
    | none => refuse .unknownRecord s
    | some d =>
      if d.config.limit == 0 then refuse .unknownRecord s
      else
        match argNat a 1 with
        | 0 => doneRecall i d (d.recalled s.config.pool (boundInput s i)) s
        | 1 =>
          if a.length < 4 || !inPointRange i (argS16 a 2) then refuse .badArgument s
          else doneRecall i d (d.fixedTo (argS16 a 2)) s
        | _ => refuse .badArgument s

/-! ## Time Base -/

/-- The clock fields that SET_CLOCK's arguments give. -/
def clockArgs (a : List Byte) : ClockTime :=
  ⟨argNat a 5, argNat a 4, argNat a 3, argNat a 6, argNat a 2, argNat a 1, 2000 + argNat a 0⟩

/-- Every field of a clock time lies in its range, and the date exists (R108, R109). -/
def ClockTime.ok (t : ClockTime) : Bool :=
  decide (t.second ≤ 59) && decide (t.minute ≤ 59) && decide (t.hour ≤ 23) && decide (t.dayOfWeek ≤ 6)
    && decide (2000 ≤ t.year) && decide (t.year ≤ 2099) && dateExists t.date t.month t.year

/-- SET_CLOCK (R114). DEDUCED (log 56): the Done reply gives the clock fields in the order of the TIME_SYNC payload,
then the clock state. -/
def setClockOwner : Owner := fun t a s =>
  if limpOrHold s then refuse .refusedState s
  else checkLevel .supervisor t s fun s =>
    if !(clockArgs a).ok then refuse .badArgument s
    else if s.time.stopped then refuse .refusedState s
    else accept (timeBytes (some (clockArgs a)) ++ [1#8]) (setClockTo (clockArgs a) .setClock s)

/-- SET_TRIM (R111). -/
def setTrimOwner : Owner := fun t a s =>
  let trim := (arg8 a 0).toInt
  if limpOrHold s then refuse .refusedState s
  else checkLevel .technician t s fun s =>
    if !within (-100) 100 trim then refuse .badArgument s
    else accept (le 1 trim) (setTime { s.time with trim := trim, trimLoaded := true } s)

/-! ## Meter Unit -/

/-- The value that SET_METER's arguments give for a meter, if in range (R127). -/
def meterArgs (a : List Byte) : Option MeterValue :=
  let n := (argU32 a 1).toNat
  if argNat a 0 == 7 then (if n ≤ maxCycles then some (.count n) else none)
  else if n ≤ maxHours && argU16 a 5 ≤ 3599 then some (.time n (argU16 a 5))
  else none

def Meters.set (m : Meters) (n : Nat) : MeterValue → Meters
  | .time h sec => { m with times := m.times.set n ⟨h, sec⟩ }
  | .count c => { m with cycles := c }

/-- The change a SET_METER makes: the meter, the wanted checkpoint, the announcement. With the sequence
counter exhausted the request is answered with the other waiters (R131, R134). -/
def raiseMeter (t : Ticket) (n : Nat) (v : MeterValue) (s : State) : Answer :=
  let s := setMeterUnit { s.meter with meters := s.meter.meters.set n v } s
  if checkpointExhausted s then
    accept (setMeterReply s.meter.meters n) (announceMeter n (exhaustCheckpoints s))
  else .flight (announceMeter n (wantCheckpointFor { t with index := n } s))

/-- SET_METER (R127). DEDUCED (log 43): with the sequence counter exhausted R134 answers, also where no store place is
free, and R131's Busy is not consulted. -/
def setMeterOwner : Owner := fun t a s =>
  let n := argNat a 0
  if limpOrHold s then refuse .refusedState s
  else checkLevel .technician t s fun s =>
    match s.meter.meters.value n with
    | none => refuse .unknownRecord s
    | some present =>
      match meterArgs a with
      | none => refuse .badArgument s
      | some v =>
        if v.amount < present.amount then refuse .badArgument s
        else if v.amount == present.amount then accept (setMeterReply s.meter.meters n) s
        else if s.meter.job == .none && !placeFree s && !checkpointExhausted s then refuse .busy s
        else raiseMeter t n v s

/-! ## Service Unit -/

/-- SERVICE_DONE (R150). -/
def serviceDoneOwner : Owner := fun t a s =>
  let i := argNat a 0
  if limpOrHold s then refuse .refusedState s
  else checkLevel .technician t s fun s =>
    match s.service.items[i]? with
    | some (some item) =>
      if argU16 a 1 != item.config.code then refuse .badArgument s
      else if freePlaces s < serviceJobsNeeded s then refuse .busy s
      else .flight (recordService i item { t with index := i } s)
    | _ => refuse .unknownRecord s

/-- Items that ACK_REMINDER All acknowledges. -/
def ackable (o : Option ServiceItem) : Bool :=
  match o with
  | some i => i.state != .ok
  | none => false

def ackAllReminders (s : State) : Answer :=
  accept (u16Bytes (s.service.items.filter ackable).length)
    (setService { s.service with
      items := mapWhere ackable (Option.map fun i => { i with acknowledged := true }) s.service.items } s)

/-- ACK_REMINDER (R147). -/
def ackReminderOwner : Owner := fun _ a s =>
  let i := argNat a 0
  if limpOrHold s then refuse .refusedState s
  else if i == 255 then ackAllReminders s
  else
    match s.service.items[i]? with
    | some (some item) =>
      if item.state == .ok then refuse .refusedState s
      else accept [byte i, byte item.state.num, 1#8] (setItem i { item with acknowledged := true } s)
    | _ => refuse .unknownRecord s

/-! ## Requests by their code (R197) -/

/-- The owner of a request code. -/
def ownerOf (code : Byte) : Option Owner :=
  match code.toNat with
  | 1 => some readOwner
  | 2 => some keyOwner
  | 3 => some restartOwner
  | 4 => some clearFaultsOwner
  | 5 => some writeImageOwner
  | 6 => some ackWarningOwner
  | 7 => some teachLimitOwner
  | 8 => some setLimitOwner
  | 9 => some enableLimitOwner
  | 10 => some disableLimitOwner
  | 11 => some releaseOwner
  | 12 => some overrideOwner
  | 13 => some resumeOwner
  | 14 => some benchmarkOwner
  | 15 => some setGradeOwner
  | 16 => some powerModeOwner
  | 17 => some tableRecallOwner
  | 18 => some setClockOwner
  | 19 => some setTrimOwner
  | 20 => some setMeterOwner
  | 21 => some serviceDoneOwner
  | 22 => some ackReminderOwner
  | _ => none

/-- A completed request frame by its code; a frame without any data has a free code (log 31). -/
def takeByCode (code : Option Byte) (r : Request) (s : State) : State :=
  match code with
  | some c => takeRequest c (ownerOf c) r s
  | none => takeRequest (Config.missingCode s.freeCount) none r (useFree s)

/-! ## Assembly (R196) -/

/-- The assembly after a frame. -/
def assembled (old : Option Assembly) (f : Frame) : Option Assembly :=
  if frameNumber f == 0 then some ⟨frameCounter f, f.data, 1⟩
  else
    match old with
    | some a =>
      if a.counter == frameCounter f && a.next == frameNumber f then
        some ⟨a.counter, a.data ++ f.data, a.next + 1⟩
      else none
    | none => none

/-- A frame on a REQUEST topic. One that completes its series is the request frame that R167 handles. -/
def takeFragment (station : Nat) (f : Frame) (s : State) : State :=
  match requestEntry s station with
  | none => s
  | some e =>
    if !receiving s then s
    else
      match assembled e.assembly f with
      | some a =>
        if frameLast f then takeByCode a.data.head? ⟨station, a.counter, a.data.drop 1⟩ s
        else modifyRequest station (fun e => { e with assembly := some a }) s
      | none => modifyRequest station (fun e => { e with assembly := none }) s

end Sys2Proof.Machine
end

