-- ==== Sys2Proof/Machine/ExecRequests.lean ====
section
/-! DEFINITION. Commands of the REQUEST topics: the 22 requests, an unknown code, and a frame of a series. -/

namespace Sys2Proof.Machine

/-- The answer of every command: its effect, and the end of the event. -/
def finish (before after : State) : Host.Outcome State Fault Refusal := .next (settle before after)

/-- READ (R169). -/
def execRead (r : Request) (s : State) : Host.Outcome State Fault Refusal :=
  finish s (takeRequest 1#8 (some readOwner) r s)

/-- KEY (R193). -/
def execKey (r : Request) (s : State) : Host.Outcome State Fault Refusal :=
  finish s (takeRequest 2#8 (some keyOwner) r s)

/-- RESTART (R186). -/
def execRestart (r : Request) (s : State) : Host.Outcome State Fault Refusal :=
  finish s (takeRequest 3#8 (some restartOwner) r s)

/-- CLEAR_FAULTS (R179). -/
def execClearFaults (r : Request) (s : State) : Host.Outcome State Fault Refusal :=
  finish s (takeRequest 4#8 (some clearFaultsOwner) r s)

/-- WRITE_IMAGE (R190). -/
def execWriteImage (r : Request) (s : State) : Host.Outcome State Fault Refusal :=
  finish s (takeRequest 5#8 (some writeImageOwner) r s)

/-- ACK_WARNING (R33). -/
def execAckWarning (r : Request) (s : State) : Host.Outcome State Fault Refusal :=
  finish s (takeRequest 6#8 (some ackWarningOwner) r s)

/-- TEACH_LIMIT (R35). -/
def execTeachLimit (r : Request) (s : State) : Host.Outcome State Fault Refusal :=
  finish s (takeRequest 7#8 (some teachLimitOwner) r s)

/-- SET_LIMIT (R36). -/
def execSetLimit (r : Request) (s : State) : Host.Outcome State Fault Refusal :=
  finish s (takeRequest 8#8 (some setLimitOwner) r s)

/-- ENABLE_LIMIT (R37). -/
def execEnableLimit (r : Request) (s : State) : Host.Outcome State Fault Refusal :=
  finish s (takeRequest 9#8 (some enableLimitOwner) r s)

/-- DISABLE_LIMIT (R38). -/
def execDisableLimit (r : Request) (s : State) : Host.Outcome State Fault Refusal :=
  finish s (takeRequest 10#8 (some disableLimitOwner) r s)

/-- RELEASE (R66). -/
def execRelease (r : Request) (s : State) : Host.Outcome State Fault Refusal :=
  finish s (takeRequest 11#8 (some releaseOwner) r s)

/-- OVERRIDE (R67). -/
def execOverride (r : Request) (s : State) : Host.Outcome State Fault Refusal :=
  finish s (takeRequest 12#8 (some overrideOwner) r s)

/-- RESUME (R69). -/
def execResume (r : Request) (s : State) : Host.Outcome State Fault Refusal :=
  finish s (takeRequest 13#8 (some resumeOwner) r s)

/-- BENCHMARK (R71). -/
def execBenchmark (r : Request) (s : State) : Host.Outcome State Fault Refusal :=
  finish s (takeRequest 14#8 (some benchmarkOwner) r s)

/-- SET_GRADE (R74). -/
def execSetGrade (r : Request) (s : State) : Host.Outcome State Fault Refusal :=
  finish s (takeRequest 15#8 (some setGradeOwner) r s)

/-- POWER_MODE (R88). -/
def execPowerMode (r : Request) (s : State) : Host.Outcome State Fault Refusal :=
  finish s (takeRequest 16#8 (some powerModeOwner) r s)

/-- TABLE_RECALL (R16). -/
def execTableRecall (r : Request) (s : State) : Host.Outcome State Fault Refusal :=
  finish s (takeRequest 17#8 (some tableRecallOwner) r s)

/-- SET_CLOCK (R114). -/
def execSetClock (r : Request) (s : State) : Host.Outcome State Fault Refusal :=
  finish s (takeRequest 18#8 (some setClockOwner) r s)

/-- SET_TRIM (R111). -/
def execSetTrim (r : Request) (s : State) : Host.Outcome State Fault Refusal :=
  finish s (takeRequest 19#8 (some setTrimOwner) r s)

/-- SET_METER (R127). -/
def execSetMeter (r : Request) (s : State) : Host.Outcome State Fault Refusal :=
  finish s (takeRequest 20#8 (some setMeterOwner) r s)

/-- SERVICE_DONE (R150). -/
def execServiceDone (r : Request) (s : State) : Host.Outcome State Fault Refusal :=
  finish s (takeRequest 21#8 (some serviceDoneOwner) r s)

/-- ACK_REMINDER (R147). -/
def execAckReminder (r : Request) (s : State) : Host.Outcome State Fault Refusal :=
  finish s (takeRequest 22#8 (some ackReminderOwner) r s)

/-- UNKNOWN_REQUEST_CODE (R167 step 3). A code that names a request runs it. -/
def execUnknownRequestCode (code : Option Byte) (r : Request) (s : State) :
    Host.Outcome State Fault Refusal :=
  finish s (takeByCode code r s)

/-- REQUEST_FRAGMENT (R196). -/
def execRequestFragment (station : Nat) (f : Frame) (s : State) : Host.Outcome State Fault Refusal :=
  finish s (takeFragment station f s)

end Sys2Proof.Machine
end

