-- ==== Sys2Proof/Machine/ExecTopics.lean ====
section
/-! DEFINITION. Commands of the graded topics (R157 to R159), of a topic clash (R166) and of the entries' ages
(R158). -/

namespace Sys2Proof.Machine

/-- POSE_INPUT_ARRIVAL (R2). -/
def execPoseInputArrival (role : PoseRole) (f : Frame) (s : State) : Host.Outcome State Fault Refusal :=
  finish s (takeFrame role.role none f s)

/-- ENGINE_RUN (R91, R94). -/
def execEngineRun (f : Frame) (s : State) : Host.Outcome State Fault Refusal :=
  finish s (takeFrame .engineRun none f s)

/-- ENGINE_FUEL (R102). -/
def execEngineFuel (f : Frame) (s : State) : Host.Outcome State Fault Refusal :=
  finish s (takeFrame .engineFuel none f s)

/-- COOLANT (R15). -/
def execCoolant (f : Frame) (s : State) : Host.Outcome State Fault Refusal :=
  finish s (takeFrame .coolant none f s)

/-- PUMP (R81). -/
def execPump (f : Frame) (s : State) : Host.Outcome State Fault Refusal :=
  finish s (takeFrame .pump none f s)

/-- PILOT (R72, R81, R92 to R95). -/
def execPilot (f : Frame) (s : State) : Host.Outcome State Fault Refusal :=
  finish s (takeFrame .pilot none f s)

/-- VALVE_CUT (R58). -/
def execValveCut (f : Frame) (s : State) : Host.Outcome State Fault Refusal :=
  finish s (takeFrame .valveCut none f s)

/-- EXT_CUT (R48). -/
def execExtCut (station : Nat) (f : Frame) (s : State) : Host.Outcome State Fault Refusal :=
  finish s (takeFrame .extCut (some station) f s)

/-- TIME_SYNC (R116). -/
def execTimeSync (f : Frame) (s : State) : Host.Outcome State Fault Refusal :=
  finish s (takeFrame .timeSync none f s)

/-- TOPIC_CLASH (R166). -/
def execTopicClash (topic : Nat) (s : State) : Host.Outcome State Fault Refusal :=
  finish s (clashHeard topic s)

/-- STALE_LIMIT_PASSED (R158). -/
def execStaleLimitPassed (entry : Nat) (s : State) : Host.Outcome State Fault Refusal :=
  finish s (staleEntry entry s)

/-- LOST_LIMIT_PASSED (R158). -/
def execLostLimitPassed (entry : Nat) (s : State) : Host.Outcome State Fault Refusal :=
  finish s (lostEntry entry s)

end Sys2Proof.Machine
end

