-- ==== Sys2Proof/Machine/ExecTimers.lean ====
section
/-! DEFINITION. Commands of the part's timers, periods and clock, and of its store. Each acts only when its
timer runs and has reached its expiry (log 3). -/

namespace Sys2Proof.Machine

/-- `f` when a timer is due. -/
def whenDue (t : Option Nat) (f : State → State) (s : State) : State := if due s.now t then f s else s

/-- DEGRADED_TIMER_EXPIRY (R9). -/
def execDegradedTimerExpiry (s : State) : Host.Outcome State Fault Refusal :=
  finish s (whenDue s.pose.degradedTimer degradedExpired s)

/-- CONFIRM_TIMER_EXPIRY (R60, R61). -/
def execConfirmTimerExpiry (s : State) : Host.Outcome State Fault Refusal :=
  finish s (whenDue s.intervention.confirmTimer confirmExpired s)

/-- A record's override timer is due. -/
def overrideDue (now : Nat) (r : Record) : Bool :=
  r.state == .overridden && r.timerRuns && due now r.expiry

/-- OVERRIDE_TIMER_EXPIRY (R68). -/
def execOverrideTimerExpiry (sequence : Nat) (s : State) : Host.Outcome State Fault Refusal :=
  finish s
    (if s.intervention.list.any (fun r => r.seq == sequence && overrideDue s.now r) then
      interventionEvent (Work.overrideExpired sequence) s
    else s)

/-- STAGE_TIMER_EXPIRY (R83). -/
def execStageTimerExpiry (s : State) : Host.Outcome State Fault Refusal :=
  finish s (whenDue s.guidance.stageTimer stageExpired s)

/-- WAIT_TIMER_EXPIRY (R92). -/
def execWaitTimerExpiry (s : State) : Host.Outcome State Fault Refusal :=
  finish s (whenDue s.economy.waitTimer waitExpired s)

/-- SHUTDOWN_TIMER_EXPIRY (R93). -/
def execShutdownTimerExpiry (s : State) : Host.Outcome State Fault Refusal :=
  finish s (whenDue s.economy.shutdownTimer shutdownExpired s)

/-- RESUME_TIMER_EXPIRY (R94). -/
def execResumeTimerExpiry (s : State) : Host.Outcome State Fault Refusal :=
  finish s (whenDue s.economy.resumeTimer resumeExpired s)

/-- The grant of an entry lapses (R192). -/
def Grant.lapsed (now : Nat) (g : Grant) : Grant :=
  if due now g.expiry then { g with level := none, expiry := none } else g

/-- The lockout of an entry ends (R192). -/
def Grant.unlocked (now : Nat) (g : Grant) : Grant :=
  if due now g.lockout then { g with lockout := none, failures := 0 } else g

/-- GRANT_EXPIRY (R192). -/
def execGrantExpiry (station : Nat) (s : State) : Host.Outcome State Fault Refusal :=
  finish s (setGrants (mapWhere (Grant.serves station) (Grant.lapsed s.now) s.access) s)

/-- LOCKOUT_EXPIRY (R192). -/
def execLockoutExpiry (station : Nat) (s : State) : Host.Outcome State Fault Refusal :=
  finish s (setGrants (mapWhere (Grant.serves station) (Grant.unlocked s.now) s.access) s)

/-- CUT_DEMAND_PERIOD (R56). -/
def execCutDemandPeriod (s : State) : Host.Outcome State Fault Refusal := finish s (periodic .cutDemand s)

/-- GUIDANCE_PERIOD (R79). -/
def execGuidancePeriod (s : State) : Host.Outcome State Fault Refusal := finish s (periodic .guidance s)

/-- ENGINE_REQ_PERIOD (R101). -/
def execEngineReqPeriod (s : State) : Host.Outcome State Fault Refusal := finish s (periodic .engineReq s)

/-- METERS_PERIOD (R136). -/
def execMetersPeriod (s : State) : Host.Outcome State Fault Refusal := finish s (periodic .meters s)

/-- STATUS_PERIOD (R171). -/
def execStatusPeriod (s : State) : Host.Outcome State Fault Refusal := finish s (periodic .status s)

/-- CLOCK_COUNT (R109, R113). -/
def execClockCount (s : State) : Host.Outcome State Fault Refusal := finish s (clockCounted s)

/-- OSCILLATOR_STOP (R112). -/
def execOscillatorStop (s : State) : Host.Outcome State Fault Refusal := finish s (oscillatorStopped s)

/-- OSCILLATOR_RESTART (R112). -/
def execOscillatorRestart (s : State) : Host.Outcome State Fault Refusal := finish s (oscillatorRestarted s)

/-- The write in flight has reached its end. -/
def writeDue (s : State) : Bool :=
  match s.store.writing with
  | some w => decide (w.ends ≤ s.now)
  | none => false

/-- STORE_WRITE_COMPLETE (R188). -/
def execStoreWriteComplete (s : State) : Host.Outcome State Fault Refusal :=
  finish s (if writeDue s then writeCompleted s else s)

end Sys2Proof.Machine
end

