-- ==== Sys2Proof/Machine/ExecLines.lean ====
section
/-! DEFINITION. Commands of the supplies, the key, the bus controller, and of the start-up sequence. -/

namespace Sys2Proof.Machine

/-- SUPPLY_DROP (R133, R182). -/
def execSupplyDrop (s : State) : Host.Outcome State Fault Refusal := finish s (supplyDropped s)

/-- DETECTOR_REARM (R182). -/
def execDetectorRearm (s : State) : Host.Outcome State Fault Refusal := finish s (detectorRearmed s)

/-- FRAME_TRANSMITTED (R162). -/
def execFrameTransmitted (s : State) : Host.Outcome State Fault Refusal := finish s (frameSent s)

/-- TRANSMIT_ATTEMPT_FAILED (R162, R165). -/
def execTransmitAttemptFailed (error : Bool) (s : State) : Host.Outcome State Fault Refusal :=
  finish s (attemptFailed error s)

/-- BUS_OFF (R165). -/
def execBusOff (s : State) : Host.Outcome State Fault Refusal := finish s (busWentOff s)

/-- BUS_RECOVERY (R165). -/
def execBusRecovery (s : State) : Host.Outcome State Fault Refusal := finish s (busRecovered s)

/-- BATTERY_CONNECT (R108, R181). -/
def execBatteryConnect (keyOn : Bool) (straps : BitVec 5) (s : State) : Host.Outcome State Fault Refusal :=
  finish s (batteryConnected keyOn straps s)

/-- KEEP_ALIVE_SUPPLY_LOSS (R181). -/
def execKeepAliveSupplyLoss (s : State) : Host.Outcome State Fault Refusal := finish s (keepAliveLost s)

/-- MAIN_SUPPLY_LOSS (R181). -/
def execMainSupplyLoss (s : State) : Host.Outcome State Fault Refusal := finish s (mainSupplyLost s)

/-- KEY_ON (R181, R183). -/
def execKeyOn (straps : BitVec 5) (s : State) : Host.Outcome State Fault Refusal :=
  finish s (keyTurnedOn straps s)

/-- KEY_OFF (R181, R185). -/
def execKeyOff (s : State) : Host.Outcome State Fault Refusal := finish s (keyTurnedOff s)

/-- The state from which an event that may start the part is settled: the part passes through the start-up
sequence, so a Limp that follows is a change of the power state (R171, log 23). -/
def throughStartUp (starts : Bool) (s : State) : State := if starts then { s with power := .startUp } else s

/-- SHUTDOWN_COMPLETE (R185). -/
def execShutdownComplete (s : State) : Host.Outcome State Fault Refusal :=
  finish (throughStartUp (shutdownDone s) s) (shutdownCompleted s)

/-- RESTART_BEGIN (R186). -/
def execRestartBegin (s : State) : Host.Outcome State Fault Refusal :=
  finish (throughStartUp (restartDue s) s) (restartBegun s)

/-- LISTEN_END (R183). -/
def execListenEnd (s : State) : Host.Outcome State Fault Refusal := finish s (listenEnded s)

end Sys2Proof.Machine
end

