-- ==== Sys2Proof/Machine/Dispatch.lean ====
section
/-! DEFINITION. One arm for each command of the table. -/

namespace Sys2Proof.Machine

def exec (i : Instr) (s : State) : Host.Outcome State Fault Refusal :=
  match i with
  | .read r => Sys2Proof.Machine.execRead r s
  | .key r => Sys2Proof.Machine.execKey r s
  | .restart r => Sys2Proof.Machine.execRestart r s
  | .clearFaults r => Sys2Proof.Machine.execClearFaults r s
  | .writeImage r => Sys2Proof.Machine.execWriteImage r s
  | .ackWarning r => Sys2Proof.Machine.execAckWarning r s
  | .teachLimit r => Sys2Proof.Machine.execTeachLimit r s
  | .setLimit r => Sys2Proof.Machine.execSetLimit r s
  | .enableLimit r => Sys2Proof.Machine.execEnableLimit r s
  | .disableLimit r => Sys2Proof.Machine.execDisableLimit r s
  | .release r => Sys2Proof.Machine.execRelease r s
  | .override r => Sys2Proof.Machine.execOverride r s
  | .resume r => Sys2Proof.Machine.execResume r s
  | .benchmark r => Sys2Proof.Machine.execBenchmark r s
  | .setGrade r => Sys2Proof.Machine.execSetGrade r s
  | .powerMode r => Sys2Proof.Machine.execPowerMode r s
  | .tableRecall r => Sys2Proof.Machine.execTableRecall r s
  | .setClock r => Sys2Proof.Machine.execSetClock r s
  | .setTrim r => Sys2Proof.Machine.execSetTrim r s
  | .setMeter r => Sys2Proof.Machine.execSetMeter r s
  | .serviceDone r => Sys2Proof.Machine.execServiceDone r s
  | .ackReminder r => Sys2Proof.Machine.execAckReminder r s
  | .unknownRequestCode code r => Sys2Proof.Machine.execUnknownRequestCode code r s
  | .requestFragment station f => Sys2Proof.Machine.execRequestFragment station f s
  | .poseInputArrival role f => Sys2Proof.Machine.execPoseInputArrival role f s
  | .engineRun f => Sys2Proof.Machine.execEngineRun f s
  | .engineFuel f => Sys2Proof.Machine.execEngineFuel f s
  | .coolant f => Sys2Proof.Machine.execCoolant f s
  | .pump f => Sys2Proof.Machine.execPump f s
  | .pilot f => Sys2Proof.Machine.execPilot f s
  | .valveCut f => Sys2Proof.Machine.execValveCut f s
  | .extCut station f => Sys2Proof.Machine.execExtCut station f s
  | .timeSync f => Sys2Proof.Machine.execTimeSync f s
  | .topicClash topic => Sys2Proof.Machine.execTopicClash topic s
  | .staleLimitPassed entry => Sys2Proof.Machine.execStaleLimitPassed entry s
  | .lostLimitPassed entry => Sys2Proof.Machine.execLostLimitPassed entry s
  | .degradedTimerExpiry => Sys2Proof.Machine.execDegradedTimerExpiry s
  | .confirmTimerExpiry => Sys2Proof.Machine.execConfirmTimerExpiry s
  | .overrideTimerExpiry sequence => Sys2Proof.Machine.execOverrideTimerExpiry sequence s
  | .stageTimerExpiry => Sys2Proof.Machine.execStageTimerExpiry s
  | .waitTimerExpiry => Sys2Proof.Machine.execWaitTimerExpiry s
  | .shutdownTimerExpiry => Sys2Proof.Machine.execShutdownTimerExpiry s
  | .resumeTimerExpiry => Sys2Proof.Machine.execResumeTimerExpiry s
  | .grantExpiry station => Sys2Proof.Machine.execGrantExpiry station s
  | .lockoutExpiry station => Sys2Proof.Machine.execLockoutExpiry station s
  | .cutDemandPeriod => Sys2Proof.Machine.execCutDemandPeriod s
  | .guidancePeriod => Sys2Proof.Machine.execGuidancePeriod s
  | .engineReqPeriod => Sys2Proof.Machine.execEngineReqPeriod s
  | .metersPeriod => Sys2Proof.Machine.execMetersPeriod s
  | .statusPeriod => Sys2Proof.Machine.execStatusPeriod s
  | .clockCount => Sys2Proof.Machine.execClockCount s
  | .oscillatorStop => Sys2Proof.Machine.execOscillatorStop s
  | .oscillatorRestart => Sys2Proof.Machine.execOscillatorRestart s
  | .supplyDrop => Sys2Proof.Machine.execSupplyDrop s
  | .detectorRearm => Sys2Proof.Machine.execDetectorRearm s
  | .storeWriteComplete => Sys2Proof.Machine.execStoreWriteComplete s
  | .frameTransmitted => Sys2Proof.Machine.execFrameTransmitted s
  | .transmitAttemptFailed error => Sys2Proof.Machine.execTransmitAttemptFailed error s
  | .busOff => Sys2Proof.Machine.execBusOff s
  | .busRecovery => Sys2Proof.Machine.execBusRecovery s
  | .batteryConnect keyOn straps => Sys2Proof.Machine.execBatteryConnect keyOn straps s
  | .keepAliveSupplyLoss => Sys2Proof.Machine.execKeepAliveSupplyLoss s
  | .mainSupplyLoss => Sys2Proof.Machine.execMainSupplyLoss s
  | .keyOn straps => Sys2Proof.Machine.execKeyOn straps s
  | .keyOff => Sys2Proof.Machine.execKeyOff s
  | .shutdownComplete => Sys2Proof.Machine.execShutdownComplete s
  | .restartBegin => Sys2Proof.Machine.execRestartBegin s
  | .listenEnd => Sys2Proof.Machine.execListenEnd s

end Sys2Proof.Machine
end

