-- ==== Sys2Proof/Machine/Tick.lean ====
section
/-! DEFINITION. What the part's own time does on an empty queue: one millisecond passes, the crystal's periods
are counted, and the timed commands that have fallen due join the queue in a fixed order (log 1, 2, 5). -/

namespace Sys2Proof.Machine

/-- `c` when `b`. -/
def dueIf (b : Bool) (c : Instr) : List Instr := if b then [c] else []

/-- The crystal's periods of one millisecond: the prescaler counts them up to the last value it takes in the
present second (R108, R109), and those past it are carried (log 5). -/
def countPeriods (s : State) : State :=
  if powered s && !s.time.stopped then
    let seen := s.time.prescaler + s.time.carried + Config.crystalPeriods s.freeCount
    let counted := min (s.time.length - 1) seen
    useFree (setTime { s.time with prescaler := counted, carried := seen - counted } s)
  else s

/-- The stations whose grant, or lockout, is due. -/
def grantsDue (s : State) (expiry : Grant → Option Nat) (c : Nat → Instr) : List Instr :=
  s.access.flatMap fun g =>
    match g.station with
    | some st => dueIf (due s.now (expiry g)) (c st)
    | none => []

/-- Stale and lost limits that have passed, by entry. -/
def agesDue (s : State) : List Instr :=
  if s.power != .running then []
  else (indexed s.topics).flatMap fun (i, e) =>
    dueIf (staleDue s.now e) (.staleLimitPassed i)
      ++ dueIf (lostDue s.now e || (staleDue s.now e && decide (e.config.lostLimit ≤ e.age s.now)))
        (.lostLimitPassed i)

/-- The timers that have reached their expiry. -/
def timersDue (s : State) : List Instr :=
  dueIf (due s.now s.pose.degradedTimer) .degradedTimerExpiry
    ++ dueIf (due s.now s.intervention.confirmTimer) .confirmTimerExpiry
    ++ (s.intervention.list.filter (overrideDue s.now)).map (fun r => .overrideTimerExpiry r.seq)
    ++ dueIf (due s.now s.guidance.stageTimer) .stageTimerExpiry
    ++ dueIf (due s.now s.economy.waitTimer) .waitTimerExpiry
    ++ dueIf (due s.now s.economy.shutdownTimer) .shutdownTimerExpiry
    ++ dueIf (due s.now s.economy.resumeTimer) .resumeTimerExpiry
    ++ grantsDue s (·.expiry) .grantExpiry
    ++ grantsDue s (·.lockout) .lockoutExpiry

/-- The publication periods that have come round. -/
def periodsDue (s : State) : List Instr :=
  dueIf (periodDue s .cutDemand) .cutDemandPeriod
    ++ dueIf (periodDue s .guidance) .guidancePeriod
    ++ dueIf (periodDue s .engineReq) .engineReqPeriod
    ++ dueIf (periodDue s .meters) .metersPeriod
    ++ dueIf (periodDue s .status) .statusPeriod

/-- The part's own conditions that hold. -/
def conditionsDue (s : State) : List Instr :=
  dueIf (writeDue s) .storeWriteComplete
    ++ dueIf (awake s && s.bus.busState == .online && decide (255 < s.bus.txErrors)) .busOff
    ++ dueIf (shutdownDone s) .shutdownComplete
    ++ dueIf (restartDue s) .restartBegin
    ++ dueIf (s.power == .startUp && due s.now s.listenEnds) .listenEnd

/-- Every timed command due, in the model's order (log 2). -/
def dueCommands (s : State) : List Instr := agesDue s ++ timersDue s ++ periodsDue s ++ conditionsDue s

/-- One millisecond of the part's own time. -/
def tick (s : State) : State :=
  let t := countPeriods { s with now := s.now + 1 }
  { t with pending := dueIf (countDue t) .clockCount ++ dueCommands t }

end Sys2Proof.Machine
end

