-- ==== Sys2Proof/Machine/Step.lean ====
section
/-! DEFINITION. One step: the command at the front of the queue, or, on an empty queue, one millisecond of the
part's own time (log 1, 2). -/

namespace Sys2Proof.Machine

/-- A step: the front command on the state with the queue's rest; a tick on an empty queue. -/
def step (s : State) : Host.Outcome State Fault Refusal :=
  match s.pending with
  | c :: rest => exec c { s with pending := rest }
  | [] => .next (tick s)

/-- `s` with the command a word spells put at the front of its queue. No word spells one. -/
def State.withFetchWord (s : State) (nbits w : Nat) : State :=
  match decodeTableWord nbits w with
  | some c => { s with pending := c :: s.pending }
  | none => s

end Sys2Proof.Machine
end

