-- ==== Sys2Proof/Safety.lean ====
section
/-! DEFINITION. The vocabulary of the statements: the laws of the part that every step keeps, each a decidable
condition of one state; what the end of an event and the sending of a reply leave alone; when a request and a
frame are taken, and the state in which they act. -/

namespace Sys2Proof.Machine

/-- CUTOUT (R64, R181): in Running it is energised exactly while supervision is Settled or Awaiting and the BIU
is Online; outside Running and Limp it is de-energised. -/
def cutoutLaw (s : State) : Bool :=
  match s.power with
  | .running => s.pins.cutout == cutoutPermitted s
  | .limp => true
  | .off | .keepAlive | .startUp => !s.pins.cutout

/-- The demand (R55): the slow set is that of the list in every supervision state; the cut set is all eight motions in
Hold, and otherwise that of the list. -/
def demandLaw (s : State) : Bool :=
  s.intervention.cutSet == (if inHold s then MotionSet.all else cutSetOf s.intervention.list)
    && s.intervention.slowSet == slowSetOf s.intervention.list

/-- R96's law, with the states that lead to Idling and ShutdownPending: no record is listed in them. -/
def idleLaw (s : State) : Bool :=
  match s.economy.state with
  | .idleWait | .idling | .resuming | .shutdownPending => s.intervention.list.isEmpty
  | .stopped | .working | .held | .forced => true

/-- Sequence numbers rise along the list. -/
def risingSeqs : List Record → Bool
  | a :: b :: rest => decide (a.seq < b.seq) && risingSeqs (b :: rest)
  | _ => true

/-- Sequence numbers (R43, R44): in the order of the list, none above the counter, the counter at most 65,535. -/
def sequenceLaw (s : State) : Bool :=
  risingSeqs s.intervention.list
    && s.intervention.list.all (fun r => decide (r.seq ≤ s.intervention.lastSeq))
    && decide (s.intervention.lastSeq ≤ 65535)

/-- The event ring (R162): at most eight frames. -/
def ringLaw (s : State) : Bool := decide (s.bus.ring.length ≤ 8)

/-- No two entries of one code and source. -/
def distinctFaults : List FaultEntry → Bool
  | [] => true
  | e :: rest => !rest.any (FaultEntry.names e.code e.source) && distinctFaults rest

/-- The Diagnostic List (R173, R178): at most 20 entries, one per code and source, and the attention level that
of the Active ones. -/
def faultLaw (s : State) : Bool :=
  decide (s.diag.entries.length ≤ 20) && distinctFaults s.diag.entries
    && s.diag.attention == attentionOf s.diag.entries

/-- The unentered conditions (R177): each once, none of them listed, and none while the list has room. -/
def unenteredLaw (s : State) : Bool :=
  decide s.diag.unentered.Nodup
    && s.diag.unentered.all (fun c => !s.diag.entries.any (FaultEntry.names c.1 c.2))
    && (s.diag.unentered.isEmpty || (s.diag.entries.length == 20 && s.diag.entries.all (·.active)))

/-- The image blocks are in canonical form in both copies: the model's own representation (log 7, 8). -/
def imageLaw (s : State) : Bool := blocksWf s.store.image0.blocks && blocksWf s.store.image1.blocks

/-- The clock shows a date and time that exist (R108). -/
def clockLaw (s : State) : Bool := s.time.clock.ok

/-- The meters lie in their ranges (R121). -/
def meterLaw (s : State) : Bool := s.meter.meters.ok

/-- A meter's amount: seconds of a time meter, the count of Cycles. -/
def meterAmount (s : State) (n : Nat) : Nat :=
  match s.meter.meters.value n with
  | some v => v.amount
  | none => 0

/-! ## What stays -/

/-- The two states differ at most in what the end of an event changes (log 23): CUTOUT's level, the contents of
cyclic places, the frame handed to the controller, and the store's next write with the Meter Unit's job state. -/
structure EventEnd (s t : State) : Prop where
  time : t.now = s.now ∧ t.freeCount = s.freeCount ∧ t.time = s.time ∧ t.pending = s.pending
  supply : t.power = s.power ∧ t.limpCause = s.limpCause ∧ t.station = s.station
    ∧ t.keyOffHeld = s.keyOffHeld ∧ t.listenEnds = s.listenEnds ∧ t.restart = s.restart
    ∧ t.detectorArmed = s.detectorArmed ∧ t.pins.keyOn = s.pins.keyOn ∧ t.pins.straps = s.pins.straps
  image : t.config = s.config ∧ t.imageGood = s.imageGood ∧ t.access = s.access
  blocks : t.topics = s.topics ∧ t.pose = s.pose ∧ t.limits = s.limits ∧ t.intervention = s.intervention
    ∧ t.guidance = s.guidance ∧ t.economy = s.economy ∧ t.service = s.service ∧ t.diag = s.diag
  meter : { t.meter with job := s.meter.job } = s.meter
  array : { t.store with queue := s.store.queue, writing := s.store.writing } = s.store
  events : t.bus.ring = s.bus.ring ∧ t.bus.nextId = s.bus.nextId ∧ t.bus.topics = s.bus.topics
    ∧ t.bus.busState = s.bus.busState ∧ t.bus.busOffCount = s.bus.busOffCount
    ∧ t.bus.txErrors = s.bus.txErrors ∧ t.bus.repliesDropped = s.bus.repliesDropped
    ∧ t.bus.noticeCounter = s.bus.noticeCounter ∧ t.bus.replyCounter = s.bus.replyCounter

/-! ## Requests -/

/-- A completed request that the framework hands to its owner (R167): a new frame of a station with a REQUEST
entry and no request in flight, its arguments complete, in a state in which its code is taken. -/
def taken (code : Byte) (r : Request) (s : State) : Bool :=
  receiving s && argsComplete code.toNat r && (s.power != .limp || takenInLimp code)
    && (!s.meter.keyOffTaken || passesKeyOff code)
    && match requestEntry s r.station with
      | some e => e.counter != some r.counter && e.inFlight.isNone
      | none => false

/-- The state in which the framework has recorded a new frame: its counter is the entry's last counter, no reply
is stored, and no series is being assembled (R167, R196). -/
def recorded (r : Request) (s : State) : State :=
  modifyRequest r.station (fun e => { e with counter := some r.counter, stored := none })
    (modifyRequest r.station (fun e => { e with assembly := none }) s)

/-- The state its owner finds; a request without a tag has used a free value for it (log 31). -/
def noted (r : Request) (s : State) : State := (requestTag r (recorded r s)).2

/-- The request as its reply names it. -/
def ticketOf (code : Byte) (r : Request) (s : State) : Ticket :=
  ⟨r.station, r.counter, code, (requestTag r (recorded r s)).1, 0⟩

/-- The state its owner finds after a level check above Operator (R192). -/
def leveled (r : Request) (s : State) : State := renewGrant r.station (noted r s)

/-- A command that answers a request at once, the event having left `u`. -/
def repliedWith (code : Byte) (res : Result) (data : List Byte) (r : Request) (s u : State) :
    Host.Outcome State Fault Refusal :=
  .next (settle s (sendReply (ticketOf code r s) res data u))

/-- A command that answers a request Done, the event having left `u`. -/
def doneWith (code : Byte) (data : List Byte) (r : Request) (s u : State) :
    Host.Outcome State Fault Refusal := repliedWith code .done data r s u

/-- A command that takes a request into flight, the event having left `u` (R167). -/
def inFlightWith (r : Request) (s u : State) : Host.Outcome State Fault Refusal :=
  .next (settle s (modifyRequest r.station (fun e => { e with inFlight := some r.counter }) u))

/-- The request commands with their codes (R197). -/
def requestCommands : List (Byte × (Request → Instr)) :=
  [(1#8, .read), (2#8, .key), (3#8, .restart), (4#8, .clearFaults), (5#8, .writeImage), (6#8, .ackWarning),
   (7#8, .teachLimit), (8#8, .setLimit), (9#8, .enableLimit), (10#8, .disableLimit), (11#8, .release),
   (12#8, .override), (13#8, .resume), (14#8, .benchmark), (15#8, .setGrade), (16#8, .powerMode),
   (17#8, .tableRecall), (18#8, .setClock), (19#8, .setTrim), (20#8, .setMeter), (21#8, .serviceDone),
   (22#8, .ackReminder)]

/-- Each of these commands, its request taken, is answered RefusedState while cut supervision is in Hold (R63). -/
def RefusedInHold (commands : List (Byte × (Request → Instr))) : Prop :=
  ∀ x ∈ commands, ∀ (r : Request) (s : State), taken x.1 r s = true → inHold s = true →
    exec (x.2 r) s = repliedWith x.1 .refusedState [] r s (noted r s)

/-- Each of these commands, its request taken outside Hold, is answered RefusedLevel to a station below the level
(R192). -/
def RefusedBelow (need : Level) (commands : List (Byte × (Request → Instr))) : Prop :=
  ∀ x ∈ commands, ∀ (r : Request) (s : State), taken x.1 r s = true → inHold s = false →
    holds s r.station need = false → exec (x.2 r) s = repliedWith x.1 .refusedLevel [] r s (noted r s)

/-- The commands of the supplies, the key, the starts and a topic clash: those that may move the power state, the
lines, the station number or the configuration. -/
def isLineCommand : Instr → Bool
  | .supplyDrop | .detectorRearm | .batteryConnect _ _ | .keepAliveSupplyLoss | .mainSupplyLoss | .keyOn _
  | .keyOff | .shutdownComplete | .restartBegin | .listenEnd | .topicClash _ => true
  | _ => false

/-! ## Frames of graded topics -/

/-- A frame that the Topic Map accepts (R157): the entry's place, the entry before and after it, its payload. -/
def accepted (role : Role) (station : Option Nat) (f : Frame) (s : State) :
    Option (Nat × SubEntry × SubEntry × Payload) :=
  if s.power == .running && receiving s then
    match indexOf? (onTopic role station) s.topics, s.topics.find? (onTopic role station),
        framePayload role f with
    | some i, some e, some p => (e.judge (frameCounter f) p s.now).map fun new => (i, e, new, p)
    | _, _, _ => none
  else none

/-- The state a block finds when the accepted frame is handed to it: its entry graded (R158, R159). -/
def gradedBy (x : Nat × SubEntry × SubEntry × Payload) (s : State) : State :=
  let s := setTopic x.1 x.2.2.1 s
  if x.2.2.1.state == .fresh && x.2.1.state != .fresh then freshened x.2.2.1 s else s

/-! ## Rounding -/

/-- `q` is `n / d` to the nearest whole unit, halves away from zero. -/
def Nearest (n : Int) (d : Nat) (q : Int) : Prop :=
  2 * (n - q * d).natAbs ≤ d ∧ (2 * (n - q * d).natAbs = d → n.natAbs ≤ (q * d).natAbs)

end Sys2Proof.Machine
end

