-- ==== Sys2Proof/Certificates/Slice0/Obligations.lean ====
section
/-! DEFINITION. The statements for the provers. Each is a proposition about the machine, from the manual's rules
or from what the model derives from them; OBLIGATIONS.json lists them with their tiers and rules. -/

open Sys2Proof Sys2Proof.Machine

/-! ## The machine -/

/-- A step takes the command at the front of the queue and runs it on the state with the queue's rest. -/
def Obligations.StepRunsFrontCommand : Prop :=
  ∀ (s : State) (c : Instr) (rest : List Instr), s.pending = c :: rest →
    step s = exec c { s with pending := rest }

/-- On an empty queue a step is one millisecond of the part's own time (log 1, 2, 5): nothing changes but the
elapsed time, the crystal periods counted, and the queue of commands that have fallen due. The prescaler stays below
the length of the present second, and no period is lost. -/
def Obligations.EmptyQueueTicks : Prop :=
  ∀ s : State, s.pending = [] → ∃ t : State, step s = .next t ∧ t.now = s.now + 1
    ∧ { t with now := s.now, freeCount := s.freeCount, pending := [],
               time := { t.time with prescaler := s.time.prescaler, carried := s.time.carried } } = s
    ∧ (s.power ≠ .off → s.time.stopped = false →
      t.time.prescaler + t.time.carried
          = s.time.prescaler + s.time.carried + Config.crystalPeriods s.freeCount
        ∧ t.time.prescaler ≤ s.time.length - 1)
    ∧ t.pending = dueIf (countDue t) .clockCount ++ dueCommands t

/-- The part at reset (log 7): Off, its lines de-energised, the clock as at a battery connect, every block at its
start values; and every law holds there. -/
def Obligations.ResetValuesAndLaws : Prop :=
  (State.reset.power = .off ∧ State.reset.pins.cutout = false ∧ State.reset.pending = []
      ∧ State.reset.time = .atBatteryConnect ∧ State.reset.bus = .atStart ∧ State.reset.pose = .atStart
      ∧ State.reset.intervention = .atStart ∧ State.reset.guidance = .atStart
      ∧ State.reset.economy = .atStart ∧ State.reset.meter = .atStart ∧ State.reset.service = .atStart
      ∧ State.reset.diag = .empty ∧ State.reset.access = List.replicate 4 .empty)
    ∧ (cutoutLaw State.reset = true ∧ demandLaw State.reset = true ∧ idleLaw State.reset = true
      ∧ sequenceLaw State.reset = true ∧ ringLaw State.reset = true
      ∧ faultLaw State.reset = true ∧ unenteredLaw State.reset = true ∧ imageLaw State.reset = true
      ∧ clockLaw State.reset = true ∧ meterLaw State.reset = true)

/-! ## Laws that every step keeps -/

/-- R64: CUTOUT. -/
def Obligations.StepKeepsCutoutLaw : Prop :=
  ∀ s t : State, cutoutLaw s = true → step s = .next t → cutoutLaw t = true

/-- R55: the cut set and the slow set, in Hold too. -/
def Obligations.StepKeepsDemandLaw : Prop :=
  ∀ s t : State, demandLaw s = true → step s = .next t → demandLaw t = true

/-- R96: no record is listed in IdleWait, Idling, Resuming and ShutdownPending. -/
def Obligations.StepKeepsIdleLaw : Prop :=
  ∀ s t : State, idleLaw s = true → step s = .next t → idleLaw t = true

/-- R43, R44: sequence numbers. -/
def Obligations.StepKeepsSequenceLaw : Prop :=
  ∀ s t : State, sequenceLaw s = true → step s = .next t → sequenceLaw t = true

/-- R162: eight frames in the event ring. -/
def Obligations.StepKeepsRingLaw : Prop :=
  ∀ s t : State, ringLaw s = true → step s = .next t → ringLaw t = true

/-- R173, R177, R178: the fault list with its attention level, and the conditions that are not entered. -/
def Obligations.StepKeepsFaultLaw : Prop :=
  (∀ s t : State, faultLaw s = true → step s = .next t → faultLaw t = true)
    ∧ ∀ s t : State, faultLaw s = true → unenteredLaw s = true → step s = .next t → unenteredLaw t = true

/-- The image blocks stay in canonical form: block numbers rising, no zero word listed. The form is the model's own
representation of the array (log 7, 8). -/
def Obligations.StepKeepsImageLaw : Prop :=
  ∀ s t : State, imageLaw s = true → step s = .next t → imageLaw t = true

/-- R108, R109: the clock shows a date and time that exist. -/
def Obligations.StepKeepsClockLaw : Prop :=
  ∀ s t : State, clockLaw s = true → step s = .next t → clockLaw t = true

/-- R121: the meters lie in their ranges. -/
def Obligations.StepKeepsMeterLaw : Prop :=
  ∀ s t : State, meterLaw s = true → step s = .next t → meterLaw t = true

/-- R123: no meter decreases while the part stays in Running, or in Limp with no start to come. -/
def Obligations.MetersNeverDecrease : Prop :=
  ∀ s t : State, meterLaw s = true → step s = .next t → s.power = t.power →
    (s.power = .running
      ∨ (s.power = .limp ∧ s.restart = none ∧ s.meter.keyOffTaken = false)) →
    ∀ n, meterAmount s n ≤ meterAmount t n

/-- R63: Hold lasts while the part stays in Running, where the Intervention Unit's state stands but for the notices
its records owe; and entry into Hold. -/
def Obligations.HoldStands : Prop :=
  (∀ s t : State, s.power = .running → t.power = .running → inHold s = true → step s = .next t →
      let bare := fun u : InterventionUnit => { u with list := u.list.map fun r : Record => { r with owed := false } }
      inHold t = true ∧ bare t.intervention = bare s.intervention)
    ∧ (∀ s : State, inHold s = false →
      let u := s.intervention
      let t := enterHold s
      t.intervention = { u with
          supervision := .hold, confirmTimer := none, holdAt := some s.now, cutSet := 0xFF#8,
          list := u.list.map (fun r => { r with timerRuns := false }),
          demandSeq := if u.cutSet = 0xFF#8 then u.demandSeq else u.demandSeq + 1 }
        ∧ t.economy = { s.economy with
          state := .forced, waitTimer := none, shutdownTimer := none, resumeTimer := none }
        ∧ t.bus = { s.bus with cutDemand :=
                      s.bus.cutDemand.fill [0xFF#8, u.slowSet, t.intervention.demandSeq] }
        ∧ { t with intervention := u, economy := s.economy, bus := s.bus } = s)

/-! ## What a command leaves alone -/

/-- R64, R101, R131, R161 to R163, R165, R171, R188, R196: the end of an event changes CUTOUT, cyclic contents, the
controller's frame and the store's jobs alone; what CUTOUT becomes, the contents that a change of ENGINE_REQ or STATUS
places, the write that begins, and the frame that a free controller is handed: the eligible one of the lowest topic.
The model's choices: all this comes once, at the end of the event (log 23); a controller whose error count has passed
255 is handed none (log 36). -/
def Obligations.EventEndFrame : Prop :=
  ∀ before after : State,
    let t := settle before after
    let woken := fun s : State => s.power = .running ∨ s.power = .limp
    let fill := fun (c : CyclicPlace) (data : List Byte) =>
      { c with held := some ⟨c.lastNumber + 1, data⟩, lastNumber := c.lastNumber + 1 }
    let request := fun s : State => le 2 (speedRequest s) ++ le 2 (pumpLimit s)
      ++ [byte ((if s.economy.state = .shutdownPending then 1 else 0) + 2 * (modeInForce s).num
        + 8 * s.economy.state.num)]
    let watched := fun s : State => (s.power, s.intervention.supervision, s.bus.busState, s.pose.pose.quality,
      s.diag.attention, s.service.derate)
    let placed := { after.bus with
      engineReq := if before.power = .running ∧ after.power = .running ∧ request before ≠ request after then
          fill after.bus.engineReq (request after) else after.bus.engineReq
      status := if woken after ∧ watched before ≠ watched after then
          fill after.bus.status (statusData after) else after.bus.status }
    let begun := fun (reply : Bool) (f : RingFrame) => f.reply == reply && decide (0 < f.framesSent)
    let unfenced := fun (reply : Bool) (f : RingFrame) => f.reply == reply && f.fence.isNone
    let eligible := fun (topic : Nat) (h : Holder) => match h with
      | .cyclic p => ((placed.place p).held ≠ none ∨ 0 < (placed.place p).framesSent)
        ∧ placed.topics.cyclic p = some topic
      | .ring id => ∃ f : RingFrame, f.id = id ∧ placed.topics.event f.reply = some topic
        ∧ (placed.ring.find? (begun f.reply) = some f
          ∨ (placed.ring.find? (begun f.reply) = none ∧ placed.ring.find? (unfenced f.reply) = some f))
    let free := woken after ∧ placed.busState = .online ∧ placed.controller = none ∧ placed.txErrors ≤ 255
    EventEnd after t
      ∧ t.pins.cutout = (if after.power = .running then
          decide ((after.intervention.supervision = .settled ∨ after.intervention.supervision = .awaiting)
            ∧ after.bus.busState = .online)
        else after.pins.cutout)
      ∧ (woken after ∨ after.power = .startUp →
        t.store = (beginWrite after).store ∧ t.meter = (beginWrite after).meter)
      ∧ (¬ (woken after ∨ after.power = .startUp) → t.store = after.store ∧ t.meter = after.meter)
      ∧ (¬ free → t.bus = placed)
      ∧ (free → (∀ topic h, ¬ eligible topic h) → t.bus = placed)
      ∧ (free → ∀ topic h, eligible topic h →
        (∀ topic' h', eligible topic' h' → (topic', h') = (topic, h) ∨ topic < topic') →
        t.bus = match h with
          | .cyclic p =>
            let c := placed.place p
            { placed.setPlace (if c.framesSent = 0 then { c with sending := c.held } else c) p with
              controller := some h }
          | .ring _ => { placed with controller := some h })

/-- A command other than those of the supplies, the key, a start and a clash leaves the time, the power state,
KEYON and the straps, the station number, the configuration and the queue as they are. -/
def Obligations.CommandsKeepLines : Prop :=
  ∀ (c : Instr) (s t : State), isLineCommand c = false → exec c s = .next t →
    t.now = s.now ∧ t.power = s.power ∧ t.pending = s.pending ∧ t.station = s.station
      ∧ t.limpCause = s.limpCause ∧ t.keyOffHeld = s.keyOffHeld ∧ t.listenEnds = s.listenEnds
      ∧ t.detectorArmed = s.detectorArmed ∧ t.config = s.config ∧ t.imageGood = s.imageGood
      ∧ t.pins.keyOn = s.pins.keyOn ∧ t.pins.straps = s.pins.straps

/-- R188: outside the supplies, the key and the starts, only the end of a write changes the array. -/
def Obligations.OnlyWritesChangeArray : Prop :=
  ∀ (c : Instr) (s t : State), isLineCommand c = false → c ≠ .storeWriteComplete → exec c s = .next t →
    { t.store with queue := s.store.queue, writing := s.store.writing } = s.store

/-- R167, R198: sending a reply queues its frame, or counts it dropped from a full ring, and stores it while its
counter is the entry's last; nothing else changes. The answer of a request in flight also clears its in-flight mark.
-/
def Obligations.ReplySent : Prop :=
  ∀ (t : Ticket) (res : Result) (data : List Byte) (s : State),
    let d := [byte t.station, t.code, t.tag, byte res.num] ++ (if res = .done then data else [])
    let u := sendReply t res data s
    { u with bus := s.bus, topics := s.topics } = s
      ∧ u.topics = mapWhere (servesStation t.station)
          (fun e => if e.counter = some t.counter then { e with stored := some d } else e) s.topics
      ∧ (s.bus.ring.length < 8 → u.bus = { s.bus with
          ring := s.bus.ring ++ [⟨s.bus.nextId, true, d, none, 0⟩], nextId := s.bus.nextId + 1 })
      ∧ (8 ≤ s.bus.ring.length → u.bus = { s.bus with
          repliesDropped := if 255 < s.bus.repliesDropped + 1 then 255 else s.bus.repliesDropped + 1 })
      ∧ finishRequest t res data s = { u with
          topics := u.topics.map fun e => if servesStation t.station e = true ∧ e.inFlight = some t.counter then
            { e with inFlight := none } else e }

/-! ## Tables and numbers of the manual -/

/-- R14: a lookup. -/
def Obligations.LookupOutput : Prop :=
  ∀ (pool : List Int) (c : DescConfig) (x : Int), 1 ≤ c.limit → 1 ≤ c.step →
    let point : Nat → Int := fun j => pool.getD (c.base + j) 0
    let d := x - c.origin
    (d < 0 → lookup pool c x = (point 0, true))
      ∧ ((((c.limit - 1) * c.step : Nat) : Int) < d → lookup pool c x = (point (c.limit - 1), true))
      ∧ ∀ i r : Nat, d = i * c.step + r → r < c.step → i * c.step + r ≤ (c.limit - 1) * c.step →
        (r = 0 → lookup pool c x = (point i, false))
          ∧ (r ≠ 0 → ∃ q : Int, Nearest ((point (i + 1) - point i) * r) c.step q
              ∧ lookup pool c x = (point i + q, false))

/-- R21: the clearances of the linear kinds. -/
def Obligations.LinearClearances : Prop :=
  ∀ (s : State) (c : LimitConfig),
    (c.kind = .heightCeiling → clearance s c = c.value - s.pose.pose.top
        ∧ (clearance s c ≤ 0 ↔ c.value ≤ s.pose.pose.top))
      ∧ (c.kind = .depthFloor → clearance s c = s.pose.pose.tip - c.value
        ∧ (clearance s c ≤ 0 ↔ s.pose.pose.tip ≤ c.value))
      ∧ (c.kind = .reachWall → clearance s c = c.value - s.pose.pose.reach
        ∧ (clearance s c ≤ 0 ↔ c.value ≤ s.pose.pose.reach))
      ∧ (c.kind.isSlew = false →
          -32767 ≤ c.value → c.value ≤ 32767 → -32767 ≤ measured s c.kind → measured s c.kind ≤ 32767 →
            -65534 ≤ clearance s c ∧ clearance s c ≤ 65534)

/-- R23: the clearances and the breach cause of the slew kinds. -/
def Obligations.SlewClearances : Prop :=
  ∀ (s : State) (c : LimitConfig),
    let value : BinAngle := BitVec.ofInt 16 c.value
    (∀ a b : BinAngle, -32768 ≤ signedDiff a b ∧ signedDiff a b ≤ 32767
        ∧ ((a.toNat : Int) - b.toNat - signedDiff a b) % 65536 = 0)
      ∧ (c.kind = .slewCcwStop → clearance s c = signedDiff value (predictedStop s)
        ∧ actualClearance s c = signedDiff value s.pose.pose.slewAngle)
      ∧ (c.kind = .slewCwStop → clearance s c = signedDiff (predictedStop s) value
        ∧ actualClearance s c = signedDiff s.pose.pose.slewAngle value)
      ∧ (c.kind.isSlew = true → actualClearance s c ≤ 0 → causeOf s c = .breach)
      ∧ (c.kind.isSlew = true → 0 < actualClearance s c → causeOf s c = .predictedBreach)
      ∧ (c.kind.isSlew = false → causeOf s c = .breach)

/-- R22: the predicted stop angle. -/
def Obligations.PredictedStopAngle : Prop :=
  ∀ (s : State) (d : Nat), heldOutput s 1 = some (d : Int) → d ≤ 16383 →
    let slew := s.pose.pose.slewAngle.toNat
    (0 < s.pose.pose.slewRate → (predictedStop s).toNat =
        if 65535 < slew + d then slew + d - 65536 else slew + d)
      ∧ (s.pose.pose.slewRate < 0 → (predictedStop s).toNat =
        if slew < d then slew + 65536 - d else slew - d)
      ∧ (s.pose.pose.slewRate = 0 → (predictedStop s).toNat = slew)

/-- R24: the scope test. -/
def Obligations.ScopeSector : Prop :=
  ∀ (slew : BinAngle), inScope none slew = true
    ∧ ∀ sc : Scope, (inScope (some sc) slew = true
      ↔ (slew.toNat + 65536 - sc.start.toNat) % 65536 ≤ (sc.stop.toNat + 65536 - sc.start.toNat) % 65536)

/-- R20, R26: the state machine of an entry in scope, for a margin and a hysteresis that are not negative; the
hysteresis of each kind. -/
def Obligations.LimitStateTable : Prop :=
  (∀ c m h : Int, 0 ≤ m → 0 < h →
    (h < c → m < c → limitNext .pending c m h = .clear)
      ∧ (h < c → c ≤ m → limitNext .pending c m h = .approach)
      ∧ (c ≤ h → limitNext .pending c m h = .pending)
      ∧ (c ≤ 0 → limitNext .clear c m h = .breach)
      ∧ (0 < c → c ≤ m → limitNext .clear c m h = .approach)
      ∧ (m < c → limitNext .clear c m h = .clear)
      ∧ (c ≤ 0 → limitNext .approach c m h = .breach)
      ∧ (m + h < c → limitNext .approach c m h = .clear)
      ∧ (0 < c → c ≤ m + h → limitNext .approach c m h = .approach)
      ∧ (m + h < c → limitNext .breach c m h = .clear)
      ∧ (h ≤ c → c ≤ m + h → limitNext .breach c m h = .approach)
      ∧ (c < h → limitNext .breach c m h = .breach))
    ∧ ∀ kind : LimitKind, kind.hysteresis = match kind with
      | .heightCeiling | .depthFloor | .reachWall => 50
      | .slewCcwStop | .slewCwStop => 182

/-- R8: the grade of the pose, with its effect on the timeout latch, and R9's timer. -/
def Obligations.PoseQualityTable : Prop :=
  ∀ s : State,
    let entries := poseEntries s
    let u := (applyGrade s).pose
    (entries.all (fun e => e.state = .fresh) = true → poseClamped s = false →
        u.pose.quality = .valid ∧ u.latch = false ∧ u.degradedTimer = none)
      ∧ ((entries.all (fun e => e.state = .fresh) = false ∨ poseClamped s = true) →
        (entries.any (fun e => e.state = .lost ∨ e.state = .never) = true ∨ s.pose.latch = true) →
        u.pose.quality = .invalid ∧ u.latch = s.pose.latch ∧ u.degradedTimer = none)
      ∧ ((entries.all (fun e => e.state = .fresh) = false ∨ poseClamped s = true) →
        entries.any (fun e => e.state = .lost ∨ e.state = .never) = false → s.pose.latch = false →
        u.pose.quality = .degraded ∧ u.latch = false
          ∧ u.degradedTimer = if s.pose.pose.quality = .degraded then s.pose.degradedTimer
              else some (s.now + 2000))

/-- R59: a change of the cut set acts on supervision by its state; without one, supervision stands. -/
def Obligations.CutSetChangeActsOnSupervision : Prop :=
  ∀ s : State,
    let u := s.intervention
    let v := (formSets s).intervention
    (cutSetOf u.list ≠ u.cutSet →
        (u.supervision = .settled → v.supervision = .awaiting ∧ v.confirmTimer = some (s.now + 150)
          ∧ v.confirmed = false)
        ∧ (u.supervision = .awaiting → v.supervision = .awaiting ∧ v.confirmTimer = u.confirmTimer
          ∧ v.confirmed = false)
        ∧ (u.supervision = .faulted → v.supervision = .faulted ∧ v.confirmed = false
          ∧ v.confirmTimer = if u.confirmTimer = none then some (s.now + 150) else u.confirmTimer)
        ∧ (u.supervision = .hold → v.supervision = .hold ∧ v.confirmTimer = u.confirmTimer
          ∧ v.confirmed = u.confirmed))
      ∧ (cutSetOf u.list = u.cutSet → v.supervision = u.supervision ∧ v.confirmTimer = u.confirmTimer
        ∧ v.confirmed = u.confirmed)

/-- R56: the demand sequence, and the content a change places. -/
def Obligations.DemandSequenceAdvances : Prop :=
  ∀ s : State,
    let u := s.intervention
    let t := formSets s
    let content := [t.intervention.cutSet, t.intervention.slowSet, t.intervention.demandSeq]
    t.intervention.cutSet = cutSetOf u.list ∧ t.intervention.slowSet = slowSetOf u.list
      ∧ t.intervention.list = u.list
      ∧ t.intervention.demandSeq = (if cutSetOf u.list = u.cutSet then u.demandSeq else u.demandSeq + 1)
      ∧ t.bus = (if cutSetOf u.list = u.cutSet ∧ slowSetOf u.list = u.slowSet then s.bus
          else { s.bus with cutDemand := s.bus.cutDemand.fill content })

/-- R100: the pump power limit. -/
def Obligations.PumpPowerLimit : Prop :=
  ∀ s : State,
    (s.economy.state = .forced → pumpLimit s = s.config.economy.minimumPump)
      ∧ (s.economy.state ≠ .forced → s.intervention.slowSet = 0#8 →
        pumpLimit s = modePumpLimit s (modeInForce s))
      ∧ (s.economy.state ≠ .forced → s.intervention.slowSet ≠ 0#8 →
        pumpLimit s = min (modePumpLimit s (modeInForce s)) s.config.economy.slowLimit)

/-- R175: a report that a condition has begun, over a list that keeps its law; and the mark of R177 that the report
clears where it is taken and sets once where it is refused. -/
def Obligations.ReportTaken : Prop :=
  ∀ (s : State) (code : FaultCode) (src : FaultSource), faultLaw s = true →
    let stamp : Option ClockTime := if s.time.unsetCause = none then some s.time.clock else none
    let t := report code src s
    let l := s.diag.entries
    let fresh : FaultEntry := ⟨code, src, true, 1, stamp, stamp⟩
    { t with diag := s.diag } = s
      ∧ t.diag.attention = attentionOf t.diag.entries
      ∧ (l.any (FaultEntry.names code src) = true ∨ l.length < 20 ∨ l.any (fun e => !e.active) = true →
        t.diag.unentered = s.diag.unentered.erase (code, src))
      ∧ (l.any (FaultEntry.names code src) = true →
        t.diag.entries = l.map (fun e => if e.code = code ∧ e.source = src then
          { e with active := true, lastTime := stamp,
                   occurrences := if 255 < e.occurrences + 1 then 255 else e.occurrences + 1 } else e))
      ∧ (l.any (FaultEntry.names code src) = false → l.length < 20 → t.diag.entries = l ++ [fresh])
      ∧ (l.any (FaultEntry.names code src) = false → l.length = 20 → l.any (fun e => !e.active) = true →
        t.diag.entries = eraseFirst (fun e => !e.active) l ++ [fresh])
      ∧ (l.any (FaultEntry.names code src) = false → l.length = 20 → l.all (·.active) = true →
        t.diag.entries = l
          ∧ t.diag.unentered = if (code, src) ∈ s.diag.unentered then s.diag.unentered
              else s.diag.unentered ++ [(code, src)])

/-- R157, R158: what an entry makes of a frame with a counter and a payload. -/
def Obligations.FrameGrading : Prop :=
  ∀ (e : SubEntry) (c : Counter) (p : Payload) (now : Nat),
    (e.state = .never ∨ e.state = .lost → e.judge c p now = some { e with
        payload := some p, counter := some c, ageFrom := now, run := 1, state := .recovering })
      ∧ (e.state ≠ .never → e.state ≠ .lost → e.counter = some c → e.judge c p now = none)
      ∧ (e.state ≠ .never → e.state ≠ .lost → e.counter = some (c - 1) → ∃ new : SubEntry,
        e.judge c p now = some new
          ∧ new = { e with payload := some p, counter := some c, ageFrom := now,
                           run := if 255 < e.run + 1 then 255 else e.run + 1, state := new.state }
          ∧ (e.state = .recovering → new.state = if 3 ≤ new.run then .fresh else .recovering)
          ∧ (e.state ≠ .recovering → new.state = .fresh))
      ∧ (e.state ≠ .never → e.state ≠ .lost → e.counter ≠ some c → e.counter ≠ some (c - 1) →
        e.judge c p now = some { e with
          payload := some p, counter := some c, ageFrom := now, run := 1,
          gaps := if 255 < e.gaps + 1 then 255 else e.gaps + 1 })

/-- R109: a count of the clock, over a date and time that exist. -/
def Obligations.NextSecondFollows : Prop :=
  ∀ t : ClockTime, t.ok = true →
    (nextSecond t).ok = true
      ∧ (t.year = 2099 → t.month = 12 → t.date = 31 → t.hour = 23 → t.minute = 59 → t.second = 59 →
        secondNumber (nextSecond t) = 0)
      ∧ (¬ (t.year = 2099 ∧ t.month = 12 ∧ t.date = 31 ∧ t.hour = 23 ∧ t.minute = 59 ∧ t.second = 59) →
        secondNumber (nextSecond t) = secondNumber t + 1)
      ∧ (nextSecond t).dayOfWeek =
        if t.hour = 23 ∧ t.minute = 59 ∧ t.second = 59 then (t.dayOfWeek + 1) % 7 else t.dayOfWeek

/-! ## Requests -/

/-- R167, R185, R186, R197: what the framework itself answers, for every request command; the requests taken in
Limp, which a key-off refuses there too; the repeat of a RESTART that waits, whose reply counts as its reply; the
argument bytes that a request needs. R63: every request but READ, KEY and RESTART is answered RefusedState in Hold.
The model's choices: the key-off check's place in the order (log 18), the wait on
the first station's reply alone (log 20), a request without arguments that needs no tag (log 31), KEY for Operator
without a code (log 32). -/
def Obligations.RequestFramework : Prop :=
  (∀ x ∈ requestCommands, ∀ (r : Request) (s : State),
    let code := x.1
    let cmd := x.2 r
    let cleared := modifyRequest r.station (fun e => { e with assembly := none }) s
    (requestEntry s r.station = none ∨ receiving s = false → exec cmd s = .next (settle s s))
      ∧ ∀ e, requestEntry s r.station = some e → receiving s = true →
        (e.counter = some r.counter → e.inFlight = some r.counter ∨ e.stored = none →
            exec cmd s = .next (settle s cleared))
          ∧ (∀ d, e.counter = some r.counter → e.inFlight ≠ some r.counter → e.stored = some d →
            s.restart = none →
            exec cmd s = .next (settle s { cleared with bus := s.bus.queueReply d }))
          ∧ (∀ d w, e.counter = some r.counter → e.inFlight ≠ some r.counter → e.stored = some d →
            s.restart = some w →
            let own := s.bus.ring.length < 8 ∧ w.stations.head? = some e.config.station
              ∧ d[1]? = some 3#8 ∧ d[3]? = some 0#8
            exec cmd s = .next (settle s { cleared with
              bus := s.bus.queueReply d
              restart := some (if own then { w with replyIds := w.replyIds ++ [s.bus.nextId] } else w) }))
          ∧ (e.counter ≠ some r.counter → e.inFlight ≠ none →
            exec cmd s = repliedWith code .busy [] r s (noted r s))
          ∧ (e.counter ≠ some r.counter → e.inFlight = none →
            argsComplete code.toNat r = false →
            exec cmd s = repliedWith code .badArgument [] r s (noted r s))
          ∧ (e.counter ≠ some r.counter → e.inFlight = none →
            argsComplete code.toNat r = true → s.power = .limp → takenInLimp code = false →
            exec cmd s = repliedWith code .refusedState [] r s (noted r s))
          ∧ (e.counter ≠ some r.counter → e.inFlight = none →
            argsComplete code.toNat r = true → s.power ≠ .limp ∨ takenInLimp code = true →
            s.meter.keyOffTaken = true → code ≠ 1#8 → code ≠ 3#8 →
            exec cmd s = repliedWith code .refusedState [] r s (noted r s)))
    ∧ RefusedInHold [(4#8, .clearFaults), (5#8, .writeImage), (6#8, .ackWarning), (7#8, .teachLimit),
        (8#8, .setLimit), (9#8, .enableLimit), (10#8, .disableLimit), (11#8, .release), (12#8, .override),
        (13#8, .resume), (14#8, .benchmark), (15#8, .setGrade), (16#8, .powerMode), (17#8, .tableRecall),
        (18#8, .setClock), (19#8, .setTrim), (20#8, .setMeter), (21#8, .serviceDone), (22#8, .ackReminder)]
    ∧ (∀ code : Byte, takenInLimp code = true ↔ code ∈ [1#8, 2#8, 3#8, 4#8, 5#8])
    ∧ ∀ (code : Nat) (r : Request),
      let a := r.data.drop 1
      let needed := match code with
        | 1 => 4
        | 2 => if a.getD 0 0 = 1#8 ∨ a.getD 0 0 = 2#8 then 5 else 1
        | 5 => 6
        | 6 | 9 | 10 | 14 | 16 | 19 | 22 => 1
        | 7 | 11 | 12 | 17 => 2
        | 8 => if (a.getD 8 0).getLsbD 1 then 13 else 9
        | 15 => if a.getD 1 0 = 0#8 then 10 else 2
        | 18 => 7
        | 20 => if (a.getD 0 0).toNat < 7 then 7 else 5
        | 21 => 3
        | _ => 0
      argsComplete code r = true ↔ needed ≤ a.length

/-- R169, R170, R200: READ answers a part of the record that its selector and index name, and refuses a selector
that is unknown, an index that names no record and a part that the record has not; the fields of each record and
their cut into parts of at most 12 bytes. The model's choices: the widths, byte order and order of the fields (log
24, 29, 44), the clock's own fields in part 0 and after the time-match entries (log 25), the request fields of a
REQUEST entry (log 26), the part counts of selectors 1, 4 and 7 (log 27), a date in seven bytes (log 28), an age
beyond 16 bits, which uses a free value (log 30), the free tag of a request without one (log 31), and an empty
time-match part (log 57). -/
def Obligations.ReadAnswersPart : Prop :=
  (∀ (r : Request) (s : State), taken 1#8 r s = true →
      let selector := argNat r.args 0
      let index := argU16 r.args 1
      let part := argNat r.args 3
      let u := noted r s
      (∀ (parts : List (List Byte)) (bytes : List Byte),
          recordOf u selector index = some (some parts) → parts[part]? = some bytes →
          exec (.read r) s
            = doneWith 1#8 ([byte selector] ++ le 2 index ++ [byte part, byte parts.length] ++ bytes) r s
                (if readsFree u selector index then useFree u else u))
        ∧ (∀ parts, recordOf u selector index = some (some parts) → parts.length ≤ part →
          exec (.read r) s = repliedWith 1#8 .badArgument [] r s u)
        ∧ (recordOf u selector index = some none → exec (.read r) s = repliedWith 1#8 .unknownRecord [] r s u)
        ∧ (recordOf u selector index = none → exec (.read r) s = repliedWith 1#8 .badArgument [] r s u))
    ∧ (∀ (s : State) (selector index : Nat),
      (readsFree s selector index = true ↔ selector = 1 ∧ s.power = .running
          ∧ ∃ e, s.topics[index]? = some e ∧ e.config.role ≠ .request ∧ 65535 < s.now - e.ageFrom)
        ∧ (selector = 0 ∨ 9 < selector → recordOf s selector index = none))
    ∧ (∀ (s : State) (i : Nat),
      let age := fun e : SubEntry => if s.power ≠ .running then 0
        else if s.now - e.ageFrom ≤ 65535 then s.now - e.ageFrom else (Config.ageBeyond s.freeCount).toNat
      let counter := fun c : Option Counter => presence 2 (c.map fun c => le 2 c.toNat)
      let identity := fun c : SubConfig => [le 2 c.topic, [byte c.station], [byte c.role.num]]
      let stored := fun d : List Byte => [byte d.length] :: (d ++ List.replicate (35 - d.length) 0#8).map (fun x => [x])
      recordOf s 1 i = some ((s.topics[i]?).map fun e => padParts 5 (pack
          (if e.config.role = .request then
            [counter e.counter] ++ identity e.config ++ [counter e.inFlight]
              ++ [flagByte e.stored.isSome] :: stored (e.stored.getD []) ++ [le 2 e.run, le 2 e.gaps]
          else [counter e.counter, [byte e.state.num]] ++ identity e.config
            ++ [le 2 e.config.staleLimit, le 2 e.config.lostLimit, le 2 (age e), le 2 e.run, le 2 e.gaps])))
        ∧ recordOf s 2 i = some ((s.limits[i]?).map fun e => pack
          [[byte i], [byte e.config.kind.num], le 2 e.config.value, le 2 e.config.margin, [byte e.config.action.num],
            [e.config.guarded], presence 4 (e.config.scope.map fun x => le 2 x.start.toNat ++ le 2 x.stop.toNat),
            [byte e.config.owner.num], [byte e.config.latch.num], [byte e.state.num], [flagByte e.warning],
            signed24 e.last, presence 1 (e.cause.map fun c => [byte c.num]),
            presence 8 (e.owed.map fun n => [byte n.index, byte n.kind.num, byte n.event.num]
              ++ signed24 (some n.clearance) ++ le 2 n.updates.toNat)])
        ∧ (let left : Record → Nat := fun x => match x.expiry with
            | none => 0
            | some t => max 1 ((t - (if x.timerRuns then s.now else s.intervention.holdAt.getD s.now) + 99) / 100)
          recordOf s 3 i = some ((s.intervention.list.find? (·.seq == i)).map fun x =>
            [le 2 x.seq ++ [byte x.kind.num, indexByte x.source, byte x.cause.num, x.blocked,
                byte (x.state.num + (if x.breachGone then 4 else 0) + (if x.owed then 8 else 0))] ++ le 2 (left x),
              le 2 x.seq ++ le 2 x.snapshot.reach ++ le 2 x.snapshot.tip ++ le 2 x.snapshot.slewAngle.toNat
                ++ [byte x.snapshot.quality.num]]))
        ∧ (8 < i → recordOf s 4 i = some none)
        ∧ (∀ h sec, i < 8 → s.meter.meters.value i = some (.time h sec) →
          recordOf s 4 i = some (some (padParts 2 (pack [[byte i], [0#8], le 4 h, le 2 sec]))))
        ∧ (∀ n, i < 8 → s.meter.meters.value i = some (.count n) →
          recordOf s 4 i = some (some (padParts 2 (pack [[byte i], [1#8], le 4 n]))))
        ∧ (let u := s.meter
          recordOf s 4 8 = some (some (padParts 2 (pack
            [le 4 u.sequence, [byte u.job.num], presence 4 (u.snapshot.map fun c => le 4 c.sequence),
              [byte u.pending.num], le 2 u.waiters.length, le 2 u.periodic,
              presence 4 (u.lastCompleted.map fun n : Nat => le 4 n)]))))
        ∧ recordOf s 5 i = some (((s.service.items[i]?).join).map fun x =>
          let c := x.config
          pack [le 2 c.code, [byte c.cls.num], [indexByte c.basis], le 4 c.meterInterval, le 4 c.meterLead,
            le 4 c.meterGrace, le 2 c.dayInterval, le 2 c.dayLead, le 2 c.dayGrace, [indexByte c.reminder],
            lastMeterBytes x.lastMeter, dateBytes x.lastDate, [byte x.meterStanding.num], [byte x.dayStanding.num],
            [byte x.state.num], [flagByte x.acknowledged], presence 1 (x.owed.map fun k => [byte k.num])])
        ∧ recordOf s 6 i = some ((s.service.history.reverse[i]?).map fun x => pack
          [[byte x.item], le 2 x.code, [indexByte x.basis], lastMeterBytes x.meter, dateBytes x.date, [byte x.station]])
        ∧ (let day := fun x : DayRecord => padParts 3 (pack
            [dateBytes x.date, le 4 x.engineSeconds, le 4 x.fuel, le 4 x.idleFuel, le 2 x.cycles, le 2 x.interventions,
              [flagByte x.clockSet]])
          let a := s.economy.days
          recordOf s 7 0 = some (some (day a.opened))
            ∧ (1 ≤ i → i ≠ 15 → recordOf s 7 i = some ((a.ring.reverse[i - 1]?).map day))
            ∧ recordOf s 7 15 = some (some (padParts 3 (pack
              [le 4 a.shift.fuel, le 4 a.shift.idleFuel, le 4 a.shift.engineSeconds]))))
        ∧ recordOf s 8 i = some ((s.diag.entries[i]?).map fun e => pack
          [le 2 e.occurrences, [byte e.code.num], le 2 e.source.num, [if e.active then 0#8 else 1#8],
            timeBytes e.firstTime, timeBytes e.lastTime])
        ∧ (i ≠ 0 → recordOf s 9 i = some none)
        ∧ (let t := s.time
          let own := pack [timeBytes (some t.clock), [flagByte t.unsetCause.isNone],
            presence 1 (t.unsetCause.map fun c => [byte c.num]), [flagByte t.stopped], le 1 t.trim,
            [flagByte t.trimLoaded], [byte t.lastSet.source.num],
            presence 5 (t.lastSet.step.map fun n => le 5 n), timeBytes t.lastSet.time]
          let entry := fun k : Nat => match t.timeMatches[k]? with
            | some m => [byte k, byte m.minute, byte m.hour, m.days.setWidth 8, byte m.purpose.num, flagByte m.enabled]
            | none => []
          recordOf s 9 0 = some (some (own.take 1 ++ [entry 0, entry 1, entry 2, entry 3, entry 4, entry 5]
            ++ own.drop 1))))
    ∧ (∀ (n : Nat) (part field : List Byte) (rest parts : List (List Byte)),
      pack parts = packInto [] parts ∧ packInto part [] = [part]
        ∧ packInto part (field :: rest) = (if part.length + field.length ≤ 12 then packInto (part ++ field) rest
          else part :: packInto field rest)
        ∧ padParts n parts = parts ++ List.replicate (n - parts.length) [])
    ∧ ∀ (n k h sec : Nat) (v : Int) (b : List Byte) (t : ClockTime) (d : Date),
      le 0 v = [] ∧ le (k + 1) v = BitVec.ofInt 8 v :: le k (v / 256)
        ∧ presence k (some b) = 1#8 :: b ∧ presence k none = 0#8 :: List.replicate k 0#8
        ∧ indexByte (some n) = byte n ∧ indexByte none = 255#8
        ∧ signed24 (some v) = le 3 v ∧ signed24 none = [0#8, 0#8, 128#8]
        ∧ lastMeterBytes (some (.time h sec)) = 1#8 :: (le 4 h ++ le 2 sec)
        ∧ lastMeterBytes (some (.count n)) = 1#8 :: (le 4 n ++ le 2 0)
        ∧ lastMeterBytes none = List.replicate 7 0#8
        ∧ timeBytes (some t) = [byte t.second, byte t.minute, byte t.hour, byte t.dayOfWeek, byte t.date, byte t.month,
          byte (t.year - 2000)]
        ∧ timeBytes none = List.replicate 7 255#8
        ∧ dateBytes (some d) = [0#8, 0#8, 0#8, 0#8, byte d.date, byte d.month, byte (d.year - 2000)]
        ∧ dateBytes none = List.replicate 7 255#8

/-- R192, R193: KEY gives up a grant, and gives one for the right code of a level that the image can grant; a wrong
code counts, and the fifth in a row takes the grant and locks the station out for 60 s; KEY's refusals by the level
code, by a lockout, by a full table and by a key of 0, and the entry that serves a station; a grant lapses and a
lockout ends; a level check passes by the level of the station's entry, and one that passes above Operator renews the grant
for 600 s. The model's choices: two bytes for the reply's 600 (log 24), one byte 0 in the reply for Operator (log
71), a failure count that KEY for Operator keeps and a renewal whatever the request's later result (log 19), an
expiry that is not due and changes nothing (log 3). -/
def Obligations.AccessTableChanges : Prop :=
  (∀ (r : Request) (s : State), taken 2#8 r s = true → (grantOf s r.station).bind (·.2.lockout) = none →
      (argNat r.args 0 = 0 →
        exec (.key r) s = doneWith 2#8 [0#8] r s { noted r s with
          access := s.access.map (fun g =>
                      if g.station = some r.station then { g with level := none, expiry := none } else g) })
        ∧ ∀ (need : OwnerLevel) (i : Nat) (g : Grant), argNat r.args 0 = (ownerLevel need).num →
          grantFor s r.station = some (i, g) → imageKey s need ≠ 0 → argU32 r.args 1 = imageKey s need →
          let granted := { g with level := some need, expiry := some (s.now + 600000), failures := 0 }
          exec (.key r) s = doneWith 2#8 ([byte (ownerLevel need).num] ++ le 2 600) r s
            { noted r s with access := s.access.set i granted })
    ∧ (∀ (r : Request) (s : State) (need : OwnerLevel) (i : Nat) (g : Grant), taken 2#8 r s = true →
      (grantOf s r.station).bind (·.2.lockout) = none → argNat r.args 0 = (ownerLevel need).num →
      grantFor s r.station = some (i, g) → imageKey s need ≠ 0 → argU32 r.args 1 ≠ imageKey s need →
      let counted := if g.failures < 4 then { g with failures := g.failures + 1 }
        else { g with level := none, expiry := none, failures := 0, lockout := some (s.now + 60000) }
      exec (.key r) s = repliedWith 2#8 .refusedKey [] r s { noted r s with access := s.access.set i counted })
    ∧ (∀ (r : Request) (s : State), taken 2#8 r s = true →
      (2 < argNat r.args 0 → exec (.key r) s = repliedWith 2#8 .badArgument [] r s (noted r s))
        ∧ (argNat r.args 0 ≤ 2 → (grantOf s r.station).bind (·.2.lockout) ≠ none →
          exec (.key r) s = repliedWith 2#8 .refusedLocked [] r s (noted r s))
        ∧ ((grantOf s r.station).bind (·.2.lockout) = none → argNat r.args 0 = 1 ∨ argNat r.args 0 = 2 →
          grantFor s r.station = none →
          exec (.key r) s = repliedWith 2#8 .refusedFull [] r s (noted r s))
        ∧ ∀ (need : OwnerLevel) (i : Nat) (g : Grant), (grantOf s r.station).bind (·.2.lockout) = none →
          argNat r.args 0 = (ownerLevel need).num → grantFor s r.station = some (i, g) → imageKey s need = 0 →
          exec (.key r) s = repliedWith 2#8 .refusedKey [] r s { noted r s with access := s.access.set i g })
    ∧ (∀ (st : Nat) (s : State),
      let free := fun g : Grant => g.level = none ∧ g.lockout = none
      ((∀ g ∈ s.access, g.station ≠ some st) → grantOf s st = none)
        ∧ (∀ i g, s.access[i]? = some g → g.station = some st →
          (∀ j h, s.access[j]? = some h → h.station = some st → i ≤ j) →
          grantOf s st = some (i, g) ∧ grantFor s st = some (i, g))
        ∧ ((∀ g ∈ s.access, g.station ≠ some st) →
          ((∀ g ∈ s.access, ¬ free g) → grantFor s st = none)
            ∧ ∀ i g, s.access[i]? = some g → free g → (∀ j h, s.access[j]? = some h → free h → i ≤ j) →
              grantFor s st = some (i, ⟨some st, none, none, 0, none⟩)))
    ∧ (∀ (st : Nat) (s : State),
      exec (.grantExpiry st) s = .next (settle s (setGrants (s.access.map fun g =>
          if g.station = some st ∧ due s.now g.expiry = true then { g with level := none, expiry := none }
          else g) s))
        ∧ exec (.lockoutExpiry st) s = .next (settle s (setGrants (s.access.map fun g =>
          if g.station = some st ∧ due s.now g.lockout = true then { g with lockout := none, failures := 0 }
          else g) s)))
    ∧ (∀ (st : Nat) (s : State), renewGrant st s = { s with
        access := s.access.map fun g => if g.station = some st ∧ g.level ≠ none then
          { g with expiry := some (s.now + 600000) } else g })
    ∧ (∀ (r : Request) (s : State), leveled r s = renewGrant r.station (noted r s))
    ∧ (∀ (need : Level) (t : Ticket) (s : State) (rest : State → Answer),
      (holds s t.station need = true → need ≠ .operator →
          checkLevel need t s rest = rest (renewGrant t.station s))
        ∧ (need = .operator → checkLevel need t s rest = rest s)
        ∧ (holds s t.station need = false → checkLevel need t s rest = .reply .refusedLevel [] s))
    ∧ ∀ (s : State) (st : Nat),
      let entry := s.access.find? (fun g => g.station == some st)
      (∀ need : Level, holds s st need = true ↔ need.num ≤ (levelAt s st).num)
        ∧ (∀ l, entry.bind (·.level) = some l → levelAt s st = ownerLevel l)
        ∧ (entry.bind (·.level) = none → levelAt s st = .operator)

/-- R63, R176, R177, R179, R186, R190, R192: RESTART, CLEAR_FAULTS and WRITE_IMAGE for a Technician, and their
refusals: below Technician, in Hold but for RESTART, while a RESTART waits, after a key-off, with the engine running,
for a block above 2,047, without a free place; a condition's end, which gives its place in a full list to the lowest
unentered condition. The model's choices: two bytes for each count of CLEAR_FAULTS (log 24), a second RESTART that
joins the wait of the first (log 20), the grant renewed by a request that is refused later (log 19). -/
def Obligations.TechnicianToolRequests : Prop :=
  (∀ (r : Request) (s : State), holds s r.station .technician = true →
      (taken 3#8 r s = true → s.meter.keyOffTaken = false → s.restart = none →
          let w : RestartWait :=
            ⟨[r.station], s.now + 200, if s.bus.ring.length < 8 then [s.bus.nextId] else [], false⟩
          exec (.restart r) s = doneWith 3#8 [] r s { leveled r s with restart := some w })
        ∧ (∀ w, taken 3#8 r s = true → s.meter.keyOffTaken = false → s.restart = some w →
          w.stations.contains r.station = false →
          exec (.restart r) s = doneWith 3#8 [] r s
            { leveled r s with restart := some { w with stations := w.stations ++ [r.station] } })
        ∧ (taken 4#8 r s = true → inHold s = false →
          let d := clearInactive s.diag (stampNow s)
          exec (.clearFaults r) s = doneWith 4#8
            (le 2 (s.diag.entries.filter fun e => !e.active).length ++ le 2 d.entries.length) r s
            { leveled r s with diag := d })
        ∧ (taken 5#8 r s = true → inHold s = false → engineRunning s = false → argU16 r.args 0 ≤ 2047 →
          s.store.queue.length < 6 →
          let job : Job := .imageBlock (argU16 r.args 0) (argU32 r.args 2) (ticketOf 5#8 r s)
          exec (.writeImage r) s = inFlightWith r s
            { leveled r s with store := { s.store with queue := s.store.queue ++ [job] } })
        ∧ (taken 5#8 r s = true → inHold s = false → engineRunning s = true →
          exec (.writeImage r) s = repliedWith 5#8 .refusedState [] r s (leveled r s))
        ∧ (taken 5#8 r s = true → inHold s = false → engineRunning s = false → 2047 < argU16 r.args 0 →
          exec (.writeImage r) s = repliedWith 5#8 .badArgument [] r s (leveled r s))
        ∧ (taken 5#8 r s = true → inHold s = false → engineRunning s = false → argU16 r.args 0 ≤ 2047 →
          6 ≤ s.store.queue.length →
          exec (.writeImage r) s = repliedWith 5#8 .busy [] r s (leveled r s)))
    ∧ RefusedBelow .technician [(4#8, .clearFaults), (5#8, .writeImage)]
    ∧ RefusedInHold [(4#8, .clearFaults), (5#8, .writeImage)]
    ∧ (∀ (r : Request) (s : State), taken 3#8 r s = true →
      let waits := ∃ w, s.restart = some w ∧ w.stations.contains r.station = true
      (waits → exec (.restart r) s = repliedWith 3#8 .busy [] r s (noted r s))
        ∧ (¬ waits → s.meter.keyOffTaken = true →
          exec (.restart r) s = repliedWith 3#8 .refusedState [] r s (noted r s))
        ∧ (¬ waits → s.meter.keyOffTaken = false → holds s r.station .technician = false →
          exec (.restart r) s = repliedWith 3#8 .refusedLevel [] r s (noted r s)))
    ∧ (∀ (s : State) (code : FaultCode) (src : FaultSource), faultLaw s = true → unenteredLaw s = true →
      let stamp : Option ClockTime := if s.time.unsetCause = none then some s.time.clock else none
      let t := endFault code src s
      let l := s.diag.entries
      let waiting := s.diag.unentered
      { t with diag := s.diag } = s ∧ t.diag.attention = attentionOf t.diag.entries
        ∧ (clearInactive s.diag stamp).entries = l.filter (·.active)
        ∧ (l.any (FaultEntry.names code src) = false →
          t.diag.entries = l ∧ t.diag.unentered = waiting.erase (code, src))
        ∧ ∀ e ∈ l, e.code = code → e.source = src →
          (e.active = false → t.diag = s.diag)
            ∧ (e.active = true → waiting = [] → t.diag.unentered = []
              ∧ t.diag.entries = l.map fun e =>
                  if e.code = code ∧ e.source = src then { e with active := false } else e)
            ∧ (e.active = true → ∀ c ∈ waiting,
              (∀ d ∈ waiting, d ≠ c → c.1.num < d.1.num ∨ (c.1.num = d.1.num ∧ c.2.num < d.2.num)) →
              t.diag.unentered = waiting.erase c
                ∧ t.diag.entries = (l.filter fun e => !FaultEntry.names code src e)
                  ++ [⟨c.1, c.2, true, 1, stamp, stamp⟩]))

/-- R31, R33, R63, R147: ACK_WARNING and ACK_REMINDER, of one and of all; when an entry is in warning; the refusal in
Hold, of an index that names nothing, of a Latched entry in warning and of an item that is Ok. The count answered to all has two bytes by the model's choice
(log 24). -/
def Obligations.Acknowledgements : Prop :=
  (∀ (r : Request) (s : State), limpOrHold s = false →
    let i := argNat r.args 0
    (∀ e, taken 6#8 r s = true → i ≠ 255 → s.limits[i]? = some e →
        ¬ (e.config.latch = .latched ∧ e.inWarning = true) →
        let flag := if e.config.latch = .latched then false else e.warning
        exec (.ackWarning r) s = doneWith 6#8 [byte i, flagByte flag] r s
          { noted r s with limits := s.limits.set i { e with warning := flag } })
      ∧ (∀ e, taken 6#8 r s = true → i ≠ 255 → s.limits[i]? = some e →
        e.config.latch = .latched → e.inWarning = true →
        exec (.ackWarning r) s = repliedWith 6#8 .refusedState [] r s (noted r s))
      ∧ (taken 6#8 r s = true → i = 255 →
        exec (.ackWarning r) s = doneWith 6#8
          (le 2 (s.limits.filter fun e => e.acknowledgeable && e.warning).length) r s
          { noted r s with limits := s.limits.map (fun e =>
                            if e.acknowledgeable then { e with warning := false } else e) })
      ∧ (∀ item, taken 22#8 r s = true → i ≠ 255 → s.service.items[i]? = some (some item) →
        item.state ≠ .ok →
        exec (.ackReminder r) s = doneWith 22#8 [byte i, byte item.state.num, 1#8] r s
          (setItem i { item with acknowledged := true } (noted r s)))
      ∧ (∀ item, taken 22#8 r s = true → i ≠ 255 → s.service.items[i]? = some (some item) →
        item.state = .ok →
        exec (.ackReminder r) s = repliedWith 22#8 .refusedState [] r s (noted r s))
      ∧ (taken 22#8 r s = true → i = 255 →
        exec (.ackReminder r) s = doneWith 22#8 (le 2 (s.service.items.filter ackable).length) r s
          (setService
            { s.service with items := mapWhere ackable (Option.map (fun x => { x with acknowledged := true }))
                                        s.service.items } (noted r s)))
      ∧ (taken 6#8 r s = true → i ≠ 255 → s.limits[i]? = none →
        exec (.ackWarning r) s = repliedWith 6#8 .unknownRecord [] r s (noted r s))
      ∧ (taken 22#8 r s = true → i ≠ 255 → (∀ item, s.service.items[i]? ≠ some (some item)) →
        exec (.ackReminder r) s = repliedWith 22#8 .unknownRecord [] r s (noted r s)))
    ∧ RefusedInHold [(6#8, .ackWarning), (22#8, .ackReminder)]
    ∧ (∀ e : LimitEntry,
      (e.inWarning = true ↔ e.state = .approach ∨ e.state = .breach
        ∨ (e.state = .pending ∧ ∃ c, e.last = some c ∧ c ≤ e.config.margin))
        ∧ (e.acknowledgeable = true ↔ e.config.latch = .latched ∧ e.inWarning = false))
    ∧ ∀ o : Option ServiceItem, ackable o = true ↔ ∃ item, o = some item ∧ item.state ≠ .ok

/-- R20, R30, R34 to R38, R40: the four limit requests take their change and wait on a limit-area job; what a taught
and a set entry become, with the report of a breach that was gone; how the change joins or queues its job.
ENABLE_LIMIT of an enabled and DISABLE_LIMIT of a Disabled entry are answered at once, and DISABLE_LIMIT is refused
while the list holds the entry's record or a guarding entry is in Breach. R192, R197: the passing level check renews the
grant, whatever the request's later result by the model's choice (log 19); the configured fields that SET_LIMIT's
arguments give, and their ranges. R34: the refusals in their order: below Supervisor, an index that names no entry, a
Technician-owned entry below Technician, the arguments, the state, no job and no place. -/
def Obligations.LimitRequestsTakeChange : Prop :=
  (∀ (r : Request) (s : State) (e : LimitEntry), limpOrHold s = false → holds s r.station .supervisor = true →
    let i := argNat r.args 0
    let waits := fun (code : Byte) (u : State) =>
      inFlightWith r s (carry Job.isLimits .limitArea { ticketOf code r s with index := i } u)
    s.limits[i]? = some e → (e.config.owner = .technician → holds s r.station .technician = true) →
    canCarry Job.isLimits s = true →
    (∀ kind, taken 7#8 r s = true → limitKindOf (argNat r.args 1) = some kind →
        s.pose.pose.quality = .valid →
        exec (.teachLimit r) s
          = waits 7#8 (makePending i e (taughtConfig e.config kind (measured (leveled r s) kind)) (leveled r s)))
      ∧ (∀ c, taken 8#8 r s = true → limitArgs r.args = some c → c.ok = true →
        (c.owner = .technician → holds s r.station .technician = true) →
        exec (.setLimit r) s = waits 8#8 (makePending i e c (leveled r s)))
      ∧ (taken 9#8 r s = true → e.state = .disabled →
        exec (.enableLimit r) s = waits 9#8
          (setLimit i { e with state := .pending, last := none, cause := none } (leveled r s)))
      ∧ (taken 10#8 r s = true → e.state ≠ .disabled → disableRefused i e s = false →
        exec (.disableLimit r) s = waits 10#8 (setLimit i
          { e with state := .disabled, warning := false, last := none, cause := none, owed := none }
          (leveled r s))))
    ∧ (∀ (r : Request) (s : State) (e : LimitEntry), limpOrHold s = false → holds s r.station .supervisor = true →
      let i := argNat r.args 0
      let shown := [byte i, byte e.state.num]
      let u := leveled r s
      s.limits[i]? = some e → (e.config.owner = .technician → holds s r.station .technician = true) →
      (taken 9#8 r s = true → e.state ≠ .disabled → exec (.enableLimit r) s = doneWith 9#8 shown r s u)
        ∧ (taken 9#8 r s = true → e.state = .disabled → canCarry Job.isLimits s = false →
          exec (.enableLimit r) s = repliedWith 9#8 .busy [] r s u)
        ∧ (taken 10#8 r s = true → e.state = .disabled → exec (.disableLimit r) s = doneWith 10#8 shown r s u)
        ∧ (taken 10#8 r s = true → e.state ≠ .disabled → disableRefused i e s = true →
          exec (.disableLimit r) s = repliedWith 10#8 .refusedState [] r s u)
        ∧ (taken 10#8 r s = true → e.state ≠ .disabled → disableRefused i e s = false →
          canCarry Job.isLimits s = false → exec (.disableLimit r) s = repliedWith 10#8 .busy [] r s u)
        ∧ (taken 7#8 r s = true → limitKindOf (argNat r.args 1) = none →
          exec (.teachLimit r) s = repliedWith 7#8 .badArgument [] r s u)
        ∧ (taken 7#8 r s = true → limitKindOf (argNat r.args 1) ≠ none → s.pose.pose.quality ≠ .valid →
          exec (.teachLimit r) s = repliedWith 7#8 .refusedState [] r s u)
        ∧ (taken 8#8 r s = true → (arg8 r.args 8).getLsbD 2 = true → holds s r.station .technician = false →
          exec (.setLimit r) s = repliedWith 8#8 .refusedLevel [] r s u)
        ∧ (taken 8#8 r s = true →
          ((arg8 r.args 8).getLsbD 2 = true → holds s r.station .technician = true) →
          (∀ c, limitArgs r.args = some c → c.ok = false) →
          exec (.setLimit r) s = repliedWith 8#8 .badArgument [] r s u)
        ∧ (taken 7#8 r s = true → limitKindOf (argNat r.args 1) ≠ none → s.pose.pose.quality = .valid →
          canCarry Job.isLimits s = false → exec (.teachLimit r) s = repliedWith 7#8 .busy [] r s u)
        ∧ (∀ c, taken 8#8 r s = true → limitArgs r.args = some c → c.ok = true →
          (c.owner = .technician → holds s r.station .technician = true) →
          canCarry Job.isLimits s = false → exec (.setLimit r) s = repliedWith 8#8 .busy [] r s u))
    ∧ RefusedBelow .supervisor [(7#8, .teachLimit), (8#8, .setLimit), (9#8, .enableLimit), (10#8, .disableLimit)]
    ∧ (∀ x ∈ ([(7#8, .teachLimit), (8#8, .setLimit), (9#8, .enableLimit), (10#8, .disableLimit)] :
        List (Byte × (Request → Instr))), ∀ (r : Request) (s : State),
      taken x.1 r s = true → inHold s = false → holds s r.station .supervisor = true →
      (s.limits[argNat r.args 0]? = none →
          exec (x.2 r) s = repliedWith x.1 .unknownRecord [] r s (leveled r s))
        ∧ ∀ e, s.limits[argNat r.args 0]? = some e → e.config.owner = .technician →
          holds s r.station .technician = false →
          exec (x.2 r) s = repliedWith x.1 .refusedLevel [] r s (leveled r s))
    ∧ (∀ a : List Byte,
      let kind := limitKindOf (argNat a 1)
      let action := limitActionOf (argNat a 6)
      let flags := arg8 a 8
      (kind = none ∨ action = none → limitArgs a = none)
        ∧ ∀ k x, kind = some k → action = some x → limitArgs a = some {
          kind := k
          value := match k with
            | .slewCcwStop | .slewCwStop => (argU16 a 2 : Int)
            | .heightCeiling | .depthFloor | .reachWall => argS16 a 2
          margin := argU16 a 4
          action := x
          guarded := if flags.getLsbD 0 then (match k with
              | .heightCeiling => MotionSet.boomUp ||| MotionSet.armOut
              | .depthFloor => MotionSet.boomDown ||| MotionSet.armIn
              | .reachWall => MotionSet.armOut ||| MotionSet.boomDown
              | .slewCcwStop => MotionSet.slewLeft
              | .slewCwStop => MotionSet.slewRight)
            else arg8 a 7
          scope := if flags.getLsbD 1 then some ⟨BitVec.ofNat 16 (argU16 a 9), BitVec.ofNat 16 (argU16 a 11)⟩
            else none
          owner := if flags.getLsbD 2 then .technician else .supervisor
          latch := if flags.getLsbD 3 then .latched else .follow })
    ∧ (∀ n : Nat,
      limitKindOf n = (match n with
        | 0 => some .slewCcwStop | 1 => some .slewCwStop | 2 => some .heightCeiling
        | 3 => some .depthFloor | 4 => some .reachWall | _ => none)
        ∧ limitActionOf n = (match n with | 0 => some .warn | 1 => some .slow | 2 => some .stop | _ => none))
    ∧ (∀ (a : List Byte) (i : Nat),
      arg8 a i = a.getD i 0 ∧ argNat a i = (a.getD i 0).toNat
        ∧ argU16 a i = (a.getD i 0).toNat + 256 * (a.getD (i + 1) 0).toNat
        ∧ argS16 a i = if argU16 a i < 32768 then (argU16 a i : Int) else argU16 a i - 65536)
    ∧ (∀ c : LimitConfig,
      let slew := c.kind = .slewCcwStop ∨ c.kind = .slewCwStop
      c.ok = true ↔ (slew → 0 ≤ c.value ∧ c.value ≤ 65535 ∧ c.margin ≤ 16383 ∧ c.scope = none)
        ∧ (¬ slew → -32767 ≤ c.value ∧ c.value ≤ 32767 ∧ c.margin ≤ 10000)
        ∧ 0 ≤ c.margin ∧ (c.action = .warn ∨ c.guarded ≠ MotionSet.none)
        ∧ ∀ x, c.scope = some x → x.start ≠ x.stop)
    ∧ (∀ (i : Nat) (e : LimitEntry) (s : State), disableRefused i e s = true ↔
      (∃ x ∈ s.intervention.list, x.source = some i ∧ (x.kind = .limitStop ∨ x.kind = .limitSlow))
        ∨ (e.state = .breach ∧ e.config.action ≠ .warn))
    ∧ (∀ (i : Nat) (old : LimitEntry) (c : LimitConfig) (s : State),
      let changed := setLimit i { old with config := c, state := .pending, last := none, cause := none } s
      (old.state = .clear ∨ old.state = .approach →
          makePending i old c s = interventionEvent (Work.breachReport i false) changed)
        ∧ (¬ (old.state = .clear ∨ old.state = .approach) → makePending i old c s = changed))
    ∧ (∀ (c : LimitConfig) (kind : LimitKind) (v : Int),
      (kind = c.kind → taughtConfig c kind v = { c with value := v })
        ∧ (kind ≠ c.kind → taughtConfig c kind v = { c with
          kind := kind, value := v, scope := none
          margin := match kind with
            | .heightCeiling | .depthFloor | .reachWall => 500
            | .slewCcwStop | .slewCwStop => 1820
          guarded := match kind with
            | .heightCeiling => MotionSet.boomUp ||| MotionSet.armOut
            | .depthFloor => MotionSet.boomDown ||| MotionSet.armIn
            | .reachWall => MotionSet.armOut ||| MotionSet.boomDown
            | .slewCcwStop => MotionSet.slewLeft
            | .slewCwStop => MotionSet.slewRight }))
    ∧ (∀ (s : State) (kind : LimitKind), measured s kind = match kind with
      | .heightCeiling => s.pose.pose.top
      | .depthFloor => s.pose.pose.tip
      | .reachWall => s.pose.pose.reach
      | .slewCcwStop | .slewCwStop => ((predictedStop s).toNat : Int))
    ∧ ∀ (t : Ticket) (s : State),
      let q := s.store.queue
      (canCarry Job.isLimits s = true ↔ (∃ l, Job.limitArea l ∈ q) ∨ q.length < 6)
        ∧ ((∃ l, Job.limitArea l ∈ q) → carry Job.isLimits .limitArea t s = { s with
          store := { s.store with queue := q.map fun
            | .limitArea l => .limitArea (l ++ [t])
            | j => j } })
        ∧ ((∀ l, Job.limitArea l ∉ q) → carry Job.isLimits .limitArea t s = { s with
          store := { s.store with queue := q ++ [.limitArea [t]] } })

/-- R66, R67, R69: RELEASE removes a releasable record, as one event at the list, and refuses another; which records
are releasable, and whose entry is Technician-owned; OVERRIDE sets a record aside for 30 s; RESUME returns
supervision to Settled; the refusals of each, below its level (R192), for sequence number 0, for no listed record, and
by the state. The widths of RESUME's demand sequence and of OVERRIDE's 300 are the model's choice (log
24), and so are the renewal of a grant by a request that is refused later (R192, log 19) and that a reply joins the
event ring after the record notices of its event (log 52). -/
def Obligations.CutRequests : Prop :=
  (∀ (r : Request) (s : State) (x : Record), taken 11#8 r s = true → limpOrHold s = false →
      let seq := argU16 r.args 0
      let u := if x.cause = .externalSilent then leveled r s else noted r s
      seq ≠ 0 → s.intervention.list.find? (·.seq == seq) = some x → x.releasable = true →
      (x.cause = .externalSilent → holds s r.station .technician = true) →
      exec (.release r) s = doneWith 11#8 (le 2 seq) r s (interventionEvent (Work.remove (·.seq == seq)) u)
        ∧ (Work.remove (·.seq == seq) ⟨u, []⟩).state.intervention
          = { s.intervention with list := s.intervention.list.filter fun y => !(y.seq == seq) })
    ∧ (∀ (r : Request) (s : State), limpOrHold s = false → holds s r.station .supervisor = true →
      (∀ x : Record, taken 12#8 r s = true → argU16 r.args 0 ≠ 0 →
          s.intervention.list.find? (·.seq == argU16 r.args 0) = some x → x.kind = .limitStop →
          x.state = .confirmed ∨ x.state = .clearable → technicianOwned s x = false →
          exec (.override r) s = doneWith 12#8 (le 2 (argU16 r.args 0) ++ le 2 300) r s
            (interventionEvent (Work.change (·.seq == argU16 r.args 0)
              (fun y => { y with state := .overridden, expiry := some (s.now + 30000), timerRuns := true })
              (fun _ => true)) (leveled r s)))
        ∧ (taken 13#8 r s = true → s.intervention.supervision = .faulted → s.intervention.confirmed = true →
          s.intervention.confirmTimer = none →
          exec (.resume r) s = doneWith 13#8 ([0#8] ++ le 2 s.intervention.demandSeq.toNat) r s
            (endFault .cutUnconfirmed (valveStation s)
              (setIntervention { s.intervention with supervision := .settled } (leveled r s))))
        ∧ (taken 12#8 r s = true → argU16 r.args 0 = 0 →
          exec (.override r) s = repliedWith 12#8 .badArgument [] r s (leveled r s))
        ∧ (taken 12#8 r s = true → argU16 r.args 0 ≠ 0 →
          s.intervention.list.find? (·.seq == argU16 r.args 0) = none →
          exec (.override r) s = repliedWith 12#8 .unknownRecord [] r s (leveled r s))
        ∧ (∀ x : Record, taken 12#8 r s = true → argU16 r.args 0 ≠ 0 →
          s.intervention.list.find? (·.seq == argU16 r.args 0) = some x →
          x.kind ≠ .limitStop ∨ (x.state ≠ .confirmed ∧ x.state ≠ .clearable) ∨ technicianOwned s x = true →
          exec (.override r) s = repliedWith 12#8 .refusedState [] r s (leveled r s))
        ∧ (taken 13#8 r s = true → s.intervention.supervision ≠ .faulted ∨ s.intervention.confirmed = false
            ∨ s.intervention.confirmTimer ≠ none →
          exec (.resume r) s = repliedWith 13#8 .refusedState [] r s (leveled r s)))
    ∧ RefusedBelow .supervisor [(12#8, .override), (13#8, .resume)]
    ∧ (∀ (r : Request) (s : State), taken 11#8 r s = true → limpOrHold s = false →
      let seq := argU16 r.args 0
      (seq = 0 → exec (.release r) s = repliedWith 11#8 .badArgument [] r s (noted r s))
        ∧ (seq ≠ 0 → s.intervention.list.find? (·.seq == seq) = none →
          exec (.release r) s = repliedWith 11#8 .unknownRecord [] r s (noted r s))
        ∧ ∀ x : Record, seq ≠ 0 → s.intervention.list.find? (·.seq == seq) = some x →
          x.cause = .externalSilent → holds s r.station .technician = false →
          exec (.release r) s = repliedWith 11#8 .refusedLevel [] r s (noted r s))
    ∧ (∀ (r : Request) (s : State) (x : Record), taken 11#8 r s = true → limpOrHold s = false →
      let seq := argU16 r.args 0
      seq ≠ 0 → s.intervention.list.find? (·.seq == seq) = some x → x.releasable = false →
      (x.cause = .externalSilent → holds s r.station .technician = true) →
      exec (.release r) s = repliedWith 11#8 .refusedState [] r s
        (if x.cause = .externalSilent then leveled r s else noted r s))
    ∧ (∀ x : Record, x.releasable = true ↔ (x.state = .clearable ∧ x.kind ≠ .limitSlow)
      ∨ (x.state = .overridden ∧ x.breachGone = true))
    ∧ ∀ (s : State) (x : Record), technicianOwned s x = true ↔
      ∃ (i : Nat) (e : LimitEntry), x.source = some i ∧ s.limits[i]? = some e ∧ e.config.owner = .technician

/-- R71, R73 to R78, R192: BENCHMARK and SET_GRADE, with their refusals; when a segment is in range and fits between
its neighbours; how a change joins or queues its grade-profile job; the scan of a profile, the guidance result with its
tip error, band and design height, and the nearest depth floor. The model's choices: the scan that SET_GRADE runs moves
the scan index and the previous reach, so the next update starts from there (log 72); the four absent words that the
reply to a Clear shows (log 73); a grant is renewed by a request that is refused later (log 19). -/
def Obligations.GuidanceRequests : Prop :=
  (∀ (r : Request) (s : State), limpOrHold s = false → holds s r.station .supervisor = true →
    let u := leveled r s
    let i := argNat r.args 0
    let g : Segment := ⟨argS16 r.args 2, argS16 r.args 4, argS16 r.args 6, argS16 r.args 8⟩
    let regraded := fun (place : Option Segment) =>
      let p := s.guidance.profile.set i place
      inFlightWith r s (carry Job.isGrade .gradeProfile { ticketOf 15#8 r s with index := i }
        (scanAndForm (setGuidance { s.guidance with
                                      profile := p, scanIndex := lowestPresent p, previousReach := none } u)))
    (taken 14#8 r s = true → i = 0 → s.pose.pose.quality = .valid → pilotTravel s = false →
        exec (.benchmark r) s = doneWith 14#8 (le 2 s.pose.pose.tip) r s
          (formGuidance (setGuidance { s.guidance with benchmark := some s.pose.pose.tip } u)))
      ∧ (taken 14#8 r s = true → i = 1 →
        exec (.benchmark r) s = doneWith 14#8 [0x00#8, 0x80#8] r s
          (formGuidance (setGuidance { s.guidance with benchmark := none } u)))
      ∧ (taken 15#8 r s = true → i ≤ 7 → argNat r.args 1 = 0 → g.ok = true →
        within (-32767) 32767 (g.heightAt g.reachTo) = true →
        segmentFits s.guidance.profile i g = true → canCarry Job.isGrade s = true →
        exec (.setGrade r) s = regraded (some g))
      ∧ (∀ old, taken 15#8 r s = true → i ≤ 7 → argNat r.args 1 = 1 →
        s.guidance.profile[i]? = some (some old) → canCarry Job.isGrade s = true →
        exec (.setGrade r) s = regraded none)
      ∧ (taken 15#8 r s = true → i ≤ 7 → argNat r.args 1 = 1 → s.guidance.profile[i]? = some none →
        exec (.setGrade r) s = doneWith 15#8 (byte i :: placeBytes none) r s u)
      ∧ (taken 14#8 r s = true → 1 < i → exec (.benchmark r) s = repliedWith 14#8 .badArgument [] r s u)
      ∧ (taken 14#8 r s = true → i = 0 → s.pose.pose.quality ≠ .valid ∨ pilotTravel s = true →
        exec (.benchmark r) s = repliedWith 14#8 .refusedState [] r s u)
      ∧ (taken 15#8 r s = true → 7 < i → exec (.setGrade r) s = repliedWith 15#8 .unknownRecord [] r s u)
      ∧ (taken 15#8 r s = true → i ≤ 7 → 1 < argNat r.args 1 ∨ (argNat r.args 1 = 0
          ∧ (g.ok = false ∨ within (-32767) 32767 (g.heightAt g.reachTo) = false
            ∨ segmentFits s.guidance.profile i g = false)) →
        exec (.setGrade r) s = repliedWith 15#8 .badArgument [] r s u)
      ∧ (taken 15#8 r s = true → i ≤ 7 → canCarry Job.isGrade s = false →
        (argNat r.args 1 = 0 ∧ g.ok = true ∧ within (-32767) 32767 (g.heightAt g.reachTo) = true
            ∧ segmentFits s.guidance.profile i g = true)
          ∨ (argNat r.args 1 = 1 ∧ ∃ old, s.guidance.profile[i]? = some (some old)) →
        exec (.setGrade r) s = repliedWith 15#8 .busy [] r s u))
    ∧ RefusedBelow .supervisor [(14#8, .benchmark), (15#8, .setGrade)]
    ∧ (∀ g : Segment, g.ok = true ↔ -32767 ≤ g.reachFrom ∧ g.reachFrom ≤ 32766 ∧ g.reachFrom < g.reachTo
      ∧ g.reachTo ≤ 32767 ∧ -32767 ≤ g.height ∧ g.height ≤ 32767 ∧ -1000 ≤ g.slope ∧ g.slope ≤ 1000)
    ∧ (∀ (p : List (Option Segment)) (i : Nat) (g : Segment),
      let present := fun (j : Nat) (x : Segment) => p[j]? = some (some x)
      segmentFits p i g = true ↔
        (∀ j x, j < i → present j x → (∀ k y, present k y → k < i → k ≤ j) → x.reachTo ≤ g.reachFrom)
          ∧ ∀ j x, i < j → present j x → (∀ k y, present k y → i < k → j ≤ k) → g.reachTo ≤ x.reachFrom)
    ∧ (∀ (t : Ticket) (s : State),
      let q := s.store.queue
      (canCarry Job.isGrade s = true ↔ (∃ l, Job.gradeProfile l ∈ q) ∨ q.length < 6)
        ∧ ((∃ l, Job.gradeProfile l ∈ q) → carry Job.isGrade .gradeProfile t s = { s with
          store := { s.store with queue := q.map fun
            | .gradeProfile l => .gradeProfile (l ++ [t])
            | j => j } })
        ∧ ((∀ l, Job.gradeProfile l ∉ q) → carry Job.isGrade .gradeProfile t s = { s with
          store := { s.store with queue := q ++ [.gradeProfile [t]] } }))
    ∧ (∀ s : State,
      let g := s.guidance.scanAt s.pose.pose.reach
      formGuidance s = setGuidance { s.guidance with result := guidanceResult s } s
        ∧ scanAndForm s = setGuidance { g with result := guidanceResult (setGuidance g s) } s)
    ∧ (∀ (g : GuidanceUnit) (r : Int),
      let present := fun (i : Nat) (x : Segment) => g.profile[i]? = some (some x)
      let outward := g.previousReach = none ∨ ∃ p, g.previousReach = some p ∧ p < r
      let inward := ∃ p, g.previousReach = some p ∧ r < p
      ((∀ i x, ¬ present i x) → g.scanAt r = { g with scan := .noProfile })
        ∧ ∀ (lowest highest first last : Nat) (a b c x : Segment),
          present lowest a → present highest b → present first c → present last x →
          (∀ i y, present i y → lowest ≤ i ∧ i ≤ highest) →
          (g.scanIndex ≤ first ∧ (∀ i y, present i y → g.scanIndex ≤ i → first ≤ i))
            ∨ (first = highest ∧ highest < g.scanIndex) →
          (outward → first ≤ last ∧ (∀ i y, present i y → first ≤ i → i < last → y.reachTo ≤ r)
            ∧ (r < x.reachTo ∨ last = highest)) →
          (inward → last ≤ first ∧ (∀ i y, present i y → last < i → i ≤ first → r < y.reachFrom)
            ∧ (x.reachFrom ≤ r ∨ last = lowest)) →
          (g.previousReach = some r → last = first) →
          g.scanAt r = { g with
            scanIndex := last, previousReach := some r
            scan := if x.reachFrom ≤ r ∧ r < x.reachTo then .found last
              else if r < a.reachFrom ∨ b.reachTo ≤ r then .offProfile else .inGap })
    ∧ (∀ s : State,
      let g := s.guidance
      let p := s.pose.pose
      let t := guidanceResult s
      let f : Int := s.config.fineBand
      t.reason = (match p.quality with
          | .invalid => .poseInvalid
          | .degraded => .poseDegraded
          | .valid => if g.benchmark = none then .noBenchmark else match g.scan with
            | .noProfile => .noProfile
            | .offProfile => .offProfile
            | .inGap => .inGap
            | .found _ => .none)
        ∧ (∀ i x, g.scan = .found i → g.profile[i]? = some (some x) →
          t.segment = some i ∧ ∃ h : Int,
            Nearest (1000 * x.height + x.slope * (p.reach - x.reachFrom)) 1000 h
              ∧ (t.reason = .none ∨ t.reason = .poseDegraded → t.height = some h)
              ∧ ∀ m, t.reason = .none → g.benchmark = some m →
                let e := max (-32767) (min 32767 (p.tip - (m + h)))
                t.tipError = some e
                  ∧ t.band = some (if f < e then .above else if e < -f then .below else .onGrade))
        ∧ (t.reason ≠ .none → t.tipError = none ∧ t.band = none)
        ∧ (t.reason ≠ .none → t.reason ≠ .poseDegraded → t.height = none)
        ∧ ((∀ i, g.scan ≠ .found i) → t.segment = none ∧ t.height = none))
    ∧ ∀ s : State,
      let considered := fun (i : Nat) (e : LimitEntry) (c : Int) => s.limits[i]? = some e
        ∧ e.config.kind = .depthFloor ∧ e.state ≠ .disabled ∧ e.last = some c
        ∧ inScope e.config.scope s.pose.pose.slewAngle = true
      ((∀ i e c, ¬ considered i e c) → (guidanceResult s).floor = none)
        ∧ ∀ i e c, considered i e c → (∀ j d k, considered j d k → c < k ∨ (c = k ∧ i ≤ j)) →
          (guidanceResult s).floor = some ⟨i, c, e.state, e.warning⟩

/-- R12, R16, R17, R86 to R89, R99, R192: POWER_MODE and TABLE_RECALL, with their refusals; the mode in force, its working speed and pump limit, and
the speed that ENGINE_REQ requests. A reply joins the event ring after the notices of its event (log 52), and a grant is
renewed by a request that is refused later (log 19), by the model's choice; the held output goes out as a signed 16-bit
value, 8000H where it is absent (log 77). -/
def Obligations.ModeAndRecallRequests : Prop :=
  (∀ (r : Request) (s : State), limpOrHold s = false →
    (∀ mode, taken 16#8 r s = true → powerModeOf (argNat r.args 0) = some mode →
        (s.service.derate = true → mode = .economy) →
        let u := { noted r s with economy := { s.economy with requested := mode } }
        exec (.powerMode r) s = doneWith 16#8 [byte mode.num, byte (modeInForce u).num] r s u)
      ∧ ∀ d, taken 17#8 r s = true → holds s r.station .technician = true →
        let i := argNat r.args 0
        let finishes := fun (new : Descriptor) =>
          exec (.tableRecall r) s = doneWith 17#8
            ([byte i, if new.enabled then 0#8 else 1#8] ++ signed16 new.held ++ [flagByte new.clamped]) r s
            (if i < 2 then solveAndGrade (setDescriptor i d new (leveled r s))
              else setDescriptor i d new (leveled r s))
        s.pose.descriptors[i]? = some d → d.config.limit ≠ 0 →
        (argNat r.args 1 = 0 → boundInput s i = none →
            finishes { d with enabled := true, held := none, clamped := false })
          ∧ (∀ x, argNat r.args 1 = 0 → boundInput s i = some x →
            finishes { d with enabled := true, held := some (lookup s.config.pool d.config x).1,
                              clamped := (lookup s.config.pool d.config x).2 })
          ∧ (argNat r.args 1 = 1 → 4 ≤ r.args.length → inPointRange i (argS16 r.args 2) = true →
            finishes { d with enabled := false, fixedValue := argS16 r.args 2,
                              held := some (argS16 r.args 2), clamped := false })
          ∧ (1 < argNat r.args 1 ∨ (argNat r.args 1 = 1
              ∧ (r.args.length < 4 ∨ inPointRange i (argS16 r.args 2) = false)) →
            exec (.tableRecall r) s = repliedWith 17#8 .badArgument [] r s (leveled r s)))
    ∧ (∀ (r : Request) (s : State), limpOrHold s = false →
      (taken 16#8 r s = true → 2 < argNat r.args 0 →
          exec (.powerMode r) s = repliedWith 16#8 .badArgument [] r s (noted r s))
        ∧ (taken 16#8 r s = true → argNat r.args 0 = 0 ∨ argNat r.args 0 = 1 → s.service.derate = true →
          exec (.powerMode r) s = repliedWith 16#8 .refusedState [] r s (noted r s))
        ∧ (taken 17#8 r s = true → holds s r.station .technician = true →
          (∀ d, s.pose.descriptors[argNat r.args 0]? = some d → d.config.limit = 0) →
          exec (.tableRecall r) s = repliedWith 17#8 .unknownRecord [] r s (leveled r s)))
    ∧ RefusedBelow .technician [(17#8, .tableRecall)]
    ∧ (∀ n : Nat, powerModeOf n = match n with
      | 0 => some .heavy
      | 1 => some .standard
      | 2 => some .economy
      | _ => none)
    ∧ (∀ (i : Nat) (v : Int), inPointRange i v = true ↔ match i with
      | 0 => -18000 ≤ v ∧ v ≤ 18000
      | 1 => 0 ≤ v ∧ v ≤ 16383
      | 2 => 500 ≤ v ∧ v ≤ 4000
      | _ => False)
    ∧ ∀ s : State,
      let c := s.config.economy
      let working := workingSpeed s (modeInForce s)
      modeInForce s = (if s.economy.state = .forced then .idle
          else if s.service.derate = true then .economy
          else match s.economy.requested with
            | .heavy => .heavy
            | .standard => .standard
            | .economy => .economy)
        ∧ (∀ m, modePumpLimit s m = match m with
          | .heavy => c.pumpHeavy
          | .standard => c.pumpStandard
          | .economy => c.pumpEconomy
          | .idle => c.minimumPump)
        ∧ (∀ m, workingSpeed s m = match m with
          | .heavy => c.speedHeavy
          | .standard => c.speedStandard
          | .economy => c.speedEconomy
          | .idle => idleSpeed s)
        ∧ (∀ v e, heldOutput s 2 = some v → entryOf s .coolant = some e → e.state ≠ .lost →
          idleSpeed s = v.toNat)
        ∧ (heldOutput s 2 = none ∨ (∃ e, entryOf s .coolant = some e ∧ e.state = .lost) →
          idleSpeed s = c.idleFallback)
        ∧ speedRequest s = (match s.economy.state with
          | .stopped | .shutdownPending => 0
          | .working | .idleWait | .resuming | .held => working
          | .idling | .forced => idleSpeed s)

/-- R105, R106, R108 to R111, R114, R115, R144: SET_CLOCK and SET_TRIM, with their refusals; what a set of the clock
makes: the Time Base, the open day record marked, or closed into the ring with a new one opened and the day-record job
wanted when the date changes, the calendar evaluation of every item, the end of ClockUnset. The model's choices:
SET_CLOCK's Done reply has the byte order of the TIME_SYNC payload (log 56); `carried` is the model's own field (log 5);
a reply follows the notices of its event (log 52); the Economy Unit acts before the Service Unit and ClockUnset ends
last (log 62); the items are evaluated in index order (log 69); the date before the set of an Unset clock is the false
date that it shows then (log 75); a grant is renewed by a request that is refused later (R192, log 19). -/
def Obligations.ClockSets : Prop :=
  (∀ (r : Request) (s : State), limpOrHold s = false →
      (taken 18#8 r s = true → holds s r.station .supervisor = true → (clockArgs r.args).ok = true →
          s.time.stopped = false →
          exec (.setClock r) s = doneWith 18#8 (timeBytes (some (clockArgs r.args)) ++ [1#8]) r s
            (setClockTo (clockArgs r.args) .setClock (leveled r s)))
        ∧ (taken 19#8 r s = true → holds s r.station .technician = true →
          -100 ≤ (arg8 r.args 0).toInt → (arg8 r.args 0).toInt ≤ 100 →
          exec (.setTrim r) s = doneWith 19#8 (le 1 (arg8 r.args 0).toInt) r s
            (setTime { s.time with trim := (arg8 r.args 0).toInt, trimLoaded := true } (leveled r s)))
        ∧ (taken 18#8 r s = true → holds s r.station .supervisor = true → (clockArgs r.args).ok = false →
          exec (.setClock r) s = repliedWith 18#8 .badArgument [] r s (leveled r s))
        ∧ (taken 18#8 r s = true → holds s r.station .supervisor = true → (clockArgs r.args).ok = true →
          s.time.stopped = true →
          exec (.setClock r) s = repliedWith 18#8 .refusedState [] r s (leveled r s))
        ∧ (taken 19#8 r s = true → holds s r.station .technician = true →
          (arg8 r.args 0).toInt < -100 ∨ 100 < (arg8 r.args 0).toInt →
          exec (.setTrim r) s = repliedWith 19#8 .badArgument [] r s (leveled r s)))
    ∧ RefusedBelow .supervisor [(18#8, .setClock)] ∧ RefusedBelow .technician [(19#8, .setTrim)]
    ∧ RefusedInHold [(18#8, .setClock), (19#8, .setTrim)]
    ∧ (∀ a : List Byte, clockArgs a = ⟨(a.getD 5 0).toNat, (a.getD 4 0).toNat, (a.getD 3 0).toNat,
        (a.getD 6 0).toNat, (a.getD 2 0).toNat, (a.getD 1 0).toNat, 2000 + (a.getD 0 0).toNat⟩)
    ∧ (∀ t : ClockTime, t.ok = true ↔ t.second ≤ 59 ∧ t.minute ≤ 59 ∧ t.hour ≤ 23 ∧ t.dayOfWeek ≤ 6
        ∧ 2000 ≤ t.year ∧ t.year ≤ 2099 ∧ 1 ≤ t.month ∧ t.month ≤ 12 ∧ 1 ≤ t.date
        ∧ t.date ≤ match t.month with
          | 2 => if t.year % 4 = 0 then 29 else 28
          | 4 | 6 | 9 | 11 => 30
          | _ => 31)
    ∧ (∀ (second : Nat) (trim : Int), secondLength second trim
        = if second = 29 ∨ second = 59 then (32768 - trim).toNat else 32768)
    ∧ (∀ (t : ClockTime) (src : SetSource) (s : State),
      let u := setClockTo t src s
      u.time = { s.time with
          clock := t, prescaler := 0, carried := 0, length := secondLength t.second s.time.trim, unsetCause := none,
          lastSet := ⟨src, some (clampInt (-3155759999) 3155759999
            ((secondNumber t : Int) - secondNumber s.time.clock)), some t⟩ }
        ∧ u.meter = s.meter ∧ u.economy.days.shift = s.economy.days.shift
        ∧ (s.time.clock.day = t.day → u.economy.days.opened = { s.economy.days.opened with clockSet := true })
        ∧ (s.time.clock.day ≠ t.day → u.economy.days.opened = .opened (some t.day)))
    ∧ ∀ (t : ClockTime) (src : SetSource) (s : State),
      let days := s.economy.days
      let first := { days.opened with clockSet := true }
      let marked := { s with
        time := { s.time with
          clock := t, prescaler := 0, carried := 0, length := secondLength t.second s.time.trim, unsetCause := none
          lastSet := ⟨src, some (clampInt (-3155759999) 3155759999
            ((secondNumber t : Int) - secondNumber s.time.clock)), some t⟩ }
        economy := { s.economy with days := { days with opened := first } } }
      let records := days.ring ++ [first]
      let closed := { marked with
        economy := { s.economy with days := { days with
          ring := records.drop (records.length - 14)
          opened := ⟨some t.day, 0, 0, 0, 0, 0, false⟩ } } }
      let economyDone := if s.time.clock.day = t.day then marked else wantDayJob closed
      let evaluated := (List.range 24).foldl (fun (v : State) i => match v.service.items[i]? with
          | some (some item) => restand i item item.meterStanding (dayStandingOf item t.day) v
          | _ => v) economyDone
      setClockTo t src s = endFault .clockUnset timeBlock evaluated

/-- R125, R127, R131, R134, R140 to R142, R145, R149 to R152, R154, R192: SET_METER and SERVICE_DONE, with their
refusals; which checkpoint the
request of SET_METER waits on; what SERVICE_DONE records; the standings of an item, and what a change of them makes.
The model's choices: the order of check, change and announcement, and the answer at an exhausted counter whatever
place is free (log 43); the service-state job before the history job (log 65); a reply after the notices of its
event (log 52); a grant renewed by a request that is refused later (log 19). -/
def Obligations.MeterAndServiceRequests : Prop :=
  (∀ (r : Request) (s : State), limpOrHold s = false → holds s r.station .technician = true →
    let n := argNat r.args 0
    let u := leveled r s
    (∀ present v, taken 20#8 r s = true → s.meter.meters.value n = some present →
        meterArgs r.args = some v →
        let changed := setMeterUnit { s.meter with meters := s.meter.meters.set n v } u
        (present.amount < v.amount → s.meter.sequence < 4294967295 →
            s.meter.job ≠ .none ∨ s.store.queue.length < 6 →
            exec (.setMeter r) s = inFlightWith r s
              (announceMeter n (wantCheckpointFor { ticketOf 20#8 r s with index := n } changed)))
          ∧ (present.amount < v.amount → 4294967295 ≤ s.meter.sequence →
            exec (.setMeter r) s = doneWith 20#8 (setMeterReply changed.meter.meters n) r s
              (announceMeter n (exhaustCheckpoints changed)))
          ∧ (present.amount = v.amount →
            exec (.setMeter r) s = doneWith 20#8 (setMeterReply s.meter.meters n) r s u)
          ∧ (v.amount < present.amount →
            exec (.setMeter r) s = repliedWith 20#8 .badArgument [] r s u)
          ∧ (present.amount < v.amount → s.meter.sequence < 4294967295 → s.meter.job = .none →
            6 ≤ s.store.queue.length → exec (.setMeter r) s = repliedWith 20#8 .busy [] r s u))
      ∧ (taken 20#8 r s = true → s.meter.meters.value n = none →
        exec (.setMeter r) s = repliedWith 20#8 .unknownRecord [] r s u)
      ∧ (taken 20#8 r s = true → s.meter.meters.value n ≠ none → meterArgs r.args = none →
        exec (.setMeter r) s = repliedWith 20#8 .badArgument [] r s u)
      ∧ (taken 21#8 r s = true → (∀ item, s.service.items[n]? ≠ some (some item)) →
        exec (.serviceDone r) s = repliedWith 21#8 .unknownRecord [] r s u)
      ∧ (∀ item, taken 21#8 r s = true → s.service.items[n]? = some (some item) →
        (argU16 r.args 1 ≠ item.config.code →
            exec (.serviceDone r) s = repliedWith 21#8 .badArgument [] r s u)
          ∧ (argU16 r.args 1 = item.config.code → 6 - s.store.queue.length < serviceJobsNeeded s →
            exec (.serviceDone r) s = repliedWith 21#8 .busy [] r s u))
      ∧ (∀ item, taken 21#8 r s = true → s.service.items[n]? = some (some item) →
        argU16 r.args 1 = item.config.code → serviceJobsNeeded s ≤ 6 - s.store.queue.length →
        exec (.serviceDone r) s = inFlightWith r s
          (recordService n item { ticketOf 21#8 r s with index := n } u)))
    ∧ RefusedBelow .technician [(20#8, .setMeter), (21#8, .serviceDone)]
    ∧ (∀ (i : Nat) (item : ServiceItem) (t : Ticket) (s : State),
      let done : ServiceItem := { item with
        lastMeter := item.config.basis.bind s.meter.meters.value
        lastDate := if s.time.unsetCause = none then some s.time.clock.day else none
        meterStanding := .ok, dayStanding := .ok, acknowledged := false, owed := none }
      let items := s.service.items.set i (some done)
      let history := s.service.history
        ++ [⟨i, item.config.code, item.config.basis, done.lastMeter, done.lastDate, t.station⟩]
      let joined := fun (kind : Job → Bool) (fresh : List Ticket → Job) (q : List Job) =>
        if q.any kind then q.map (fun j => if kind j then j.join t else j) else q ++ [fresh [t]]
      recordService i item t s = { s with
        service := { items := items, history := history.drop (history.length - 32),
                     derate := derateWanted items, writePending := false }
        store := { s.store with
          queue := joined Job.isHistory .history (joined Job.isService .serviceState s.store.queue) } })
    ∧ (∀ (i : Nat) (item : ServiceItem) (m d : Standing) (s : State),
      let new : ServiceItem := { item with meterStanding := m, dayStanding := d }
      let t := restand i item m d s
      (new.state = if m.num < d.num then d else m)
        ∧ (m = item.meterStanding → d = item.dayStanding → t = s)
        ∧ (¬ (m = item.meterStanding ∧ d = item.dayStanding) →
          (item.state.num < new.state.num →
              let told := s.bus.queueNotice (serviceNoticeData i { new with acknowledged := false } .rise) none
              t.service.items = s.service.items.set i (some { new with
                  acknowledged := false, owed := if told.isSome then none else some .rise })
                ∧ t.bus = told.getD s.bus ∧ t.service.derate = derateWanted t.service.items)
            ∧ (new.state.num < item.state.num → t.bus = s.bus
              ∧ t.service.items = s.service.items.set i (some (if new.state = .ok then
                  { new with acknowledged := false, owed := none } else new))
              ∧ t.service.derate = derateWanted t.service.items)
            ∧ (new.state = item.state → t.service.items = s.service.items.set i (some new)
              ∧ t.bus = s.bus ∧ t.service.derate = s.service.derate)
            ∧ (if s.store.queue.any Job.isService then
                t.store = s.store ∧ t.service.writePending = s.service.writePending
              else if s.store.queue.length < 6 then
                t.store = { s.store with queue := s.store.queue ++ [.serviceState []] }
                  ∧ t.service.writePending = false
              else t.store = s.store ∧ t.service.writePending = true)
            ∧ { t with bus := s.bus, service := s.service, store := s.store } = s))
    ∧ (∀ items : List (Option ServiceItem), derateWanted items = true ↔
      ∃ item, some item ∈ items ∧ item.config.cls = .critical ∧ item.state = .overdue)
    ∧ (∀ e interval lead grace : Nat,
      (interval = 0 → standingOf e interval lead grace = .ok)
        ∧ (0 < interval →
          (e < interval - lead → standingOf e interval lead grace = .ok)
            ∧ (interval - lead ≤ e → e < interval → standingOf e interval lead grace = .dueSoon)
            ∧ (interval ≤ e → e ≤ interval + grace → standingOf e interval lead grace = .due)
            ∧ (interval + grace < e → standingOf e interval lead grace = .overdue)))
    ∧ (∀ (item : ServiceItem) (meters : Meters) (today : Date),
      let c := item.config
      (∀ h sec h' sec', c.basis.bind meters.value = some (.time h sec) → item.lastMeter = some (.time h' sec') →
          meterStandingOf item meters = standingOf (h * 3600 + sec - (h' * 3600 + sec'))
            (c.meterInterval * 3600) (c.meterLead * 3600) (c.meterGrace * 3600))
        ∧ (∀ n n', c.basis.bind meters.value = some (.count n) → item.lastMeter = some (.count n') →
          meterStandingOf item meters = standingOf (n - n') c.meterInterval c.meterLead c.meterGrace)
        ∧ (c.basis.bind meters.value = none ∨ item.lastMeter = none → meterStandingOf item meters = .ok)
        ∧ (∀ day, item.lastDate = some day → dayStandingOf item today
          = standingOf (dayNumber today - dayNumber day) c.dayInterval c.dayLead c.dayGrace)
        ∧ (item.lastDate = none → dayStandingOf item today = .ok))
    ∧ (∀ (t : Ticket) (s : State),
      let u := s.meter
      let joined := fun marked : Bool => u.waiters ++ [(⟨t, marked⟩ : Waiter)]
      (4294967295 ≤ u.sequence →
          wantCheckpointFor t s = exhaustCheckpoints (setMeterUnit { u with waiters := joined (u.job != .none) } s))
        ∧ (u.sequence < 4294967295 → u.job = .none → s.store.queue.length < 6 → wantCheckpointFor t s = { s with
          store := { s.store with queue := s.store.queue ++ [.checkpoint] }
          meter := { u with
            sequence := u.sequence + 1, job := .queued, waiters := joined false
            snapshot := some ⟨u.sequence + 1, u.meters, s.economy.lifetime⟩ } })
        ∧ (u.sequence < 4294967295 → u.job ≠ .none → wantCheckpointFor t s = setMeterUnit { u with
          waiters := joined true, pending := if u.pending = .setUrgent then .setUrgent else .set } s)
        ∧ exhaustCheckpoints s = report .checkpointExhausted meterBlock
          (answerWaiters u.waiters (setMeterUnit { u with pending := .clear, waiters := [] } s)))
    ∧ (∀ (n : Nat) (s : State), announceMeter n s = if s.power = .running then serviceMeter n s else s)
    ∧ (∀ a : List Byte,
      let amount := (argU32 a 1).toNat
      meterArgs a = if argNat a 0 = 7 then (if amount ≤ 999999999 then some (.count amount) else none)
        else if amount ≤ 999999 ∧ argU16 a 5 ≤ 3599 then some (.time amount (argU16 a 5)) else none)
    ∧ ∀ s : State, serviceJobsNeeded s
        = (if s.store.queue.any (fun | .serviceState _ => true | _ => false) = true then 0 else 1)
          + (if s.store.queue.any (fun | .history _ => true | _ => false) = true then 0 else 1)

/-- R167 step 3, R185, R196: an unknown code, and a frame on a REQUEST topic; a completed series runs the request of
its first byte (log 41), and a request without a code or a tag has free ones (log 31). That an unknown code is answered
BadArgument after a key-off too is the model's choice: it checks the code before the key-off (log 18). -/
def Obligations.UnknownCodesAndFragments : Prop :=
  (∀ (code : Byte) (r : Request) (s : State) (e : SubEntry), requestCodeKnown code = false →
      requestEntry s r.station = some e → receiving s = true → e.counter ≠ some r.counter →
      e.inFlight = none →
      exec (.unknownRequestCode (some code) r) s = repliedWith code .badArgument [] r s (noted r s))
    ∧ (∀ (r : Request) (s : State) (e : SubEntry), requestEntry s r.station = some e → receiving s = true →
      e.counter ≠ some r.counter → e.inFlight = none →
      let code := Config.missingCode s.freeCount
      exec (.unknownRequestCode none r) s = .next (settle s
        (sendReply (ticketOf code r (useFree s)) .badArgument [] (noted r (useFree s)))))
    ∧ (∀ x ∈ requestCommands, ∀ (r : Request) (s : State),
      exec (x.2 r) s = .next (settle s (takeByCode (some x.1) r s)))
    ∧ ∀ (st : Nat) (f : Frame) (s : State) (e : SubEntry), requestEntry s st = some e → receiving s = true →
      (assembled e.assembly f = none → exec (.requestFragment st f) s
          = .next (settle s (modifyRequest st (fun e => { e with assembly := none }) s)))
        ∧ (∀ a, assembled e.assembly f = some a → frameLast f = false → exec (.requestFragment st f) s
          = .next (settle s (modifyRequest st (fun e => { e with assembly := some a }) s)))
        ∧ (∀ a, assembled e.assembly f = some a → frameLast f = true → exec (.requestFragment st f) s
          = .next (settle s (takeByCode a.data.head? ⟨st, a.counter, a.data.drop 1⟩ s)))
        ∧ assembled e.assembly f = (if frameNumber f = 0 then some ⟨frameCounter f, f.data, 1⟩
            else match e.assembly with
              | some a => if a.counter = frameCounter f ∧ a.next = frameNumber f then
                  some ⟨a.counter, a.data ++ f.data, a.next + 1⟩ else none
              | none => none)

/-! ## Frames of graded topics -/

/-- R157, R194: a frame that is not accepted changes nothing; nor does a timed command whose timer is stopped or has
not reached its expiry (log 3). -/
def Obligations.CommandsWithoutEffect : Prop :=
  (∀ (f : Frame) (s : State),
      (∀ p, accepted (PoseRole.role p) none f s = none → exec (.poseInputArrival p f) s = .next (settle s s))
        ∧ (accepted .engineRun none f s = none → exec (.engineRun f) s = .next (settle s s))
        ∧ (accepted .engineFuel none f s = none → exec (.engineFuel f) s = .next (settle s s))
        ∧ (accepted .coolant none f s = none → exec (.coolant f) s = .next (settle s s))
        ∧ (accepted .pump none f s = none → exec (.pump f) s = .next (settle s s))
        ∧ (accepted .pilot none f s = none → exec (.pilot f) s = .next (settle s s))
        ∧ (accepted .valveCut none f s = none → exec (.valveCut f) s = .next (settle s s))
        ∧ (∀ st, accepted .extCut (some st) f s = none → exec (.extCut st f) s = .next (settle s s))
        ∧ (accepted .timeSync none f s = none → exec (.timeSync f) s = .next (settle s s)))
    ∧ (∀ s : State,
      (due s.now s.pose.degradedTimer = false → exec .degradedTimerExpiry s = .next (settle s s))
        ∧ (due s.now s.intervention.confirmTimer = false → exec .confirmTimerExpiry s = .next (settle s s))
        ∧ (∀ n, s.intervention.list.all (fun r => !(r.seq == n && overrideDue s.now r)) = true →
          exec (.overrideTimerExpiry n) s = .next (settle s s))
        ∧ (due s.now s.guidance.stageTimer = false → exec .stageTimerExpiry s = .next (settle s s))
        ∧ (due s.now s.economy.waitTimer = false → exec .waitTimerExpiry s = .next (settle s s))
        ∧ (due s.now s.economy.shutdownTimer = false → exec .shutdownTimerExpiry s = .next (settle s s))
        ∧ (due s.now s.economy.resumeTimer = false → exec .resumeTimerExpiry s = .next (settle s s))
        ∧ (writeDue s = false → exec .storeWriteComplete s = .next (settle s s))
        ∧ (restartDue s = false → exec .restartBegin s = .next (settle s s))
        ∧ (shutdownDone s = false → exec .shutdownComplete s = .next (settle s s)))

/-- R2, R3, R11, R15: an accepted pose input recalls its lookup, solves if the five payloads are there, grades, and
announces a pose update if it solved or the quality changed; a pose update adds 1 to the update count, from 65,535 to
0, and leaves the rest of the pose as written. R4, R5: the solve, in the model's fixed-point sines and cosines
(log 15). A recall of an Enabled descriptor looks the input up, and TableClamped begins and ends with its flag. -/
def Obligations.PoseInputSolves : Prop :=
  (∀ (p : PoseRole) (f : Frame) (s : State) (x : Nat × SubEntry × SubEntry × Payload),
      accepted (PoseRole.role p) none f s = some x →
      let g := gradedBy x s
      let u := match x.2.2.2 with
        | .bucketLink stroke => recallLookup 0 stroke g
        | .slewPos _ rate => recallLookup 1 rate.natAbs g
        | _ => g
      (∀ q, solvePose u = some q → exec (.poseInputArrival p f) s
          = .next (settle s (announcePose u.pose.pose.quality (applyGrade (setPoseUnit { u.pose with pose := q } u)))))
        ∧ (solvePose u = none → exec (.poseInputArrival p f) s = .next (settle s
          (if (applyGrade u).pose.pose.quality = u.pose.pose.quality then applyGrade u
            else announcePose u.pose.pose.quality (applyGrade u)))))
    ∧ (∀ (before : PoseQuality) (s : State),
      let advanced := { s.pose with pose := { s.pose.pose with updates := s.pose.pose.updates + 1 } }
      announcePose before s = consumePose before { s with pose := advanced }
        ∧ (announcePose before s).pose = advanced)
    ∧ (∀ s : State,
      let before := s.pose.pose.quality
      (∀ q, solvePose s = some q →
          solveAndGrade s = announcePose before (applyGrade { s with pose := { s.pose with pose := q } }))
        ∧ (solvePose s = none → (applyGrade s).pose.pose.quality = before → solveAndGrade s = applyGrade s)
        ∧ (solvePose s = none → (applyGrade s).pose.pose.quality ≠ before →
          solveAndGrade s = announcePose before (applyGrade s)))
    ∧ (∀ s : State,
      let p := (applyGrade s).pose
      let graded := { s with pose := p }
      p = { s.pose with
          pose := { s.pose.pose with quality := p.pose.quality }, degradedTimer := p.degradedTimer, latch := p.latch }
        ∧ (p.pose.quality = .valid → s.pose.latch = true →
          applyGrade s = endFault .poseTimeout poseBlock graded)
        ∧ (¬ (p.pose.quality = .valid ∧ s.pose.latch = true) → applyGrade s = graded))
    ∧ (∀ (s : State),
      (∀ (boom arm stroke rate pitch roll : Int) (slew : BinAngle),
          payloadOf s .boomPos = some (.boomPos boom) → payloadOf s .armPos = some (.armPos arm) →
          payloadOf s .bucketLink = some (.bucketLink stroke) →
          payloadOf s .slewPos = some (.slewPos slew rate) →
          payloadOf s .chassisTilt = some (.chassisTilt pitch roll) →
          let g := s.config.geometry
          let b := boom + roundFix (pitch * fixCos slew.toNat 65536 - roll * fixSin slew.toNat 65536)
          let ba := b + arm
          let bak := ba + (heldOutput s 0).getD 0
          let pin := g.h0 * fixUnit + g.lb * sinCentidegrees b
          let tip := roundFix (pin + g.la * sinCentidegrees ba + g.lk * sinCentidegrees bak)
          solvePose s = some { s.pose.pose with
            reach := roundFix (g.x0 * fixUnit + g.lb * cosCentidegrees b + g.la * cosCentidegrees ba
              + g.lk * cosCentidegrees bak)
            tip := tip, top := max tip (roundFix pin), slewAngle := slew, slewRate := rate,
            tipAngle := (bak + 18000) % 36000 - 18000 })
        ∧ (∀ role, isPoseRole role = true → payloadOf s role = none → solvePose s = none))
    ∧ (∀ (i : Nat) (x : Int) (s : State),
      (s.pose.descriptors[i]? = none → recallLookup i x s = s)
        ∧ ∀ d, s.pose.descriptors[i]? = some d →
          let y := lookup s.config.pool d.config x
          (d.enabled = false → recallLookup i x s = s)
            ∧ (d.enabled = true → recallLookup i x s
              = setDescriptor i d { d with held := some y.1, clamped := y.2 } s))
    ∧ ∀ (i : Nat) (old new : Descriptor) (s : State),
      let u := setPoseUnit { s.pose with descriptors := s.pose.descriptors.set i new } s
      (new.clamped = old.clamped → setDescriptor i old new s = u)
        ∧ (old.clamped = false → new.clamped = true →
          setDescriptor i old new s = report .tableClamped (.descriptor i) u)
        ∧ (old.clamped = true → new.clamped = false →
          setDescriptor i old new s = endFault .tableClamped (.descriptor i) u)

/-- R15, R91, R94, R102: ENGINE_RUN moves the economy state; COOLANT recalls the idle speed; ENGINE_FUEL is
integrated. -/
def Obligations.EngineArrivals : Prop :=
  (∀ (f : Frame) (s : State) (x : Nat × SubEntry × SubEntry × Payload),
      let g := gradedBy x s
      let entered := fun st : EconomyState => setEconomy
        { g.economy with state := st, waitTimer := none, shutdownTimer := none, resumeTimer := none } g
      (∀ running speed, accepted .engineRun none f s = some x → x.2.2.2 = .engineRun running speed →
          (running = false → g.economy.state ≠ .stopped → g.economy.state ≠ .forced →
              exec (.engineRun f) s = .next (settle s (entered .stopped)))
            ∧ (running = false → g.economy.state = .stopped ∨ g.economy.state = .forced →
              exec (.engineRun f) s = .next (settle s g))
            ∧ (running = true → g.economy.state = .stopped →
              exec (.engineRun f) s = .next (settle s (entered .working)))
            ∧ (running = true → g.economy.state = .resuming →
              exec (.engineRun f) s = .next (settle s
                (if ((speed : Int) - workingSpeed g (modeInForce g)).natAbs ≤ 50 then entered .working else g)))
            ∧ (running = true → g.economy.state ≠ .stopped → g.economy.state ≠ .resuming →
              exec (.engineRun f) s = .next (settle s g)))
        ∧ (∀ t, accepted .coolant none f s = some x → x.2.2.2 = .coolant t →
          exec (.coolant f) s = .next (settle s (recallLookup 2 t g))))
    ∧ (∀ (f : Frame) (s : State) (x : Nat × SubEntry × SubEntry × Payload) (rate : Nat),
      accepted .engineFuel none f s = some x → x.2.2.2 = .engineFuel rate →
      let g := gradedBy x s
      let e := g.economy
      let interval := match e.fuelFrom with
        | none => 0
        | some t => min 1000 (s.now - t)
      let sum := rate * interval + e.residue
      let n := sum / 720000
      let idle := if e.state = .idling then n else 0
      let opened : DayRecord := { e.days.opened with
        fuel := min 99999999 (e.days.opened.fuel + n)
        idleFuel := if e.state = .idling then min 99999999 (e.days.opened.idleFuel + idle)
          else e.days.opened.idleFuel }
      let shift : ShiftTotals := { e.days.shift with
        fuel := min 99999999 (e.days.shift.fuel + n)
        idleFuel := if e.state = .idling then min 99999999 (e.days.shift.idleFuel + idle)
          else e.days.shift.idleFuel }
      exec (.engineFuel f) s = .next (settle s (setEconomy { e with
        fuelFrom := some s.now, residue := sum % 720000, lifetime := min 4294967295 (e.lifetime + n),
        days := { e.days with opened := opened, shift := shift } } g)))

/-- R71, R72, R77, R81 to R85, R92 to R95: PUMP and PILOT reach the work-cycle detector, and PILOT the economy
state; a pose update at the detector. That Travel abandons a cycle ahead of the detector's table is the model's choice
(log 51), and that it forms the guidance result afresh where no benchmark was held (log 78). -/
def Obligations.PumpAndPilotArrivals : Prop :=
  (∀ (f : Frame) (s : State) (x : Nat × SubEntry × SubEntry × Payload) (pressure : Nat),
      accepted .pump none f s = some x → x.2.2.2 = .pump pressure →
      let g := gradedBy x s
      exec (.pump f) s = .next (settle s
        (if g.guidance.detector = .idle ∧ digBegins g = true then
          setGuidance { g.guidance with detector := .digging, stageTimer := some (s.now + 20000),
                                        digAngle := some g.pose.pose.slewAngle } g
        else g)))
    ∧ (∀ (f : Frame) (s : State) (x : Nat × SubEntry × SubEntry × Payload) (m : MotionSet) (travel : Bool),
      accepted .pilot none f s = some x → x.2.2.2 = .pilot m travel →
      exec (.pilot f) s = .next (settle s (guidancePilot (economyPilot (gradedBy x s)))))
    ∧ (∀ s : State,
      let entered := fun (st : EconomyState) (wait resume : Option Nat) => setEconomy
        { s.economy with state := st, waitTimer := wait, shutdownTimer := none, resumeTimer := resume } s
      let waiting := some (s.now + 1000 * s.config.economy.idleWait)
      (pilotActive s = true → economyPilot s = match s.economy.state with
          | .idleWait => entered .working none none
          | .idling | .shutdownPending => entered .resuming none (some (s.now + 2000))
          | _ => s)
        ∧ (pilotActive s = false → economyPilot s = match s.economy.state with
          | .working => if s.intervention.list = [] then entered .idleWait waiting none
              else entered .held none none
          | .resuming => entered .idleWait waiting none
          | _ => s))
    ∧ (∀ (s : State) (m : MotionSet), payloadOf s .pilot = some (.pilot m true) →
      let g := s.guidance
      let stopped := if g.detector = .idle then g else
        { g with detector := .idle, digAngle := none, stageTimer := none, outcome := .abandoned }
      let lost := setGuidance { stopped with benchmark := none } s
      guidancePilot s = setGuidance { lost.guidance with result := guidanceResult lost } s
        ∧ (guidanceResult lost).tipError = none ∧ (guidanceResult lost).band = none
        ∧ (guidanceResult lost).reason = match s.pose.pose.quality with
            | .invalid => .poseInvalid
            | .degraded => .poseDegraded
            | .valid => .noBenchmark)
    ∧ (∀ (s : State) (m : MotionSet), payloadOf s .pilot = some (.pilot m false) →
      let g := s.guidance
      let dumps := m &&& 0x20#8 ≠ 0#8
      let stage := fun d : Detector => setGuidance { g with detector := d, stageTimer := some (s.now + 20000) } s
      let swung := ∃ a, g.digAngle = some a ∧ 5461 < (signedDiff s.pose.pose.slewAngle a).natAbs
      (g.detector = .idle → digBegins s = true → guidancePilot s = setGuidance
          { g with detector := .digging, stageTimer := some (s.now + 20000),
                   digAngle := some s.pose.pose.slewAngle } s)
        ∧ (g.detector = .idle → digBegins s = false → guidancePilot s = s)
        ∧ (g.detector = .digging ∨ g.detector = .returning → guidancePilot s = s)
        ∧ (g.detector = .swingLoaded → dumps → guidancePilot s = stage .dumping)
        ∧ (g.detector = .swingLoaded → ¬ dumps → guidancePilot s = s)
        ∧ (g.detector = .dumping → dumps → guidancePilot s = s)
        ∧ (g.detector = .dumping → ¬ dumps → swung → guidancePilot s = stage .returning)
        ∧ (g.detector = .dumping → ¬ dumps → ¬ swung → guidancePilot s = economyCycle (meterCycle
          (setGuidance { g with detector := .idle, digAngle := none, stageTimer := none,
                                outcome := .completed } s))))
    ∧ (∀ s : State,
      let u := scanAndForm s
      let g := u.guidance
      let swung := ∃ a, g.digAngle = some a ∧ 5461 < (signedDiff s.pose.pose.slewAngle a).natAbs
      (s.pose.pose.quality = .invalid → g.detector = .idle → guidancePose s = u)
        ∧ (s.pose.pose.quality = .invalid → g.detector ≠ .idle → guidancePose s = setGuidance
          { g with detector := .idle, digAngle := none, stageTimer := none, outcome := .abandoned } u)
        ∧ (s.pose.pose.quality ≠ .invalid →
          (g.detector = .digging → swung → guidancePose s = setGuidance
              { g with detector := .swingLoaded, stageTimer := some (s.now + 20000) } u)
            ∧ (g.detector = .digging → ¬ swung → guidancePose s = u)
            ∧ (g.detector = .returning → swung → guidancePose s = u)
            ∧ (g.detector = .returning → ¬ swung → guidancePose s = economyCycle (meterCycle (setGuidance
              { g with detector := .idle, digAngle := none, stageTimer := none, outcome := .completed } u)))
            ∧ (g.detector = .idle ∨ g.detector = .swingLoaded ∨ g.detector = .dumping → guidancePose s = u)))
    ∧ (∀ s : State, digBegins s = true ↔
      (∃ m, livePayload s .pilot = some (.pilot m false) ∧ m &&& 0x10#8 ≠ 0#8)
        ∧ (∃ p, livePayload s .pump = some (.pump p) ∧ s.config.digThreshold < p)
        ∧ s.pose.pose.quality ≠ .invalid)
    ∧ ∀ s : State,
      let counted := setMeterUnit { s.meter with
                                    meters := { s.meter.meters with cycles := s.meter.meters.cycles + 1 } } s
      (s.meter.keyOffTaken = true ∨ 999999999 ≤ s.meter.meters.cycles → meterCycle s = s)
        ∧ (s.meter.keyOffTaken = false → s.meter.meters.cycles < 999999999 →
          meterCycle s = if s.power = .running then serviceMeter 7 counted else counted)
        ∧ economyCycle s = setEconomy { s.economy with days := { s.economy.days with
            opened := { s.economy.days.opened with cycles := min 65535 (s.economy.days.opened.cycles + 1) } } } s

/-- R58: VALVE_CUT. -/
def Obligations.ValveCutConfirms : Prop :=
  ∀ (f : Frame) (s : State) (x : Nat × SubEntry × SubEntry × Payload) (echo : BitVec 8) (applied : MotionSet),
    accepted .valveCut none f s = some x → x.2.2.2 = .valveCut echo applied →
    let g := gradedBy x s
    let v := { g.intervention with list := g.intervention.list.map fun r =>
                if r.kind ≠ .limitSlow ∧ r.state = .raised ∧ r.blocked &&& applied = r.blocked then
                  { r with state := .confirmed } else r }
    let goes := fun u : InterventionUnit => exec (.valveCut f) s = .next (settle s (setIntervention u g))
    (v.supervision = .hold ∨ echo ≠ v.demandSeq → exec (.valveCut f) s = .next (settle s g))
      ∧ (v.supervision ≠ .hold → echo = v.demandSeq → v.cutSet &&& applied = v.cutSet →
        goes { v with confirmed := true, confirmTimer := none,
                      supervision := if v.supervision = .awaiting then .settled else v.supervision })
      ∧ (echo = v.demandSeq → v.cutSet &&& applied ≠ v.cutSet →
        (v.supervision = .settled →
            goes { v with confirmed := false, confirmTimer := some (s.now + 150), supervision := .awaiting })
          ∧ (v.supervision = .faulted → goes { v with confirmed := false })
          ∧ (v.supervision = .awaiting → goes v))

/-- R43, R44, R48, R54, R63: EXT_CUT is one event at the list, without effect in Hold; its effect on the list and the
record notices it makes; and the raise that gives 65,535, which enters Hold at once. That Hold's change of the cut set is
then the one change of the event, the confirmed flag as it stood, is the model's choice (log 50). -/
def Obligations.ExtCutClaims : Prop :=
  (∀ (st : Nat) (f : Frame) (s : State) (x : Nat × SubEntry × SubEntry × Payload) (m : MotionSet),
      accepted .extCut (some st) f s = some x → x.2.2.2 = .extCut m →
      exec (.extCut st f) s
        = .next (settle s (interventionEvent (Work.extCut x.2.1.config.station m) (gradedBy x s))))
    ∧ ∀ (st : Nat) (m : MotionSet) (s : State),
      let u := s.intervention
      let v := (Work.extCut st m ⟨s, []⟩).state.intervention
      let claimed : Record := ⟨u.lastSeq + 1, .externalStop, some st, .externalRequest, m, snapshotPose s,
        .raised, false, false, none, false⟩
      let told := (Work.extCut st m ⟨s, []⟩).notices
      let again := fun r : Record => { r with
        blocked := m, cause := .externalRequest
        state := if r.state = .clearable ∨ (r.state = .confirmed ∧ m &&& r.blocked ≠ m) then .raised else r.state }
      (m = 0#8 → v = { u with list := u.list.filter fun r => !r.ofStation st }
          ∧ told = (u.list.filter (Record.ofStation st)).map fun r => (r.seq, recordNoticeData r 4))
        ∧ (m ≠ 0#8 → u.list.any (Record.ofStation st) = true →
          v = { u with list := u.list.map fun r => if r.ofStation st then again r else r }
            ∧ told = (u.list.filter fun r => r.ofStation st && r.state == .clearable).map fun r =>
                (r.seq, recordNoticeData (again r) 0))
        ∧ (m ≠ 0#8 → u.list.any (Record.ofStation st) = false →
          (u.lastSeq < 65534 →
              v = { u with list := u.list ++ [claimed], lastSeq := u.lastSeq + 1 }
                ∧ told = [(claimed.seq, recordNoticeData claimed 0)])
            ∧ (u.lastSeq = 65534 → inHold s = false →
              v = { u with
                    list := (u.list ++ [claimed]).map fun r => { r with timerRuns := false }
                    lastSeq := 65535, slowSet := slowSetOf (u.list ++ [claimed]), cutSet := 0xFF#8
                    demandSeq := if u.cutSet = 0xFF#8 then u.demandSeq else u.demandSeq + 1
                    supervision := .hold, confirmTimer := none, holdAt := some s.now }
                ∧ told = [(claimed.seq, recordNoticeData claimed 0)])
            ∧ Work.extCut st m ⟨s, []⟩ = Work.raise .externalStop (some st) .externalRequest m ⟨s, []⟩)
        ∧ (inHold s = true → interventionEvent (Work.extCut st m) s = s)

/-- R116: TIME_SYNC. That ClockStep is reported after the clock has been adopted, so with the new time, is the
model's choice (log 46). -/
def Obligations.TimeSyncAdopted : Prop :=
  ∀ (f : Frame) (s : State) (x : Nat × SubEntry × SubEntry × Payload) (t : ClockTime) (e : SubEntry),
    accepted .timeSync none f s = some x → x.2.2.2 = .timeSync t →
    let g := gradedBy x s
    entryOf g .timeSync = some e →
    (dateExists t.date t.month t.year = false ∨ g.time.stopped = true ∨ e.state ≠ .fresh →
        exec (.timeSync f) s = .next (settle s g))
      ∧ (dateExists t.date t.month t.year = true → g.time.stopped = false → e.state = .fresh →
        (g.time.unsetCause ≠ none →
            exec (.timeSync f) s = .next (settle s (setClockTo t .timeSync g)))
          ∧ (g.time.unsetCause = none →
            exec (.timeSync f) s = .next (settle s
              (if ((secondNumber t : Int) - secondNumber g.time.clock).natAbs ≤ 120 then g
                else pulseFault .clockStep (.station e.config.station) (setClockTo t .timeSync g)))))

/-- R8, R49, R54, R62, R84, R91 to R93, R95, R158, R159, R166: a topic clash; the limits of an entry's age, which an age that has reached them has passed
by the model's choice (log 4); what an entry going Lost makes, by its role; the conditions that end when an entry
becomes Fresh, TopicLost before ValveSilent by the model's choice (log 60). -/
def Obligations.ClashesAndAges : Prop :=
  (∀ s : State,
    (∀ topic,
        ((publicationTopics s.bus.topics).contains topic = false →
            exec (.topicClash topic) s = .next (settle s s))
          ∧ ((publicationTopics s.bus.topics).contains topic = true →
            let told := pulseFault .topicClash (.topic topic) s
            (listening s = true → exec (.topicClash topic) s = .next (settle s (endStart true told)))
              ∧ (listening s = false → receiving s = true →
                exec (.topicClash topic) s = .next (settle s
                  (if s.power = .running ∧ s.bus.topics.cutDemand = some topic then enterHold told
                    else told)))))
      ∧ ∀ (i : Nat) (e : SubEntry), s.topics[i]? = some e → s.power = .running → e.config.role ≠ .request →
        (e.state = .fresh → e.config.staleLimit ≤ s.now - e.ageFrom →
            let u := setTopic i { e with state := .stale } s
            exec (.staleLimitPassed i) s
              = .next (settle s (if isPoseRole e.config.role then gradeOnly u else u)))
          ∧ (e.state = .never ∨ e.state = .recovering ∨ e.state = .stale →
            e.config.lostLimit ≤ s.now - e.ageFrom →
            exec (.lostLimitPassed i) s = .next (settle s (handLost e
              (report .topicLost (.topic e.config.topic) (setTopic i { e with state := .lost } s))))))
    ∧ (∀ (e : SubEntry) (s : State),
      let role := e.config.role
      let entered := fun (st : EconomyState) (resume : Option Nat) => setEconomy
        { s.economy with state := st, waitTimer := none, shutdownTimer := none, resumeTimer := resume } s
      (isPoseRole role = true → handLost e s =
          if (applyGrade s).pose.pose.quality = s.pose.pose.quality then applyGrade s
          else announcePose s.pose.pose.quality (applyGrade s))
        ∧ (role = .engineRun → handLost e s =
          if s.economy.state = .stopped ∨ s.economy.state = .forced then s else entered .stopped none)
        ∧ (role = .pilot → handLost e s =
          let g := s.guidance
          setGuidance (if g.detector = .idle then g else
              { g with detector := .idle, digAngle := none, stageTimer := none, outcome := .abandoned })
            (match s.economy.state with
              | .idleWait => entered .working none
              | .idling | .shutdownPending => entered .resuming (some (s.now + 2000))
              | _ => s))
        ∧ (role = .valveCut →
          let matters := (∃ l ∈ s.limits, l.config.action = .stop ∧ l.state ≠ .disabled)
            ∨ s.intervention.list ≠ []
          let v := s.intervention
          (v.supervision = .settled ∨ v.supervision = .awaiting → matters → handLost e s
              = report .valveSilent (valveStation s)
                (setIntervention { v with supervision := .faulted, confirmed := false } s))
            ∧ (v.supervision = .settled ∨ v.supervision = .awaiting → ¬ matters → handLost e s = s)
            ∧ (v.supervision = .faulted →
              handLost e s = report .valveSilent (valveStation s) (enterHold s))
            ∧ (v.supervision = .hold → handLost e s = s))
        ∧ (role = .extCut → handLost e s = interventionEvent (Work.extLost e.config.station) s
          ∧ (Work.extLost e.config.station ⟨s, []⟩).state.intervention.list
            = s.intervention.list.map (fun r =>
                if r.kind = .externalStop ∧ r.source = some e.config.station then
                  { r with
                    cause := .externalSilent
                    state := if r.state = .raised ∨ r.state = .confirmed then .clearable else r.state }
                else r)
          ∧ (Work.extLost e.config.station ⟨s, []⟩).notices
            = (s.intervention.list.filter fun r => r.ofStation e.config.station
                && (r.state == .raised || r.state == .confirmed)).map fun r =>
              (r.seq, recordNoticeData { r with cause := .externalSilent, state := .clearable } 2))
        ∧ (role ∈ [.engineFuel, .coolant, .pump, .timeSync] → handLost e s = s))
    ∧ ∀ (x : Nat × SubEntry × SubEntry × Payload) (s : State),
      let new := x.2.2.1
      let u := setTopic x.1 new s
      gradedBy x s = if new.state = .fresh ∧ x.2.1.state ≠ .fresh then
          (let v := endFault .topicLost (.topic new.config.topic) u
           if new.config.role = .valveCut then endFault .valveSilent (.station new.config.station) v else v)
        else u

/-! ## Timers, periods and the clock -/

/-- R9, R54, R60, R61, R68, R83, R92 to R94: the timers at their expiry. That PoseTimeout is reported before the
consumers take the pose update of a Degraded expiry is the model's choice (log 48). -/
def Obligations.TimersExpire : Prop :=
  (∀ s : State,
      (due s.now s.pose.degradedTimer = true →
          let invalid := { s.pose with pose := { s.pose.pose with quality := .invalid },
                                       degradedTimer := none, latch := true }
          exec .degradedTimerExpiry s = .next (settle s
            (announcePose s.pose.pose.quality (report .poseTimeout poseBlock (setPoseUnit invalid s)))))
        ∧ (due s.now s.intervention.confirmTimer = true → s.intervention.supervision = .awaiting →
          exec .confirmTimerExpiry s = .next (settle s (report .cutUnconfirmed (valveStation s)
            (setIntervention { s.intervention with supervision := .faulted, confirmTimer := none } s))))
        ∧ (due s.now s.intervention.confirmTimer = true → s.intervention.supervision = .faulted →
          exec .confirmTimerExpiry s
            = .next (settle s (report .cutUnconfirmed (valveStation s) (enterHold s))))
        ∧ (∀ n r, r ∈ s.intervention.list → r.seq = n → overrideDue s.now r = true →
          exec (.overrideTimerExpiry n) s = .next (settle s (interventionEvent (Work.overrideExpired n) s)))
        ∧ ∀ n, (Work.overrideExpired n ⟨s, []⟩).state.intervention.list
          = (s.intervention.list.filter fun r => !(r.seq == n && r.breachGone)).map (fun r =>
              if r.seq = n then { r with state := .raised, expiry := none, timerRuns := false } else r)
          ∧ (Work.overrideExpired n ⟨s, []⟩).notices
            = ((s.intervention.list.filter fun r => r.seq == n && r.breachGone).map fun r =>
                (r.seq, recordNoticeData r 4))
              ++ (s.intervention.list.filter fun r => r.seq == n && !r.breachGone).map fun r =>
                (r.seq, recordNoticeData { r with state := .raised, expiry := none, timerRuns := false } 0))
    ∧ (∀ s : State,
      let entered := fun (st : EconomyState) (shutdown : Option Nat) => .next (settle s (setEconomy
        { s.economy with state := st, waitTimer := none, shutdownTimer := shutdown, resumeTimer := none } s))
      (due s.now s.guidance.stageTimer = true → s.guidance.detector ≠ .idle →
          exec .stageTimerExpiry s = .next (settle s (setGuidance
            { s.guidance with detector := .idle, digAngle := none, stageTimer := none, outcome := .timedOut } s)))
        ∧ (due s.now s.economy.waitTimer = true → s.economy.state = .idleWait →
          exec .waitTimerExpiry s = entered .idling
            (if s.config.economy.autoShutdown = 0 then none
              else some (s.now + 1000 * s.config.economy.autoShutdown)))
        ∧ (due s.now s.economy.shutdownTimer = true → s.economy.state = .idling →
          exec .shutdownTimerExpiry s = entered .shutdownPending none)
        ∧ (due s.now s.economy.resumeTimer = true → s.economy.state = .resuming →
          exec .resumeTimerExpiry s = entered .working none))

/-- R56, R79, R101, R136, R171, R199: a period places a content and the next one follows after the period's length;
the bytes of the five contents. That a period command sent before its time changes nothing is the model's choice
(log 3). -/
def Obligations.PeriodsPlaceContents : Prop :=
  (∀ x ∈ [(CyclicPub.cutDemand, Instr.cutDemandPeriod, 50), (.guidance, .guidancePeriod, 100),
      (.engineReq, .engineReqPeriod, 100), (.meters, .metersPeriod, 1000), (.status, .statusPeriod, 200)],
    ∀ s : State,
      let p := x.1
      let c := s.bus.place p
      let due := (s.power = .running ∨ (s.power = .limp ∧ p = .status)) ∧ c.due ≤ s.now
      (due → exec x.2.1 s = .next (settle s { s with
          bus := s.bus.setPlace { c with
            due := c.due + x.2.2, lastNumber := c.lastNumber + 1,
            held := some ⟨c.lastNumber + 1, pubData s p⟩ } p }))
        ∧ (¬ due → exec x.2.1 s = .next (settle s s)))
    ∧ (∀ s : State,
      let u := s.intervention
      let mode := (modeInForce s).num
      let state := s.economy.state.num
      pubData s .cutDemand = [u.cutSet, u.slowSet, u.demandSeq]
        ∧ pubData s .engineReq = le 2 (speedRequest s) ++ le 2 (pumpLimit s)
          ++ [byte ((if stopFlag s then 1 else 0) + 2 * mode + 8 * state)]
        ∧ (stopFlag s = true ↔ s.economy.state = .shutdownPending))
    ∧ (∀ s : State,
      let g := s.guidance
      let p := s.pose.pose
      let band := match g.result.band with
        | none => 0
        | some .above => 1
        | some .onGrade => 2
        | some .below => 3
      let floor := match g.result.floor with
        | none => [255#8, 0#8, 0#8, 128#8, 0#8]
        | some f => [byte f.index] ++ le 3 f.clearance ++ [byte (f.state.num - 1 + if f.warning then 4 else 0)]
      let signed := fun v : Option Int => match v with
        | some n => le 2 n
        | none => [0#8, 128#8]
      pubData s .guidance = [byte (g.result.reason.num + 8 * band + if g.benchmark = none then 0 else 32)]
        ++ signed g.result.tipError ++ le 2 p.reach ++ le 2 p.tip ++ signed g.result.height
        ++ [indexByte g.result.segment] ++ le 2 p.updates.toNat ++ [byte (g.detector.num + 8 * g.outcome.num)]
        ++ floor ++ [0#8])
    ∧ (∀ s : State,
      let u := s.meter
      pubData s .meters
        = u.meters.times.flatMap (fun m => le 3 ((m.hours + 1048576 * (m.seconds / 360) : Nat) : Int))
          ++ le 4 u.meters.cycles ++ le 4 s.economy.lifetime ++ le 4 (u.lastCompleted.getD 0 : Nat)
          ++ [byte (u.job.num + 4 * u.pending.num)])
    ∧ ∀ s : State,
      let limp := match s.limpCause with
        | none => 0
        | some .imageBad => 1
        | some .strapFault => 2
        | some .topicClash => 3
      let owed := noticesOwed s
      pubData s .status = [
          byte ((if s.power = .limp then 1 else 0) + 2 * limp + 8 * s.intervention.supervision.num
            + 32 * s.pose.pose.quality.num + if s.service.derate then 128 else 0),
          byte (s.station + (if s.time.unsetCause = none then 32 else 0) + (if owed then 64 else 0)
            + if s.diag.unentered = [] then 0 else 128),
          s.intervention.demandSeq,
          byte (s.intervention.list.length + 32 * s.economy.state.num)]
        ++ le 2 s.pose.pose.updates.toNat
        ++ [byte ((modeInForce s).num + 4 * s.bus.busState.num + 16 * s.bus.busOffCount + 64 * s.diag.attention.num),
          byte (s.topics.filter fun e => e.config.role != .request && e.state != .fresh).length,
          byte s.bus.repliesDropped]
        ∧ (owed = true ↔ (∃ r ∈ s.intervention.list, r.owed = true) ∨ (∃ e ∈ s.limits, e.owed ≠ none)
          ∨ ∃ i, some i ∈ s.service.items ∧ i.owed ≠ none)

/-- R103 to R105, R109, R110, R112, R113, R119, R122, R123, R125, R130, R141, R143, R144, R146, R148, R152: a count
of the clock, a stopped and a restarted crystal; what a count announces, and what the Meter, Economy and Service
Units make of it. A count that is not due changes nothing (log 3, 5); the order of one consumer's announcements is
free (log 12); a rollover begins the day count of every item without a date (log 38); a periodic checkpoint comes
before the tenth-hours (log 58); OscillatorStop before ClockUnset (log 55), both stamped after the loss (log 68); at
one count the Meter, the Economy and then the Service Unit (log 67); the items of one evaluation in index order (log
69). -/
def Obligations.ClockCommands : Prop :=
  (∀ s : State, s.power ≠ .off →
      (s.time.stopped = false → s.time.length ≤ s.time.prescaler + s.time.carried →
          let t := nextSecond s.time.clock
          let counted := setTime { s.time with
                                    clock := t, prescaler := 0,
                                    carried := s.time.prescaler + s.time.carried - s.time.length,
                                    length := if t.second = 29 ∨ t.second = 59 then
                                      (32768 - s.time.trim).toNat else 32768 } s
          exec .clockCount s = .next (settle s (if awake s then announceCount counted else counted)))
        ∧ (s.time.prescaler + s.time.carried < s.time.length → exec .clockCount s = .next (settle s s))
        ∧ (s.time.stopped = true → exec .clockCount s = .next (settle s s)
          ∧ exec .oscillatorStop s = .next (settle s s))
        ∧ (s.time.stopped = false →
          let lost := setTime { s.time with
                                  clock := .origin, prescaler := 0, carried := 0, length := 32768,
                                  unsetCause := some .oscillatorStop, stopped := true,
                                  lastSet := ⟨.none, none, none⟩ } s
          exec .oscillatorStop s = .next (settle s
            (if awake s then
              (if s.time.unsetCause = none then
                report .clockUnset timeBlock (report .oscillatorStop timeBlock lost)
              else report .oscillatorStop timeBlock lost)
            else lost)))
        ∧ (s.time.stopped = true →
          let back := setTime { s.time with stopped := false } s
          exec .oscillatorRestart s = .next (settle s
            (if awake s ∨ s.power = .startUp then endFault .oscillatorStop timeBlock back else back)))
        ∧ (s.time.stopped = false → exec .oscillatorRestart s = .next (settle s s)))
    ∧ (∀ s : State,
      let t := s.time.clock
      let fired := firings s t
      (s.power ≠ .running → announceCount s = meterSecond s)
        ∧ (s.power = .running → announceCount s
          = takeAll serviceTakes (serviceAnnouncements t fired)
              (takeAll economyTakes (economyAnnouncements t fired) (meterSecond s)))
        ∧ (∀ i p, (i, p) ∈ fired ↔ s.time.unsetCause = none ∧ t.second = 0
          ∧ ∃ m, s.time.timeMatches[i]? = some m ∧ m.purpose = p ∧ m.enabled = true ∧ m.minute = t.minute
            ∧ m.hour = t.hour ∧ m.days.getLsbD t.dayOfWeek = true)
        ∧ (∀ a, a ∈ economyAnnouncements t fired ↔ a = .second
          ∨ (a = .rollover ∧ t.second = 0 ∧ t.minute = 0 ∧ t.hour = 0)
          ∨ (a = .shiftStart ∧ ∃ i, (i, .shiftStart) ∈ fired))
        ∧ (∀ a, a ∈ serviceAnnouncements t fired ↔ (a = .rollover ∧ t.second = 0 ∧ t.minute = 0 ∧ t.hour = 0)
          ∨ (a = .shiftStart ∧ ∃ i, (i, .shiftStart) ∈ fired)
          ∨ ∃ i, a = .reminder i ∧ (i, .reminderTime) ∈ fired)
        ∧ (fired.map Prod.fst).Nodup
        ∧ (let shifts := (fired.filter fun x => x.2 == .shiftStart).length
          let midnight := if t.second = 0 ∧ t.minute = 0 ∧ t.hour = 0 then 1 else 0
          (economyAnnouncements t fired).count .second = 1
            ∧ (economyAnnouncements t fired).count .rollover = midnight
            ∧ (economyAnnouncements t fired).count .shiftStart = shifts
            ∧ (serviceAnnouncements t fired).count .rollover = midnight
            ∧ (serviceAnnouncements t fired).count .shiftStart = shifts
            ∧ ∀ i, (i, .reminderTime) ∈ fired → (serviceAnnouncements t fired).count (.reminder i) = 1))
    ∧ (∀ (takes : State → Announcement → State) (l : List Announcement) (s : State),
      (l.length < 2 → takeAll takes l s = l.foldl takes s)
        ∧ (2 ≤ l.length → ∃ l' : List Announcement, l'.Perm l ∧ takeAll takes l s = useFree (l'.foldl takes s)))
    ∧ (∀ s : State,
      let days := s.economy.days
      let ring := days.ring ++ [days.opened]
      let date : Option Date := if s.time.unsetCause = none then some s.time.clock.day else none
      economyTakes s .rollover = wantDayJob (setEconomy { s.economy with days := { days with
          ring := ring.drop (ring.length - 14), opened := ⟨date, 0, 0, 0, 0, 0, false⟩ } } s)
        ∧ economyTakes s .shiftStart
          = setEconomy { s.economy with days := { days with shift := ⟨0, 0, 0⟩ } } s
        ∧ economyTakes s .second = (if engineRunning s then setEconomy { s.economy with days := { days with
              opened := { days.opened with engineSeconds := satAdd maxEngineSeconds days.opened.engineSeconds 1 }
              shift := { days.shift with engineSeconds := satAdd maxEngineSeconds days.shift.engineSeconds 1 } } } s
            else s)
        ∧ serviceTakes s .shiftStart = setService { s.service with
            items := s.service.items.map (Option.map fun i => { i with acknowledged := false }) } s)
    ∧ (∀ s : State,
      let each := fun (f : Nat → ServiceItem → State → State) (u : State) =>
        (List.range 24).foldl (fun v i => match v.service.items[i]? with
          | some (some item) => f i item v
          | _ => v) u
      let begins := fun (day : Date) (i : Nat) (item : ServiceItem) (u : State) =>
        if item.lastDate = none then wantServiceJob (setItem i { item with lastDate := some day } u) else u
      let judged := fun (day : Date) (i : Nat) (item : ServiceItem) (u : State) =>
        restand i item item.meterStanding (dayStandingOf item day) u
      let reminded := fun (k i : Nat) (item : ServiceItem) (u : State) =>
        if item.config.reminder = some k ∧ item.state ≠ .ok ∧ item.acknowledged = false then
          match u.bus.queueNotice (serviceNoticeData i item .reminder) none with
          | some b => setItem i { item with owed := none } { u with bus := b }
          | none => setItem i { item with owed := some .reminder } u
        else u
      let metered := fun (n i : Nat) (item : ServiceItem) (u : State) =>
        if item.config.basis = some n then
          restand i item (meterStandingOf item u.meter.meters) item.dayStanding u
        else u
      (s.time.unsetCause ≠ none → serviceTakes s .rollover = s)
        ∧ (s.time.unsetCause = none → serviceTakes s .rollover
          = each (judged s.time.clock.day) (each (begins s.time.clock.day) s))
        ∧ (∀ k, serviceTakes s (.reminder k) = each (reminded k) s)
        ∧ (∀ n, serviceMeter n s = each (metered n) s)
        ∧ wantServiceJob s = (if s.store.queue.any Job.isService then s
          else if s.store.queue.length < 6 then { s with
            store := { s.store with queue := s.store.queue ++ [.serviceState []] }
            service := { s.service with writePending := false } }
          else { s with service := { s.service with writePending := true } }))
    ∧ (∀ s : State, (s.meter.keyOffTaken = true → meterSecond s = s)
      ∧ (s.meter.keyOffTaken = false →
        let times := (indexed s.meter.meters.times).map fun x => if meterCondition s x.1 then x.2.advance else x.2
        let advanced := { s.meter with meters := { s.meter.meters with times := times } }
        let checked := if s.pins.keyOn = false then setMeterUnit advanced s
          else if s.meter.periodic < 359 then
            setMeterUnit { advanced with periodic := s.meter.periodic + 1 } s
          else wantCheckpoint (setMeterUnit { advanced with periodic := 0 } s)
        meterSecond s = (tenthHours s).foldl
          (fun u n => if u.power = .running then serviceMeter n u else u) checked)
      ∧ (tenthHours s).Pairwise (· < ·)
      ∧ ∀ n, n ∈ tenthHours s ↔ ∃ m, s.meter.meters.times[n]? = some m ∧ meterCondition s n = true
        ∧ m.advance ≠ m ∧ m.advance.seconds % 360 = 0)
    ∧ (∀ m : TimeMeter, (m.seconds < 3599 → m.advance = { m with seconds := m.seconds + 1 })
      ∧ (3599 ≤ m.seconds → m.hours < 999999 → m.advance = ⟨m.hours + 1, 0⟩)
      ∧ (3599 ≤ m.seconds → 999999 ≤ m.hours → m.advance = m))
    ∧ ∀ s : State,
      let pumps := fun t : Nat => ∃ p, livePayload s .pump = some (.pump p) ∧ t < p
      let run := s.power = .running
      (meterCondition s 0 = true ↔ run ∧ ∃ speed, livePayload s .engineRun = some (.engineRun true speed))
        ∧ (meterCondition s 1 = true ↔ run ∧ pumps s.config.workThreshold
          ∧ ∃ m travel, livePayload s .pilot = some (.pilot m travel) ∧ m ≠ 0#8)
        ∧ (meterCondition s 2 = true ↔ run ∧ s.economy.state = .idling)
        ∧ (meterCondition s 3 = true ↔ run ∧ pumps s.config.heavyThreshold)
        ∧ (meterCondition s 4 = true ↔ run
          ∧ ∃ angle rate, livePayload s .slewPos = some (.slewPos angle rate) ∧ 10 < rate.natAbs)
        ∧ (meterCondition s 5 = true ↔ run ∧ ∃ m, livePayload s .pilot = some (.pilot m true))
        ∧ (meterCondition s 6 = true ↔ s.pins.keyOn = true)

/-! ## Store, controller, supplies and starts -/

/-- R40, R106, R128, R131 to R134, R152, R187, R188: the end of a write, to whom its free place is offered, and the
beginning of the next, or none; what each kind of job writes, and how long; what a write leaves in the array, whose content
of a block that is not written stands; and what the end of a write answers and ends. The generation after the last
32-bit number is free (log 11). The model's choices: the requests on one job are answered in the order in which they
joined (log 59); SERVICE_DONE's reply shows the item as it stands then (log 64), its date in seven bytes (log 28) and its
last-done value in presence, four and two bytes (log 29); a limit request's shows a warning notice owed as its items,
with presence and clearance as in a READ (log 76), and the margin in two bytes (log 24); SET_GRADE's shows the place without operation code, a cleared
one as four absent words (log 73); which bytes of WRITE_IMAGE's hold a key is free (log 9), and its block number has
two bytes (log 24). -/
def Obligations.StoreWrites : Prop :=
  (∀ (s : State) (w : Writing), s.store.writing = some w → w.ends ≤ s.now →
      exec .storeWriteComplete s = .next (settle s (offerServiceJob (offerDayJob (offerPendingCheckpoint
        (jobCompleted w { s with
          freeCount := s.freeCount + 1
          store := { s.store.programmed w.content s.freeCount with writing := none } }))))))
    ∧ (∀ (s : State) (j : Job) (rest : List Job), s.store.writing = none → s.restart = none →
      s.store.queue = j :: rest →
      beginWrite s = { s with
        store := { s.store with queue := rest, writing := some ⟨j, jobContent j s, s.now + j.time⟩ }
        meter := if j = .checkpoint then { s.meter with job := .inFlight } else s.meter })
    ∧ (∀ s : State, s.store.writing ≠ none ∨ s.restart ≠ none ∨ s.store.queue = [] → beginWrite s = s)
    ∧ (∀ (s : State) (t : Ticket), stillWaits s t = true ↔ ∃ j ∈ s.store.queue, ∃ l : List Ticket, t ∈ l
      ∧ (j = .gradeProfile l ∨ j = .limitArea l ∨ j = .history l ∨ j = .serviceState l
        ∨ ∃ b w, j = .imageBlock b w t))
    ∧ (∀ (code : Byte) (i : Nat) (e : LimitEntry),
      let c := e.config
      let scope := match c.scope with
        | some x => 1#8 :: (le 2 x.start.toNat ++ le 2 x.stop.toNat)
        | none => List.replicate 5 0#8
      let cause := match e.cause with
        | some x => [1#8, byte x.num]
        | none => [0#8, 0#8]
      let owed := match e.owed with
        | some n => [1#8, byte n.index, byte n.kind.num, byte n.event.num] ++ le 3 n.clearance ++ le 2 n.updates.toNat
        | none => List.replicate 9 0#8
      let last := match e.last with
        | some x => le 3 x
        | none => [0#8, 0#8, 0x80#8]
      (code = 7#8 → limitReply code i e = [byte i, byte c.kind.num] ++ le 2 c.value ++ [byte e.state.num])
        ∧ (code = 8#8 → limitReply code i e
          = [byte i, byte c.kind.num] ++ le 2 c.value ++ le 2 c.margin ++ [byte c.action.num, c.guarded] ++ scope
            ++ [byte c.owner.num, byte c.latch.num, byte e.state.num, if e.warning then 1#8 else 0#8]
            ++ last ++ cause ++ owed)
        ∧ (code ≠ 7#8 → code ≠ 8#8 → limitReply code i e = [byte i, byte e.state.num]))
    ∧ (∀ (s : State) (b : Nat) (w : BitVec 32) (t : Ticket) (l : List Ticket),
      jobContent (.imageBlock b w t) s = .imageBlock b w
        ∧ (∀ c, s.meter.snapshot = some c → jobContent .checkpoint s = .checkpoint c)
        ∧ jobContent (.gradeProfile l) s = .gradeProfile s.guidance.profile
        ∧ jobContent (.limitArea l) s
          = .limitArea (s.limits.map fun e => ⟨e.config, decide (e.state ≠ .disabled)⟩)
        ∧ jobContent (.history l) s = .history s.service.history
        ∧ jobContent (.serviceState l) s = .serviceState (s.service.items.map (Option.map fun i =>
          ⟨i.config.code, i.config.basis, i.lastMeter, i.lastDate, i.meterStanding, i.dayStanding⟩))
        ∧ jobContent .dayRecords s = .dayRecords s.economy.days
        ∧ (Job.imageBlock b w t).time = 4 ∧ Job.checkpoint.time = 8 ∧ (Job.gradeProfile l).time = 8
        ∧ (Job.limitArea l).time = 16 ∧ (Job.history l).time = 16 ∧ (Job.serviceState l).time = 24
        ∧ Job.dayRecords.time = 24)
    ∧ (∀ s : State,
      let u := s.meter
      let q := s.store.queue
      let queued := fun (q : List Job) => { s with
        store := { s.store with queue := q }
        meter := { u with
          sequence := u.sequence + 1, job := .queued, pending := .clear
          waiters := u.waiters.map fun w => { w with onPending := false }
          snapshot := some ⟨u.sequence + 1, u.meters, s.economy.lifetime⟩ } }
      (u.job ≠ .none ∨ u.pending = .clear → offerPendingCheckpoint s = s)
        ∧ (u.job = .none → u.pending ≠ .clear → 4294967295 ≤ u.sequence →
          offerPendingCheckpoint s = exhaustCheckpoints s)
        ∧ (u.job = .none → u.pending = .set → u.sequence < 4294967295 →
          offerPendingCheckpoint s = if q.length < 6 then queued (q ++ [.checkpoint]) else s)
        ∧ (u.job = .none → u.pending = .setUrgent → u.sequence < 4294967295 →
          offerPendingCheckpoint s = queued (.checkpoint :: q))
        ∧ offerDayJob s = (if s.economy.writePending = true ∧ q.length < 6 then wantDayJob s else s)
        ∧ offerServiceJob s = (if s.service.writePending = true ∧ q.length < 6 then wantServiceJob s else s))
    ∧ (∀ (p : ParameterStore) (free : Nat),
      (∀ b w, p.programmed (.imageBlock b w) free = if p.staging then { p with image1 := p.image1.write b w }
          else { p with image0 := p.image0.write b w })
        ∧ (∀ x, p.programmed (.checkpoint x) free = { p with slots := p.slots.set (x.sequence % 8) ⟨true, x⟩ })
        ∧ (∀ x, p.programmed (.gradeProfile x) free = { p with grade := p.grade.write profileOk x free })
        ∧ (∀ x, p.programmed (.limitArea x) free = { p with limits := p.limits.write limitsOk x free })
        ∧ (∀ x, p.programmed (.history x) free = { p with history := p.history.write historyOk x free })
        ∧ (∀ x, p.programmed (.serviceState x) free = { p with service := p.service.write serviceAreaOk x free })
        ∧ (∀ x, p.programmed (.dayRecords x) free = { p with days := p.days.write dayAreaOk x free }))
    ∧ (∀ (i : ImageCopy) (b c : Nat) (w : BitVec 32), blocksWf i.blocks = true →
      getBlock c (i.write b w).blocks = if c = b then w else getBlock c i.blocks)
    ∧ (∀ (α : Type) (ok : α → Bool) (a : Area α) (x : α) (free : Nat),
      let valid := fun c : Copy α => c.checksumOk = true ∧ ok c.content = true
      let next := fun g : Nat => if g < 4294967295 then g + 1 else (Config.generationAfterLast free).toNat
      (¬ valid a.copy0 → ¬ valid a.copy1 → a.write ok x free = { a with copy0 := ⟨true, 1, x⟩ })
        ∧ (valid a.copy0 → (valid a.copy1 → a.copy1.generation ≤ a.copy0.generation) →
          a.write ok x free = { a with copy1 := ⟨true, next a.copy0.generation, x⟩ })
        ∧ (valid a.copy1 → (valid a.copy0 → a.copy0.generation < a.copy1.generation) →
          a.write ok x free = { a with copy0 := ⟨true, next a.copy1.generation, x⟩ }))
    ∧ ∀ (s : State) (ends : Nat) (content : Content),
      let served := fun (l : List Ticket) =>
        l.foldl (fun u t => if stillWaits u t then u else answerService t u) s
      (∀ b w t, jobCompleted ⟨.imageBlock b w t, content, ends⟩ s
          = finishRequest t .done (le 2 b ++ shownBytes b w) s)
        ∧ (∀ c, let answered := s.meter.waiters.filter fun w => !w.onPending
          jobCompleted ⟨.checkpoint, .checkpoint c, ends⟩ s = endFault .meterLoss meterBlock
            (answerWaiters answered (setMeterUnit { s.meter with
              lastCompleted := some c.sequence, waiters := s.meter.waiters.filter (·.onPending),
              job := .none, snapshot := none } s)))
        ∧ (∀ l, jobCompleted ⟨.gradeProfile l, content, ends⟩ s = endFault .gradeAreaLost guidanceBlock
          (l.foldl (fun u t => finishRequest t .done
            (byte t.index :: placeBytes (u.guidance.profile[t.index]?).join) u) s))
        ∧ (∀ l, jobCompleted ⟨.limitArea l, content, ends⟩ s
          = endFault .limitAreaLost envelopeBlock (l.foldl (fun u t => answerLimit t u) s))
        ∧ (∀ l, jobCompleted ⟨.history l, content, ends⟩ s = endFault .historyAreaLost serviceBlock (served l))
        ∧ (∀ l, jobCompleted ⟨.serviceState l, content, ends⟩ s
          = endFault .serviceAreaLost serviceBlock (served l))
        ∧ jobCompleted ⟨.dayRecords, content, ends⟩ s = endFault .dayAreaLost economyBlock s
        ∧ (∀ t e, s.limits[t.index]? = some e →
          answerLimit t s = finishRequest t .done (limitReply t.code t.index e) s)
        ∧ (∀ t item, s.service.items[t.index]? = some (some item) →
          answerService t s = finishRequest t .done ([byte t.index] ++ lastMeterBytes item.lastMeter
            ++ dateBytes item.lastDate ++ [byte item.state.num]) s)

/-- R54, R145, R160 to R165, R186, R196: the controller's frame transmitted, or given back to the choice with the frames
of its series already sent; what that leaves of its place or
its ring frame, and to whom a freed place is offered; bus-off and recovery. That a BUS_OFF needs a count above 255 is
the model's choice (log 36). -/
def Obligations.ControllerEvents : Prop :=
  (∀ s : State,
    let counted := { s with bus := { s.bus with txErrors := s.bus.txErrors - 1 } }
    let b := s.bus.release
    (∀ p, s.bus.controller = some (.cyclic p) →
        exec .frameTransmitted s = .next (settle s (sentCyclic p counted)))
      ∧ (∀ id f, s.bus.controller = some (.ring id) → s.bus.ring.find? (·.id == id) = some f →
        exec .frameTransmitted s = .next (settle s (sentRing f counted)))
      ∧ (∀ h error, s.bus.controller = some h →
        exec (.transmitAttemptFailed error) s = .next (settle s
          { s with bus := { b with txErrors := s.bus.txErrors + if error then 8 else 0 } }))
      ∧ (awake s = true → s.bus.busState = .online → 255 < s.bus.txErrors → s.bus.busOffCount < 2 →
        exec .busOff s = .next (settle s (report .busOff biuBlock
          { s with bus := { b with busState := .busOff, busOffCount := s.bus.busOffCount + 1 } })))
      ∧ (awake s = true → s.bus.busState = .online → 255 < s.bus.txErrors → 2 ≤ s.bus.busOffCount →
        let silent := report .busSilent biuBlock
          { s with bus := { b with busState := .silent, busOffCount := 3 } }
        exec .busOff s = .next (settle s (if s.power = .running then enterHold silent else silent)))
      ∧ (awake s = true → s.bus.busState = .busOff →
        exec .busRecovery s = .next (settle s (endFault .busOff biuBlock
          { s with bus := { s.bus with busState := .online, txErrors := 0 } }))))
    ∧ (∀ b : Biu,
      (∀ p, b.controller = some (.cyclic p) →
        let c := b.place p
        b.release = { b.setPlace (if c.framesSent = 0 then { c with sending := none } else c) p with
          controller := none })
      ∧ ((∀ p, b.controller ≠ some (.cyclic p)) → b.release = { b with controller := none }))
    ∧ (∀ (p : CyclicPub) (s : State) (m : Placed), (s.bus.place p).sending = some m →
      let c := s.bus.place p
      let ended := frameCount m.data ≤ c.framesSent + 1
      let sent := if ended then { c with
            held := match c.held with
              | some h => if h.number = m.number then none else some h
              | none => none
            sending := none, framesSent := 0, counter := c.counter + 1 }
          else { c with framesSent := c.framesSent + 1, counter := c.counter + 1 }
      let freed := s.bus.ring.map fun f => match f.fence with
        | some n => if n ≤ m.number then { f with fence := none } else f
        | none => f
      sentCyclic p s = { s with bus := { s.bus.setPlace sent p with
          controller := none, ring := if p = .cutDemand ∧ ended then freed else s.bus.ring } })
    ∧ (∀ (f : RingFrame) (s : State),
      let b := { s.bus with
        controller := none
        replyCounter := if f.reply then s.bus.replyCounter + 1 else s.bus.replyCounter
        noticeCounter := if f.reply then s.bus.noticeCounter else s.bus.noticeCounter + 1 }
      (f.framesSent + 1 < frameCount f.data → sentRing f s = { s with bus := { b with
          ring := s.bus.ring.map fun g => if g.id = f.id then { g with framesSent := g.framesSent + 1 } else g } })
        ∧ (frameCount f.data ≤ f.framesSent + 1 → sentRing f s = offerOwed { s with
          bus := { b with ring := s.bus.ring.filter (·.id != f.id) }
          restart := s.restart.map fun w => if w.replyIds.contains f.id then { w with replySent := true } else w }))
    ∧ ∀ s : State, (s.power ≠ .running ∨ 8 ≤ s.bus.ring.length → offerOwed s = s)
      ∧ (s.power = .running → s.bus.ring.length < 8 →
        let join := fun (data : List Byte) (fence : Option Nat) => { s.bus with
          ring := s.bus.ring ++ [⟨s.bus.nextId, false, data, fence, 0⟩], nextId := s.bus.nextId + 1 }
        (∀ r, s.intervention.list.find? (·.owed) = some r → offerOwed s = { s with
            bus := join (recordNoticeData r r.state.num) (s.bus.cutDemand.held.map (·.number))
            intervention := { s.intervention with list := s.intervention.list.map fun x =>
              if x.seq = r.seq then { x with owed := false } else x } })
          ∧ (s.intervention.list.all (fun r => !r.owed) = true →
            (∀ i e n, s.limits[i]? = some e → e.owed = some n →
              (∀ j < i, ∀ d, s.limits[j]? = some d → d.owed = none) → offerOwed s = { s with
                bus := join (warnNoticeData n) none
                limits := s.limits.set i { e with owed := none } })
              ∧ (s.limits.all (fun e => e.owed.isNone) = true → ∀ i item k,
                s.service.items[i]? = some (some item) → item.owed = some k →
                (∀ j < i, ∀ d, s.service.items[j]? = some (some d) → d.owed = none) →
                offerOwed s = setItem i { item with owed := none }
                  { s with bus := join (serviceNoticeData i item k) none })))

/-- R108, R128, R130 to R134, R181, R182, R185, R186, R189: the supplies and the key, what a key-off and a supply
drop make of the checkpoint and the day-record area, what the sleep states give up, and what a write that is cut off
can touch: its own copy, slot or staging copy, and no other. The model's choices: waiters are answered in the order
in which they joined (log 59); KEY_ON starts from Keep-alive whatever level KEYON had, and MAIN_SUPPLY_LOSS stays in
Keep-alive (log 42); BATTERY_CONNECT and KEY_ON carry the lines (log 40); what a write that is cut off leaves is
free (log 10); an exhausted counter (log 43); a queued day-record job carries a later want of R106, and a want that
queues one clears write-pending (log 39); at key-off the checkpoint is wanted before the day-record job (log 63). -/
def Obligations.SuppliesAndKey : Prop :=
  (∀ (s : State) (straps : BitVec 5),
    (∀ keyOn, s.power = .off →
        let u := { s with
          power := .keepAlive, time := .atBatteryConnect
          pins := { s.pins with keyOn := keyOn, straps := straps } }
        exec (.batteryConnect keyOn straps) s = .next (settle s (if keyOn then beginStart u else u)))
      ∧ (s.power ≠ .off → exec .keepAliveSupplyLoss s
        = .next (settle s { giveUp (cutOffStore s) with power := .off, time := .atBatteryConnect }))
      ∧ (awake s = true ∨ s.power = .startUp → exec .mainSupplyLoss s
        = .next (settle s { giveUp (cutOffStore s) with power := .keepAlive }))
      ∧ (let u := { s with pins := { s.pins with keyOn := true, straps := straps } }
        exec (.keyOn straps) s = .next (settle s (if s.power = .keepAlive then beginStart u else u)))
      ∧ (let u := { s with pins := { s.pins with keyOn := false } }
        (awake s = true → s.meter.keyOffTaken = false →
            exec .keyOff s = .next (settle s (takeKeyOff u)))
          ∧ (s.power = .startUp → exec .keyOff s = .next (settle s { u with keyOffHeld := true }))
          ∧ (s.power = .off ∨ s.power = .keepAlive ∨ (awake s = true ∧ s.meter.keyOffTaken = true) →
            exec .keyOff s = .next (settle s u)))
      ∧ (s.power ≠ .off → s.detectorArmed = true → exec .supplyDrop s = .next (settle s
        (if awake s then urgentCheckpoint { s with detectorArmed := false }
          else { s with detectorArmed := false })))
      ∧ (s.power ≠ .off → exec .detectorRearm s = .next (settle s { s with detectorArmed := true })))
    ∧ (∀ s : State, giveUp s = { s with
        limpCause := none, pins := { s.pins with cutout := false }, keyOffHeld := false, listenEnds := none
        restart := none, config := .blank, imageGood := false, topics := [], bus := .atStart, pose := .atStart
        limits := [], intervention := .atStart, guidance := .atStart, economy := .atStart
        time := { s.time with timeMatches := [] }, meter := .atStart, service := .atStart, diag := .empty
        store := { s.store with queue := [], writing := none }, access := List.replicate 4 .empty })
    ∧ (∀ s : State,
      (s.store.writing = none → cutOffStore s = { s with store := { s.store with queue := [] } })
        ∧ ∀ w, s.store.writing = some w → cutOffStore s = { s with
          freeCount := s.freeCount + 1
          store := { s.store.spoiled w.content s.freeCount with queue := [], writing := none } })
    ∧ (∀ (p : ParameterStore) (free : Nat),
      (∀ b w, p.spoiled (.imageBlock b w) free = if p.staging then { p with image1 := p.image1.cutOff b free }
          else { p with image0 := p.image0.cutOff b free })
        ∧ (∀ x y, p.slots[x.sequence % 8]? = some y →
          p.spoiled (.checkpoint x) free = if Config.cutOffKeepsOld free then p
            else { p with slots := p.slots.set (x.sequence % 8) { y with checksumOk := false } })
        ∧ (∀ x, p.spoiled (.gradeProfile x) free = { p with grade := p.grade.cutOff profileOk free })
        ∧ (∀ x, p.spoiled (.limitArea x) free = { p with limits := p.limits.cutOff limitsOk free })
        ∧ (∀ x, p.spoiled (.history x) free = { p with history := p.history.cutOff historyOk free })
        ∧ (∀ x, p.spoiled (.serviceState x) free = { p with service := p.service.cutOff serviceAreaOk free })
        ∧ (∀ x, p.spoiled (.dayRecords x) free = { p with days := p.days.cutOff dayAreaOk free }))
    ∧ (∀ (i : ImageCopy) (b free : Nat), (i.cutOff b free).view.checksumOk = false
      ∧ (blocksWf i.blocks = true → ∀ c : Nat, getBlock c (i.cutOff b free).blocks
        = if c = b then Config.cutOffBlock free else getBlock c i.blocks))
    ∧ (∀ (α : Type) (ok : α → Bool) (a : Area α) (free : Nat),
      let valid := fun c : Copy α => c.checksumOk = true ∧ ok c.content = true
      let spoiled0 := { a with copy0 := { a.copy0 with checksumOk := false } }
      let spoiled1 := { a with copy1 := { a.copy1 with checksumOk := false } }
      let old : Bool := Config.cutOffKeepsOld free
      (¬ valid a.copy0 → ¬ valid a.copy1 → a.cutOff ok free = if old then a else spoiled0)
        ∧ (valid a.copy0 → (valid a.copy1 → a.copy1.generation ≤ a.copy0.generation) →
          a.cutOff ok free = if old then a else spoiled1)
        ∧ (valid a.copy1 → (valid a.copy0 → a.copy0.generation < a.copy1.generation) →
          a.cutOff ok free = if old then a else spoiled0))
    ∧ (∀ (s : State) (w : Waiter) (l : List Waiter) (m : Meters) (n : Nat),
      answerWaiters [] s = s
        ∧ answerWaiters (w :: l) s = answerWaiters l
          (finishRequest w.ticket .done (setMeterReply s.meter.meters w.ticket.index) s)
        ∧ (∀ h sec, m.value n = some (.time h sec) → setMeterReply m n = [byte n] ++ le 4 h ++ le 2 sec)
        ∧ (∀ c, m.value n = some (.count c) → setMeterReply m n = [byte n] ++ le 4 c))
    ∧ ∀ s : State,
      let u := s.meter
      let exhausted := report .checkpointExhausted meterBlock
        (answerWaiters u.waiters (setMeterUnit { u with pending := .clear, waiters := [] } s))
      let queued := fun (q : List Job) (waiters : List Waiter) (pending : PendingMark) => { s with
        store := { s.store with queue := q }
        meter := { u with
          sequence := u.sequence + 1, job := .queued, waiters := waiters, pending := pending
          snapshot := some ⟨u.sequence + 1, u.meters, s.economy.lifetime⟩ } }
      let carriedOver := u.waiters.map fun w => { w with onPending := false }
      (takeKeyOff s =
          let final := wantCheckpoint (setMeterUnit { u with keyOffTaken := true } s)
          if s.power = .running then wantDayJob final else final)
        ∧ (4294967295 ≤ u.sequence → wantCheckpoint s = exhausted)
        ∧ (u.sequence < 4294967295 →
          (u.job = .none → s.store.queue.length < 6 →
              wantCheckpoint s = queued (s.store.queue ++ [.checkpoint]) u.waiters u.pending)
            ∧ (u.job = .none → 6 ≤ s.store.queue.length →
              wantCheckpoint s = setMeterUnit { u with pending := .set } s)
            ∧ (u.job ≠ .none → wantCheckpoint s = setMeterUnit { u with
              pending := if u.pending = .setUrgent then .setUrgent else .set } s)
            ∧ (u.job = .none →
              urgentCheckpoint s = queued (.checkpoint :: s.store.queue) carriedOver .clear)
            ∧ (u.job = .inFlight → urgentCheckpoint s = setMeterUnit { u with pending := .setUrgent } s))
        ∧ (4294967295 ≤ u.sequence → u.job ≠ .queued → urgentCheckpoint s = exhausted)
        ∧ (u.job = .queued → urgentCheckpoint s = { s with
          store := { s.store with queue := .checkpoint :: eraseFirst Job.isCheckpoint s.store.queue }
          meter := { u with
            waiters := carriedOver, pending := .clear
            snapshot := u.snapshot.map fun c => ⟨c.sequence, u.meters, s.economy.lifetime⟩ } })
        ∧ wantDayJob s = (if s.store.queue.any Job.isDays then s
          else if s.store.queue.length < 6 then { s with
            store := { s.store with queue := s.store.queue ++ [.dayRecords] }
            economy := { s.economy with writePending := false } }
          else { s with economy := { s.economy with writePending := true } })

/-- R157, R164, R183 to R187: SHUTDOWN_COMPLETE, RESTART_BEGIN and LISTEN_END, when a shutdown is done and a RESTART
due, and what the end of a start leaves. The model's choices: SHUTDOWN_COMPLETE and RESTART_BEGIN settle against a
state in Start-up, through which the start that they make passes (log 23); a listen that is not over changes nothing
(log 3); a held key-off, or KEYON found deasserted, is taken at the end of the start (log 21); every first period
falls one period later (log 22); the area read in Limp with a bad image (log 35). -/
def Obligations.ShutdownAndStarts : Prop :=
  (∀ s : State,
    (shutdownDone s = true →
        let asleep := { giveUp s with power := .keepAlive }
        exec .shutdownComplete s = .next (settle { s with power := .startUp }
          (if s.pins.keyOn then beginStart asleep else asleep)))
      ∧ (restartDue s = true →
        exec .restartBegin s = .next (settle { s with power := .startUp } (beginStart s)))
      ∧ (s.power = .startUp → due s.now s.listenEnds = true →
        exec .listenEnd s = .next (settle s (endStart false s)))
      ∧ (s.power ≠ .startUp ∨ due s.now s.listenEnds = false →
        exec .listenEnd s = .next (settle s s))
      ∧ (shutdownDone s = true ↔ (s.power = .running ∨ s.power = .limp) ∧ s.meter.keyOffTaken = true
        ∧ s.store.queue = [] ∧ s.store.writing = none ∧ s.meter.job = .none ∧ s.meter.pending = .clear
        ∧ s.economy.writePending = false ∧ s.service.writePending = false)
      ∧ (restartDue s = true ↔ (s.power = .running ∨ s.power = .limp) ∧ s.store.writing = none
        ∧ ∃ w, s.restart = some w ∧ (w.replySent = true ∨ w.deadline ≤ s.now)))
    ∧ (∀ (clash : Bool) (s : State),
      let begun := { s with
        listenEnds := none
        bus := { s.bus with
          cutDemand := { s.bus.cutDemand with due := s.now + 50 }
          guidance := { s.bus.guidance with due := s.now + 100 }
          engineReq := { s.bus.engineReq with due := s.now + 100 }
          meters := { s.bus.meters with due := s.now + 1000 }
          status := { s.bus.status with due := s.now + 200 } } }
      let running := Nat.iterate offerOwed 8 { begun with
        power := .running, topics := s.topics.map fun e => { e with ageFrom := s.now } }
      let limp := fun cut : Bool => { begun with
        power := .limp
        limpCause := some (if s.imageGood = false then .imageBad
          else if s.station = 0 then .strapFault else .topicClash)
        pins := { s.pins with cutout := cut } }
      let ends := fun u : State =>
        (s.keyOffHeld = true ∨ s.pins.keyOn = false → endStart clash s = takeKeyOff { u with keyOffHeld := false })
          ∧ (s.keyOffHeld = false → s.pins.keyOn = true → endStart clash s = u)
      (s.imageGood = true → s.station ≠ 0 → clash = false → ends running)
        ∧ (s.imageGood = true → s.station = 0 ∨ clash = true → ∀ cut : Bool,
          (cut = true ↔ ∀ e ∈ s.limits,
            ¬ (e.state ≠ .disabled ∧ e.config.action = .stop ∧ e.config.owner = .technician)) →
          ends (limp cut))
        ∧ (s.imageGood = false → ∀ cut : Bool,
          (cut = true ↔ ∃ l, s.store.limits.restored limitsOk = some l ∧ ∀ e ∈ l,
            ¬ (e.enabled = true ∧ e.config.action = .stop ∧ e.config.owner = .technician)) →
          ends (limp cut)))
    ∧ ∀ (α : Type) (ok : α → Bool) (a : Area α),
      let valid := fun c : Copy α => c.checksumOk = true ∧ ok c.content = true
      (¬ valid a.copy0 → ¬ valid a.copy1 → a.restored ok = none)
        ∧ (valid a.copy0 → (valid a.copy1 → a.copy1.generation ≤ a.copy0.generation) →
          a.restored ok = some a.copy0.content)
        ∧ (valid a.copy1 → (valid a.copy0 → a.copy0.generation < a.copy1.generation) →
          a.restored ok = some a.copy1.content)

/-- R6, R12, R13, R42, R43, R57, R64, R70, R75, R86, R90, R107, R110, R112, R118, R135, R138, R153, R154, R156,
R160, R175, R183, R184, R187, R191, R192: what a start leaves, whether it listens or goes to Limp, and CUTOUT in
Limp; which image is in force, when it is good, and what is built from it, a copy of wrong checksum passed over for the
other by the model's choice, with R190's Notes and against its Caution (log 74); what the start restores from the store,
the jobs that it queues and the faults that it reports. How the blocks of a copy read as an image is free (log 8);
both service areas lost are reported, and their jobs queued, service state first by the model's choice (log 70). The
model's choices with a bad image: Unused descriptors (log 33), the area read for CUTOUT (log 35), a blank day-record
area (log 54) and a cleared grade profile (log 61); and the lifetime fuel is compared with the open record that the
restore leaves (log 53), OscillatorStop reported before ClockUnset (log 55). -/
def Obligations.StartLeaves : Prop :=
  (∀ s : State,
    let t := beginStart s
    t.station = s.pins.straps.toNat ∧ t.now = s.now ∧ t.pending = s.pending ∧ t.restart = none
      ∧ t.intervention = .atStart ∧ t.pose.pose = PoseUnit.atStart.pose ∧ t.economy.state = .stopped
      ∧ t.guidance.detector = .idle ∧ t.guidance.benchmark = none
      ∧ t.access = List.replicate 4 .empty ∧ t.detectorArmed = true
      ∧ t.time.clock = s.time.clock ∧ t.time.unsetCause = s.time.unsetCause
      ∧ t.pose.descriptors = (if t.imageGood = true then t.config.descriptors.map fun c =>
            ⟨c, true, c.fixedValue, none, false⟩
          else List.replicate 6 ⟨.unused, true, 0, none, false⟩)
      ∧ (t.imageGood = true ∧ t.station ≠ 0 →
        t.power = .startUp ∧ t.listenEnds = some (s.now + 500) ∧ t.pins.cutout = false)
      ∧ (¬ (t.imageGood = true ∧ t.station ≠ 0) → t.power = .limp ∧ t.listenEnds = none
        ∧ t.limpCause = some (if t.imageGood then .strapFault else .imageBad)
        ∧ (t.pins.cutout = true ↔ if t.imageGood = true then ∀ e ∈ t.limits,
              ¬ (e.state ≠ .disabled ∧ e.config.action = .stop ∧ e.config.owner = .technician)
            else ∃ l, s.store.limits.restored limitsOk = some l ∧ ∀ e ∈ l,
              ¬ (e.enabled = true ∧ e.config.action = .stop ∧ e.config.owner = .technician)))
      ∧ (let view := fun one : Bool => (if one then s.store.image1 else s.store.image0).view
        let valid := fun v : ImageView => 16 ≤ v.length ∧ v.length ≤ 2048 ∧ v.format = 1 ∧ v.checksumOk = true
        let inForce := fun one : Bool => valid (view one) ∧ (valid (view !one) →
          if one then (view false).generation < (view true).generation
          else (view true).generation ≤ (view false).generation)
        (t.imageGood = true ↔ ∃ one f, inForce one ∧ (view one).fields = some f ∧ imageOk t.station f = true)
          ∧ (∀ one, inForce one → t.store.staging = !one)
          ∧ (¬ valid (view false) → ¬ valid (view true) → t.store.staging = false)
          ∧ (∀ one f, inForce one → (view one).fields = some f → imageOk t.station f = true →
            t.config = f ∧ t.bus.topics = f.pubs
              ∧ t.topics.map (·.config) = f.subs
              ∧ (∀ e ∈ t.topics, e.payload = none ∧ e.counter = none ∧ e.state = .never ∧ e.run = 0 ∧ e.gaps = 0
                ∧ e.inFlight = none ∧ e.stored = none ∧ e.assembly = none)
              ∧ t.time = { s.time with
                  timeMatches := f.timeMatches, trimLoaded := true
                  trim := if s.time.trimLoaded then s.time.trim else f.initialTrim })
          ∧ (t.imageGood = false → t.config = .blank
            ∧ t.topics = [⟨⟨1984 + t.station, 31, .request, 0, 0⟩, none, none, 0, .never, 0, 0, none, none, none⟩]
            ∧ t.bus.topics = ⟨none, none, none, none, some (1920 + t.station), none, some (1952 + t.station),
                none, none, none⟩
            ∧ t.time = { s.time with timeMatches := [] }))
      ∧ ∃ u : State, (t = if u.imageGood = true ∧ u.station ≠ 0 then { u with listenEnds := some (s.now + 500) }
          else endStart false u)
        ∧ u.imageGood = t.imageGood ∧ u.station = t.station ∧ u.config = t.config ∧ u.power = .startUp
        ∧ ∀ (closes moved : Bool),
          let good : Bool := u.imageGood
          let p := s.store
          let today : Option Date := if s.time.unsetCause = none then some s.time.clock.day else none
          let stamp : Option ClockTime := if s.time.unsetCause = none then some s.time.clock else none
          let limits := p.limits.restored limitsOk
          let grade := p.grade.restored profileOk
          let profile := grade.getD (List.replicate 8 none)
          let days := p.days.restored dayAreaOk
          let items := p.service.restored serviceAreaOk
          let history := p.history.restored historyOk
          let ring := p.slots.any Slot.valid
          let afresh := fun c : ItemConfig =>
            (⟨c, c.basis.bind u.meter.meters.value, none, .ok, .ok, false, none⟩ : ServiceItem)
          let stored : List (Option StoredItem) := items.getD []
          let back : Nat → ItemConfig → ServiceItem := fun i c => match stored[i]? with
            | some (some x) => if x.code = c.code ∧ x.basis = c.basis then
                ⟨c, x.lastMeter, x.lastDate, x.meterStanding, x.dayStanding, false, none⟩ else afresh c
            | _ => afresh c
          let judged : ServiceItem → ServiceItem := fun item => { item with
            meterStanding := meterStandingOf item u.meter.meters
            dayStanding := match today with
              | some d => dayStandingOf item d
              | none => item.dayStanding }
          let when' := fun (b : Bool) (c : FaultCode) (src : FaultSource) =>
            if b then [(⟨c, src, true, 1, stamp, stamp⟩ : FaultEntry)] else []
          let job := fun (b : Bool) (j : Job) => if b then [j] else []
          (closes = true ↔ ∃ a, days = some a ∧ a.opened.date ≠ none ∧ a.opened.date ≠ today) →
          (moved = true ↔ ∃ (i : Nat) (c : ItemConfig), u.config.items[i]? = some (some c)
            ∧ ((judged (back i c)).meterStanding ≠ (back i c).meterStanding
              ∨ (judged (back i c)).dayStanding ≠ (back i c).dayStanding)) →
          (good → u.limits = (limits.getD u.config.limits).map fun l =>
              ⟨l.config, if l.enabled then .pending else .disabled, false, none, none, none⟩)
            ∧ (good → u.guidance = { GuidanceUnit.atStart with
                profile := profile, scanIndex := u.guidance.scanIndex
                scan := if profile.any Option.isSome then .offProfile else .noProfile })
            ∧ (good → ∀ i : Nat, (∃ x, profile[i]? = some (some x)) → (∀ j < i, ∀ x, profile[j]? ≠ some (some x)) →
              u.guidance.scanIndex = i)
            ∧ (¬ good ∨ profile.any Option.isSome = false → u.guidance = .atStart)
            ∧ (∀ x ∈ p.slots, x.valid = true →
              (∀ y ∈ p.slots, y.valid = true → y.content = x.content ∨ y.content.sequence < x.content.sequence) →
              u.meter = { MeterUnit.atStart with meters := x.content.meters, sequence := x.content.sequence }
                ∧ u.economy.lifetime = max x.content.lifetime u.economy.days.opened.fuel)
            ∧ (ring = false → u.meter = { MeterUnit.atStart with
                  sequence := 1, job := .queued, snapshot := some ⟨1, .zero, 0⟩ }
              ∧ u.economy.lifetime = u.economy.days.opened.fuel)
            ∧ u.economy = { EconomyUnit.atStart with days := u.economy.days, lifetime := u.economy.lifetime }
            ∧ (good → days = none → u.economy.days = ⟨[], .opened today, ⟨0, 0, 0⟩⟩)
            ∧ (good → ∀ a, days = some a → u.economy.days = if closes then
                ⟨(a.ring ++ [a.opened]).drop ((a.ring ++ [a.opened]).length - 14), .opened today, a.shift⟩ else a)
            ∧ (¬ good → u.economy.days = .blank)
            ∧ (good → u.service.items.length = u.config.items.length
              ∧ (∀ i : Nat, u.config.items[i]? = some none → u.service.items[i]? = some none)
              ∧ (∀ (i : Nat) (c : ItemConfig), u.config.items[i]? = some (some c) →
                let new := judged (back i c)
                u.service.items[i]? = some (some { new with
                  owed := if (back i c).state.num < new.state.num then some .rise else none }))
              ∧ u.service.history = history.getD [] ∧ u.service.derate = derateWanted u.service.items
              ∧ u.service.writePending = false)
            ∧ (¬ good → u.service = .atStart)
            ∧ u.store = { p with staging := u.store.staging, queue := u.store.queue, writing := none }
            ∧ u.store.queue = job (good ∧ limits = none) (.limitArea []) ++ job (good ∧ grade = none) (.gradeProfile [])
              ++ job (ring = false) .checkpoint ++ job (good ∧ (days = none ∨ closes = true)) .dayRecords
              ++ job (good ∧ items = none) (.serviceState []) ++ job (good ∧ history = none) (.history [])
              ++ job (good ∧ items ≠ none ∧ moved = true) (.serviceState [])
            ∧ u.diag.unentered = [] ∧ u.diag.attention = attentionOf u.diag.entries
            ∧ u.diag.entries = when' (u.station = 0) .strapFault startUpBlock ++ when' (¬ good) .imageBad storeBlock
              ++ when' (s.time.stopped = true) .oscillatorStop timeBlock
              ++ when' (s.time.unsetCause ≠ none) .clockUnset timeBlock
              ++ when' (good ∧ limits = none) .limitAreaLost envelopeBlock
              ++ when' (good ∧ grade = none) .gradeAreaLost guidanceBlock
              ++ when' (ring = false) .meterLoss meterBlock ++ when' (good ∧ days = none) .dayAreaLost economyBlock
              ++ when' (good ∧ items = none) .serviceAreaLost serviceBlock
              ++ when' (good ∧ history = none) .historyAreaLost serviceBlock)
    ∧ ∀ (own : Nat) (f : ImageFields),
      let published := [f.pubs.cutDemand, f.pubs.guidance, f.pubs.engineReq, f.pubs.meters, f.pubs.status,
        f.pubs.notice, f.pubs.reply, f.pubs.spare0, f.pubs.spare1, f.pubs.spare2].filterMap id
      let ofRole := fun r : Role => f.subs.filter fun c => c.role == r
      let g := f.geometry
      let e := f.economy
      imageOk own f = true ↔
        ((f.subs.length ≤ 40
            ∧ (∀ c ∈ f.subs, c.topic ≤ 2047 ∧ 1 ≤ c.station ∧ c.station ≤ 31 ∧ c.station ≠ own
              ∧ (c.role = .request ∨ (10 ≤ c.staleLimit ∧ c.staleLimit ≤ 10000 ∧ c.staleLimit < c.lostLimit
                ∧ c.lostLimit ≤ 60000)))
            ∧ (∀ r ∈ [Role.boomPos, .armPos, .bucketLink, .slewPos, .chassisTilt, .engineRun, .engineFuel, .coolant,
                .pump, .pilot, .valveCut], (ofRole r).length = 1)
            ∧ (ofRole .extCut).length ≤ 3 ∧ ((ofRole .extCut).map (·.station)).Nodup
            ∧ (ofRole .timeSync).length ≤ 1
            ∧ 1 ≤ (ofRole .request).length ∧ ((ofRole .request).map (·.station)).Nodup
            ∧ (f.subs.map (·.topic)).Nodup ∧ (∀ c ∈ f.subs, c.topic ∉ published))
          ∧ ((∀ x ∈ [f.pubs.cutDemand, f.pubs.guidance, f.pubs.engineReq, f.pubs.meters, f.pubs.status,
                f.pubs.notice, f.pubs.reply], x ≠ none)
            ∧ (∀ t ∈ published, t ≤ 2047) ∧ published.Nodup)
          ∧ (500 ≤ g.lb ∧ g.lb ≤ 32767 ∧ 500 ≤ g.la ∧ g.la ≤ 32767 ∧ 500 ≤ g.lk ∧ g.lk ≤ 32767
            ∧ -32767 ≤ g.x0 ∧ g.x0 ≤ 32767 ∧ 0 ≤ g.h0 ∧ g.h0 ≤ 32767
            ∧ (g.x0.natAbs : Int) + g.lb + g.la + g.lk ≤ 32767 ∧ g.h0 + g.lb + g.la + g.lk ≤ 32767)
          ∧ (f.descriptors.length = 6 ∧ f.pool.length = 256 ∧ (∀ v ∈ f.pool, -32767 ≤ v ∧ v ≤ 32767)
            ∧ ∀ (i : Nat) (d : DescConfig), f.descriptors[i]? = some d →
              (3 ≤ i → d.limit = 0)
                ∧ (i < 3 → 2 ≤ d.limit ∧ d.limit ≤ 64 ∧ d.base ≤ 255 ∧ d.base + d.limit ≤ 256
                  ∧ 1 ≤ d.step ∧ d.step ≤ 32767
                  ∧ (i = 0 → 0 ≤ d.origin ∧ d.origin ≤ 6000) ∧ (i = 1 → 0 ≤ d.origin ∧ d.origin ≤ 1000)
                  ∧ (i = 2 → -40 ≤ d.origin ∧ d.origin ≤ 150)
                  ∧ ∀ v ∈ d.fixedValue :: (f.pool.drop d.base).take d.limit,
                    (i = 0 → -18000 ≤ v ∧ v ≤ 18000) ∧ (i = 1 → 0 ≤ v ∧ v ≤ 16383)
                      ∧ (i = 2 → 500 ≤ v ∧ v ≤ 4000)))
          ∧ (f.limits.length = 12 ∧ ∀ l ∈ f.limits,
            let c := l.config
            let slew := c.kind = .slewCcwStop ∨ c.kind = .slewCwStop
            (slew → 0 ≤ c.value ∧ c.value ≤ 65535 ∧ c.margin ≤ 16383 ∧ c.scope = none)
              ∧ (¬ slew → -32767 ≤ c.value ∧ c.value ≤ 32767 ∧ c.margin ≤ 10000)
              ∧ 0 ≤ c.margin ∧ (c.action = .warn ∨ c.guarded ≠ MotionSet.none)
              ∧ ∀ x, c.scope = some x → x.start ≠ x.stop)
          ∧ (10 ≤ f.fineBand ∧ f.fineBand ≤ 200 ∧ 10 ≤ f.digThreshold ∧ f.digThreshold ≤ 500)
          ∧ ((∀ v ∈ [e.speedHeavy, e.speedStandard, e.speedEconomy], 800 ≤ v ∧ v ≤ 2400)
            ∧ (∀ v ∈ [e.pumpHeavy, e.pumpStandard, e.pumpEconomy], 50 ≤ v ∧ v ≤ 2000 ∧ e.minimumPump ≤ v)
            ∧ e.slowLimit ≤ 2000 ∧ e.minimumPump ≤ 2000 ∧ 500 ≤ e.idleFallback ∧ e.idleFallback ≤ 1500
            ∧ 2 ≤ e.idleWait ∧ e.idleWait ≤ 30
            ∧ (e.autoShutdown = 0 ∨ (60 ≤ e.autoShutdown ∧ e.autoShutdown ≤ 1800)))
          ∧ (-100 ≤ f.initialTrim ∧ f.initialTrim ≤ 100)
          ∧ (f.timeMatches.length = 6 ∧ ∀ m ∈ f.timeMatches, m.minute ≤ 59 ∧ m.hour ≤ 23)
          ∧ (10 ≤ f.workThreshold ∧ f.workThreshold ≤ 500 ∧ 10 ≤ f.heavyThreshold ∧ f.heavyThreshold ≤ 500)
          ∧ (f.items.length = 24 ∧ ∀ c, some c ∈ f.items →
            1 ≤ c.code ∧ c.code ≤ 65535
              ∧ (c.basis = none → c.meterInterval = 0)
              ∧ (∀ m, c.basis = some m → m ≤ 7 ∧ 1 ≤ c.meterInterval
                ∧ c.meterInterval ≤ if m = 7 then 100000000 else 100000)
              ∧ (c.meterInterval = 0 → c.meterLead = 0) ∧ (c.meterInterval ≠ 0 → c.meterLead < c.meterInterval)
              ∧ c.meterGrace ≤ c.meterInterval ∧ c.dayInterval ≤ 3650
              ∧ (c.dayInterval = 0 → c.dayLead = 0 ∧ c.dayGrace = 0)
              ∧ (c.dayInterval ≠ 0 → c.dayLead < c.dayInterval ∧ c.dayGrace ≤ 365)
              ∧ (c.meterInterval ≠ 0 ∨ c.dayInterval ≠ 0)
              ∧ ∀ k, c.reminder = some k → ∃ m, f.timeMatches[k]? = some m ∧ k ≤ 5 ∧ m.purpose = .reminderTime))

/-- R3, R25 to R32, R43 to R47, R50 to R54, R84, R163, R164: the evaluation of an envelope entry, its warning and
what it hands on; the raises, causes, breach reports and losses of pose that a pose update makes of the list; the
record notices behind the fence, and the end of an event at the list. The model's choices: whether a raise is told
before a cycle completes is free (log 13, 14), a cause inside the hysteresis (log 16), an older owed notice of a
record (log 37), the order of what one pose update makes of the list (log 66), a loss of pose without an armed entry
(log 45), an entry that leaves Pending (log 49), the one change of the demand where a raise exhausts the sequence
numbers (log 50). -/
def Obligations.EvaluationsActOnRecords : Prop :=
  (∀ (i : Nat) (e : LimitEntry) (s : State), e.state ≠ .disabled →
      let c := clearance s e.config
      let m := e.config.margin
      let next := if inScope e.config.scope s.pose.pose.slewAngle then
        limitNext e.state c m e.config.kind.hysteresis else .clear
      let gone := fun st : LimitState => decide (st = .clear ∨ st = .approach)
      let cause : Option BreachCause := if next ≠ .breach then none
        else if e.state = .breach ∧ 0 < c then e.cause else some (causeOf s e.config)
      let flag : Bool := if next = .approach ∨ next = .breach then true
        else if next = .clear then (if e.state ≠ .clear ∧ e.config.latch = .follow then false else e.warning)
        else e.warning || decide (c ≤ m)
      let event : Option WarnEvent := if next = .approach ∧ e.state ≠ .approach then some .approach
        else if next = .breach ∧ e.state ≠ .breach ∧ e.config.action = .warn then some .breach
        else if next = .pending ∧ e.warning = false ∧ c ≤ m then some .pending
        else none
      let notice := fun ev : WarnEvent => (⟨i, e.config.kind, ev, c, s.pose.pose.updates⟩ : WarnNotice)
      let told := event.bind fun ev => s.bus.queueNotice (warnNoticeData (notice ev)) none
      let acts := e.config.action ≠ .warn ∧ next = .breach
      let t := evaluateEntry i e s
      t.1.limits = s.limits.set i { e with
          state := next, last := some c, warning := flag, cause := cause
          owed := if event = none then e.owed else if told.isSome then none else event.map notice }
        ∧ t.1.bus = told.getD s.bus ∧ { t.1 with limits := s.limits, bus := s.bus } = s
        ∧ t.2 = (if acts ∧ e.state ≠ .breach then
              [.raise i (if e.config.action = .stop then .limitStop else .limitSlow) (causeOf s e.config)
                e.config.guarded]
            else if acts ∧ cause ≠ e.cause then cause.toList.map (Handed.cause i)
            else [])
          ++ if gone e.state = gone next then [] else [.report i (gone next)])
    ∧ (∀ s : State,
      (s.pose.pose.quality = .invalid → envelopePose s = (s, []))
        ∧ (s.pose.pose.quality ≠ .invalid → envelopePose s = (List.range 12).foldl (fun p i =>
          match p.1.limits[i]? with
          | none => p
          | some e => if e.state = .disabled then p
            else ((evaluateEntry i e p.1).1, p.2 ++ (evaluateEntry i e p.1).2)) (s, [])))
    ∧ (∀ (before : PoseQuality) (s : State),
      let p := envelopePose s
      let completes := willRaise p.1 p.2 = true ∧ wouldComplete p.1 = true
      consumePose before s = interventionEvent (fun w => (p.2.foldl Work.take w).poseQuality before)
        (guidancePose (if completes then
            useFree (if Config.announcementFirst p.1.freeCount then abandonCycle p.1 else p.1)
          else p.1)))
    ∧ (∀ (f : Work → Work) (s : State),
      (inHold s = true → interventionEvent f s = s)
        ∧ (inHold s = false → interventionEvent f s = (f ⟨s, []⟩).close))
    ∧ (∀ (h : Handed) (w : Work),
      (inHold w.state = true → w.take h = w)
        ∧ (inHold w.state = false → w.take h = match h with
          | .raise i kind c blocked => w.raiseRequest i kind c blocked
          | .cause i c => w.setCause i c
          | .report i gone => w.breachReport i gone))
    ∧ (∀ (kind : RecordKind) (source : Option Nat) (cause : RecordCause) (blocked : MotionSet) (w : Work),
      let s := w.state
      let u := s.intervention
      let p := s.pose.pose
      let r : Record := ⟨u.lastSeq + 1, kind, source, cause, blocked,
        ⟨p.reach, p.tip, p.slewAngle, p.quality⟩, .raised, false, false, none, false⟩
      let t := w.raise kind source cause blocked
      (65535 ≤ u.lastSeq → t = w)
        ∧ (u.lastSeq = 65534 → inHold t.state = true)
        ∧ (u.lastSeq < 65535 → t.notices = w.notices ++ [(r.seq, recordNoticeData r 0)]
          ∧ ∃ listed : State,
            (u.lastSeq < 65534 → t.state = listed)
            ∧ (u.lastSeq = 65534 → t.state = enterHold (report .sequenceExhausted interventionBlock
              (setIntervention { listed.intervention with slowSet := slowSetOf (u.list ++ [r]) } listed)))
            ∧ listed.intervention = { u with list := u.list ++ [r], lastSeq := u.lastSeq + 1 }
            ∧ listed.guidance = (if s.guidance.detector = .idle then s.guidance else
              { s.guidance with detector := .idle, digAngle := none, stageTimer := none, outcome := .abandoned })
            ∧ listed.economy.days = { s.economy.days with opened := { s.economy.days.opened with
                interventions := min 65535 (s.economy.days.opened.interventions + 1) } }
            ∧ (u.list = [] → s.economy.state ∈ [.idleWait, .idling, .resuming, .shutdownPending] →
              listed.economy.state = .held ∧ listed.economy.waitTimer = none
                ∧ listed.economy.shutdownTimer = none ∧ listed.economy.resumeTimer = none)
            ∧ (u.list ≠ [] ∨ s.economy.state ∉ [.idleWait, .idling, .resuming, .shutdownPending] →
              { listed.economy with days := s.economy.days } = s.economy)
            ∧ { listed with intervention := u, guidance := s.guidance, economy := s.economy } = s))
    ∧ (∀ (i : Nat) (kind : RecordKind) (c : BreachCause) (blocked : MotionSet) (w : Work),
      let u := w.state.intervention
      (u.list.any (Record.ofEntry i) = false →
          w.raiseRequest i kind c blocked = w.raise kind (some i) c.record blocked)
        ∧ (u.list.any (Record.ofEntry i) = true → w.raiseRequest i kind c blocked = w.setCause i c)
        ∧ w.setCause i c = { w with
          state := setIntervention { u with
            list := u.list.map fun r => if r.ofEntry i then { r with cause := c.record } else r } w.state })
    ∧ (∀ (p : Record → Bool) (f : Record → Record) (told : Record → Bool) (w : Work),
      let u := w.state.intervention
      w.change p f told = ⟨setIntervention { u with list := u.list.map fun r => if p r then f r else r } w.state,
        w.notices ++ (u.list.filter fun r => p r && told r).map fun r =>
          ((f r).seq, recordNoticeData (f r) (f r).state.num)⟩)
    ∧ (∀ (p : Record → Bool) (w : Work),
      let u := w.state.intervention
      let kept := u.list.filter fun r => !p r
      let s := setIntervention { u with list := kept } w.state
      w.remove p = ⟨if kept = [] ∧ u.list ≠ [] ∧ s.economy.state = .held then setEconomy
            { s.economy with state := .working, waitTimer := none, shutdownTimer := none, resumeTimer := none } s
          else s,
        w.notices ++ (u.list.filter p).map fun r => (r.seq, recordNoticeData r 4)⟩)
    ∧ (∀ (i : Nat) (s : State),
      let l := s.intervention.list
      let clearing := fun r : Record => r.state == .raised || r.state == .confirmed
      let gone := Work.breachReport i true ⟨s, []⟩
      let back := Work.breachReport i false ⟨s, []⟩
      gone.state.intervention.list
          = (l.map fun r => if r.ofEntry i ∧ r.kind = .limitStop then { r with
                breachGone := true, state := if clearing r then .clearable else r.state } else r).filter
              (fun r => !(r.ofEntry i && r.kind == .limitSlow))
        ∧ gone.notices
          = ((l.filter fun r => r.ofEntry i && r.kind == .limitStop && clearing r).map fun r =>
              (r.seq, recordNoticeData { r with breachGone := true, state := .clearable } 2))
            ++ (l.filter fun r => r.ofEntry i && r.kind == .limitSlow).map (fun r =>
              (r.seq, recordNoticeData r 4))
        ∧ back.state.intervention.list
          = l.map (fun r => if r.ofEntry i then { r with
              breachGone := false, state := if r.state = .clearable then .raised else r.state } else r)
        ∧ back.notices
          = (l.filter fun r => r.ofEntry i && r.state == .clearable).map (fun r =>
              (r.seq, recordNoticeData { r with breachGone := false, state := .raised } 0)))
    ∧ (∀ (before : PoseQuality) (w : Work),
      let u := w.state.intervention
      let q := w.state.pose.pose.quality
      let changed := fun (moves : RecordState → Bool) (st : RecordState) => w.poseQuality before
        = ⟨setIntervention { u with list := u.list.map fun r =>
              if r.isSensorLoss ∧ moves r.state then { r with state := st } else r } w.state,
          w.notices ++ (u.list.filter fun r => r.isSensorLoss && moves r.state).map fun r =>
            (r.seq, recordNoticeData { r with state := st } st.num)⟩
      let acts := inHold w.state = false
      (acts → q = .valid → changed (fun st => st == .raised || st == .confirmed) .clearable)
        ∧ (inHold w.state = true ∨ q = .degraded ∨ (q = .invalid ∧ before = .invalid) → w.poseQuality before = w)
        ∧ (acts → q = .invalid → before ≠ .invalid →
          (u.list.any Record.isSensorLoss = true → changed (fun st => st == .clearable) .raised)
            ∧ (u.list.any Record.isSensorLoss = false → w.state.limits.any armedStop = true →
              w.poseQuality before = w.raise .sensorLoss none .poseInvalid (armedMotions w.state.limits))
            ∧ (u.list.any Record.isSensorLoss = false → w.state.limits.any armedStop = false →
              w.poseQuality before = w)))
    ∧ (∀ w : Work, w.close = w.notices.foldl (fun s n => queueRecordNotice n.1 n.2 s)
      (if inHold w.state = true then w.state else formSets w.state))
    ∧ (∀ (seq : Nat) (data : List Byte) (s : State),
      queueRecordNotice seq data s = match s.bus.queueNotice data (s.bus.cutDemand.held.map (·.number)) with
        | some b => { s with bus := b }
        | none => setIntervention { s.intervention with
            list := s.intervention.list.map fun r => if r.seq = seq then { r with owed := true } else r } s)
    ∧ ∀ (b : Biu) (data : List Byte) (fence : Option Nat),
      let mayGo := fun f : RingFrame =>
        f.reply && !(b.controller == some (.ring f.id) || decide (0 < f.framesSent))
      let join := fun ring : List RingFrame => { b with
        ring := ring ++ [⟨b.nextId, false, data, fence, 0⟩], nextId := b.nextId + 1 }
      (b.ring.length < 8 → b.queueNotice data fence = some (join b.ring))
        ∧ (8 ≤ b.ring.length → b.ring.any mayGo = true → b.queueNotice data fence
          = some { join (eraseFirst mayGo b.ring) with repliesDropped := satAdd 255 b.repliesDropped 1 })
        ∧ (8 ≤ b.ring.length → b.ring.any mayGo = false → b.queueNotice data fence = none)
end

