-- ==== Sys2Proof/Laws/State.lean ====
section
/-! SUPPORT. One lemma for each field of State and each named update, true by rfl. -/

namespace Sys2Proof.Machine

@[simp] theorem setEconomy_now (e : EconomyUnit) (s : State) : (setEconomy e s).now = s.now := rfl
@[simp] theorem setEconomy_freeCount (e : EconomyUnit) (s : State) : (setEconomy e s).freeCount = s.freeCount := rfl
@[simp] theorem setEconomy_power (e : EconomyUnit) (s : State) : (setEconomy e s).power = s.power := rfl
@[simp] theorem setEconomy_limpCause (e : EconomyUnit) (s : State) : (setEconomy e s).limpCause = s.limpCause := rfl
@[simp] theorem setEconomy_station (e : EconomyUnit) (s : State) : (setEconomy e s).station = s.station := rfl
@[simp] theorem setEconomy_pins (e : EconomyUnit) (s : State) : (setEconomy e s).pins = s.pins := rfl
@[simp] theorem setEconomy_keyOffHeld (e : EconomyUnit) (s : State) : (setEconomy e s).keyOffHeld = s.keyOffHeld := rfl
@[simp] theorem setEconomy_listenEnds (e : EconomyUnit) (s : State) : (setEconomy e s).listenEnds = s.listenEnds := rfl
@[simp] theorem setEconomy_restart (e : EconomyUnit) (s : State) : (setEconomy e s).restart = s.restart := rfl
@[simp] theorem setEconomy_detectorArmed (e : EconomyUnit) (s : State) : (setEconomy e s).detectorArmed = s.detectorArmed := rfl
@[simp] theorem setEconomy_config (e : EconomyUnit) (s : State) : (setEconomy e s).config = s.config := rfl
@[simp] theorem setEconomy_imageGood (e : EconomyUnit) (s : State) : (setEconomy e s).imageGood = s.imageGood := rfl
@[simp] theorem setEconomy_topics (e : EconomyUnit) (s : State) : (setEconomy e s).topics = s.topics := rfl
@[simp] theorem setEconomy_bus (e : EconomyUnit) (s : State) : (setEconomy e s).bus = s.bus := rfl
@[simp] theorem setEconomy_pose (e : EconomyUnit) (s : State) : (setEconomy e s).pose = s.pose := rfl
@[simp] theorem setEconomy_limits (e : EconomyUnit) (s : State) : (setEconomy e s).limits = s.limits := rfl
@[simp] theorem setEconomy_intervention (e : EconomyUnit) (s : State) : (setEconomy e s).intervention = s.intervention := rfl
@[simp] theorem setEconomy_guidance (e : EconomyUnit) (s : State) : (setEconomy e s).guidance = s.guidance := rfl
@[simp] theorem setEconomy_economy (e : EconomyUnit) (s : State) : (setEconomy e s).economy = e := rfl
@[simp] theorem setEconomy_time (e : EconomyUnit) (s : State) : (setEconomy e s).time = s.time := rfl
@[simp] theorem setEconomy_meter (e : EconomyUnit) (s : State) : (setEconomy e s).meter = s.meter := rfl
@[simp] theorem setEconomy_service (e : EconomyUnit) (s : State) : (setEconomy e s).service = s.service := rfl
@[simp] theorem setEconomy_diag (e : EconomyUnit) (s : State) : (setEconomy e s).diag = s.diag := rfl
@[simp] theorem setEconomy_store (e : EconomyUnit) (s : State) : (setEconomy e s).store = s.store := rfl
@[simp] theorem setEconomy_access (e : EconomyUnit) (s : State) : (setEconomy e s).access = s.access := rfl
@[simp] theorem setEconomy_pending (e : EconomyUnit) (s : State) : (setEconomy e s).pending = s.pending := rfl

@[simp] theorem setService_now (u : ServiceUnit) (s : State) : (setService u s).now = s.now := rfl
@[simp] theorem setService_freeCount (u : ServiceUnit) (s : State) : (setService u s).freeCount = s.freeCount := rfl
@[simp] theorem setService_power (u : ServiceUnit) (s : State) : (setService u s).power = s.power := rfl
@[simp] theorem setService_limpCause (u : ServiceUnit) (s : State) : (setService u s).limpCause = s.limpCause := rfl
@[simp] theorem setService_station (u : ServiceUnit) (s : State) : (setService u s).station = s.station := rfl
@[simp] theorem setService_pins (u : ServiceUnit) (s : State) : (setService u s).pins = s.pins := rfl
@[simp] theorem setService_keyOffHeld (u : ServiceUnit) (s : State) : (setService u s).keyOffHeld = s.keyOffHeld := rfl
@[simp] theorem setService_listenEnds (u : ServiceUnit) (s : State) : (setService u s).listenEnds = s.listenEnds := rfl
@[simp] theorem setService_restart (u : ServiceUnit) (s : State) : (setService u s).restart = s.restart := rfl
@[simp] theorem setService_detectorArmed (u : ServiceUnit) (s : State) : (setService u s).detectorArmed = s.detectorArmed := rfl
@[simp] theorem setService_config (u : ServiceUnit) (s : State) : (setService u s).config = s.config := rfl
@[simp] theorem setService_imageGood (u : ServiceUnit) (s : State) : (setService u s).imageGood = s.imageGood := rfl
@[simp] theorem setService_topics (u : ServiceUnit) (s : State) : (setService u s).topics = s.topics := rfl
@[simp] theorem setService_bus (u : ServiceUnit) (s : State) : (setService u s).bus = s.bus := rfl
@[simp] theorem setService_pose (u : ServiceUnit) (s : State) : (setService u s).pose = s.pose := rfl
@[simp] theorem setService_limits (u : ServiceUnit) (s : State) : (setService u s).limits = s.limits := rfl
@[simp] theorem setService_intervention (u : ServiceUnit) (s : State) : (setService u s).intervention = s.intervention := rfl
@[simp] theorem setService_guidance (u : ServiceUnit) (s : State) : (setService u s).guidance = s.guidance := rfl
@[simp] theorem setService_economy (u : ServiceUnit) (s : State) : (setService u s).economy = s.economy := rfl
@[simp] theorem setService_time (u : ServiceUnit) (s : State) : (setService u s).time = s.time := rfl
@[simp] theorem setService_meter (u : ServiceUnit) (s : State) : (setService u s).meter = s.meter := rfl
@[simp] theorem setService_service (u : ServiceUnit) (s : State) : (setService u s).service = u := rfl
@[simp] theorem setService_diag (u : ServiceUnit) (s : State) : (setService u s).diag = s.diag := rfl
@[simp] theorem setService_store (u : ServiceUnit) (s : State) : (setService u s).store = s.store := rfl
@[simp] theorem setService_access (u : ServiceUnit) (s : State) : (setService u s).access = s.access := rfl
@[simp] theorem setService_pending (u : ServiceUnit) (s : State) : (setService u s).pending = s.pending := rfl

@[simp] theorem setMeterUnit_now (u : MeterUnit) (s : State) : (setMeterUnit u s).now = s.now := rfl
@[simp] theorem setMeterUnit_freeCount (u : MeterUnit) (s : State) : (setMeterUnit u s).freeCount = s.freeCount := rfl
@[simp] theorem setMeterUnit_power (u : MeterUnit) (s : State) : (setMeterUnit u s).power = s.power := rfl
@[simp] theorem setMeterUnit_limpCause (u : MeterUnit) (s : State) : (setMeterUnit u s).limpCause = s.limpCause := rfl
@[simp] theorem setMeterUnit_station (u : MeterUnit) (s : State) : (setMeterUnit u s).station = s.station := rfl
@[simp] theorem setMeterUnit_pins (u : MeterUnit) (s : State) : (setMeterUnit u s).pins = s.pins := rfl
@[simp] theorem setMeterUnit_keyOffHeld (u : MeterUnit) (s : State) : (setMeterUnit u s).keyOffHeld = s.keyOffHeld := rfl
@[simp] theorem setMeterUnit_listenEnds (u : MeterUnit) (s : State) : (setMeterUnit u s).listenEnds = s.listenEnds := rfl
@[simp] theorem setMeterUnit_restart (u : MeterUnit) (s : State) : (setMeterUnit u s).restart = s.restart := rfl
@[simp] theorem setMeterUnit_detectorArmed (u : MeterUnit) (s : State) : (setMeterUnit u s).detectorArmed = s.detectorArmed := rfl
@[simp] theorem setMeterUnit_config (u : MeterUnit) (s : State) : (setMeterUnit u s).config = s.config := rfl
@[simp] theorem setMeterUnit_imageGood (u : MeterUnit) (s : State) : (setMeterUnit u s).imageGood = s.imageGood := rfl
@[simp] theorem setMeterUnit_topics (u : MeterUnit) (s : State) : (setMeterUnit u s).topics = s.topics := rfl
@[simp] theorem setMeterUnit_bus (u : MeterUnit) (s : State) : (setMeterUnit u s).bus = s.bus := rfl
@[simp] theorem setMeterUnit_pose (u : MeterUnit) (s : State) : (setMeterUnit u s).pose = s.pose := rfl
@[simp] theorem setMeterUnit_limits (u : MeterUnit) (s : State) : (setMeterUnit u s).limits = s.limits := rfl
@[simp] theorem setMeterUnit_intervention (u : MeterUnit) (s : State) : (setMeterUnit u s).intervention = s.intervention := rfl
@[simp] theorem setMeterUnit_guidance (u : MeterUnit) (s : State) : (setMeterUnit u s).guidance = s.guidance := rfl
@[simp] theorem setMeterUnit_economy (u : MeterUnit) (s : State) : (setMeterUnit u s).economy = s.economy := rfl
@[simp] theorem setMeterUnit_time (u : MeterUnit) (s : State) : (setMeterUnit u s).time = s.time := rfl
@[simp] theorem setMeterUnit_meter (u : MeterUnit) (s : State) : (setMeterUnit u s).meter = u := rfl
@[simp] theorem setMeterUnit_service (u : MeterUnit) (s : State) : (setMeterUnit u s).service = s.service := rfl
@[simp] theorem setMeterUnit_diag (u : MeterUnit) (s : State) : (setMeterUnit u s).diag = s.diag := rfl
@[simp] theorem setMeterUnit_store (u : MeterUnit) (s : State) : (setMeterUnit u s).store = s.store := rfl
@[simp] theorem setMeterUnit_access (u : MeterUnit) (s : State) : (setMeterUnit u s).access = s.access := rfl
@[simp] theorem setMeterUnit_pending (u : MeterUnit) (s : State) : (setMeterUnit u s).pending = s.pending := rfl

@[simp] theorem setGuidance_now (g : GuidanceUnit) (s : State) : (setGuidance g s).now = s.now := rfl
@[simp] theorem setGuidance_freeCount (g : GuidanceUnit) (s : State) : (setGuidance g s).freeCount = s.freeCount := rfl
@[simp] theorem setGuidance_power (g : GuidanceUnit) (s : State) : (setGuidance g s).power = s.power := rfl
@[simp] theorem setGuidance_limpCause (g : GuidanceUnit) (s : State) : (setGuidance g s).limpCause = s.limpCause := rfl
@[simp] theorem setGuidance_station (g : GuidanceUnit) (s : State) : (setGuidance g s).station = s.station := rfl
@[simp] theorem setGuidance_pins (g : GuidanceUnit) (s : State) : (setGuidance g s).pins = s.pins := rfl
@[simp] theorem setGuidance_keyOffHeld (g : GuidanceUnit) (s : State) : (setGuidance g s).keyOffHeld = s.keyOffHeld := rfl
@[simp] theorem setGuidance_listenEnds (g : GuidanceUnit) (s : State) : (setGuidance g s).listenEnds = s.listenEnds := rfl
@[simp] theorem setGuidance_restart (g : GuidanceUnit) (s : State) : (setGuidance g s).restart = s.restart := rfl
@[simp] theorem setGuidance_detectorArmed (g : GuidanceUnit) (s : State) : (setGuidance g s).detectorArmed = s.detectorArmed := rfl
@[simp] theorem setGuidance_config (g : GuidanceUnit) (s : State) : (setGuidance g s).config = s.config := rfl
@[simp] theorem setGuidance_imageGood (g : GuidanceUnit) (s : State) : (setGuidance g s).imageGood = s.imageGood := rfl
@[simp] theorem setGuidance_topics (g : GuidanceUnit) (s : State) : (setGuidance g s).topics = s.topics := rfl
@[simp] theorem setGuidance_bus (g : GuidanceUnit) (s : State) : (setGuidance g s).bus = s.bus := rfl
@[simp] theorem setGuidance_pose (g : GuidanceUnit) (s : State) : (setGuidance g s).pose = s.pose := rfl
@[simp] theorem setGuidance_limits (g : GuidanceUnit) (s : State) : (setGuidance g s).limits = s.limits := rfl
@[simp] theorem setGuidance_intervention (g : GuidanceUnit) (s : State) : (setGuidance g s).intervention = s.intervention := rfl
@[simp] theorem setGuidance_guidance (g : GuidanceUnit) (s : State) : (setGuidance g s).guidance = g := rfl
@[simp] theorem setGuidance_economy (g : GuidanceUnit) (s : State) : (setGuidance g s).economy = s.economy := rfl
@[simp] theorem setGuidance_time (g : GuidanceUnit) (s : State) : (setGuidance g s).time = s.time := rfl
@[simp] theorem setGuidance_meter (g : GuidanceUnit) (s : State) : (setGuidance g s).meter = s.meter := rfl
@[simp] theorem setGuidance_service (g : GuidanceUnit) (s : State) : (setGuidance g s).service = s.service := rfl
@[simp] theorem setGuidance_diag (g : GuidanceUnit) (s : State) : (setGuidance g s).diag = s.diag := rfl
@[simp] theorem setGuidance_store (g : GuidanceUnit) (s : State) : (setGuidance g s).store = s.store := rfl
@[simp] theorem setGuidance_access (g : GuidanceUnit) (s : State) : (setGuidance g s).access = s.access := rfl
@[simp] theorem setGuidance_pending (g : GuidanceUnit) (s : State) : (setGuidance g s).pending = s.pending := rfl

@[simp] theorem setIntervention_now (u : InterventionUnit) (s : State) : (setIntervention u s).now = s.now := rfl
@[simp] theorem setIntervention_freeCount (u : InterventionUnit) (s : State) : (setIntervention u s).freeCount = s.freeCount := rfl
@[simp] theorem setIntervention_power (u : InterventionUnit) (s : State) : (setIntervention u s).power = s.power := rfl
@[simp] theorem setIntervention_limpCause (u : InterventionUnit) (s : State) : (setIntervention u s).limpCause = s.limpCause := rfl
@[simp] theorem setIntervention_station (u : InterventionUnit) (s : State) : (setIntervention u s).station = s.station := rfl
@[simp] theorem setIntervention_pins (u : InterventionUnit) (s : State) : (setIntervention u s).pins = s.pins := rfl
@[simp] theorem setIntervention_keyOffHeld (u : InterventionUnit) (s : State) : (setIntervention u s).keyOffHeld = s.keyOffHeld := rfl
@[simp] theorem setIntervention_listenEnds (u : InterventionUnit) (s : State) : (setIntervention u s).listenEnds = s.listenEnds := rfl
@[simp] theorem setIntervention_restart (u : InterventionUnit) (s : State) : (setIntervention u s).restart = s.restart := rfl
@[simp] theorem setIntervention_detectorArmed (u : InterventionUnit) (s : State) : (setIntervention u s).detectorArmed = s.detectorArmed := rfl
@[simp] theorem setIntervention_config (u : InterventionUnit) (s : State) : (setIntervention u s).config = s.config := rfl
@[simp] theorem setIntervention_imageGood (u : InterventionUnit) (s : State) : (setIntervention u s).imageGood = s.imageGood := rfl
@[simp] theorem setIntervention_topics (u : InterventionUnit) (s : State) : (setIntervention u s).topics = s.topics := rfl
@[simp] theorem setIntervention_bus (u : InterventionUnit) (s : State) : (setIntervention u s).bus = s.bus := rfl
@[simp] theorem setIntervention_pose (u : InterventionUnit) (s : State) : (setIntervention u s).pose = s.pose := rfl
@[simp] theorem setIntervention_limits (u : InterventionUnit) (s : State) : (setIntervention u s).limits = s.limits := rfl
@[simp] theorem setIntervention_intervention (u : InterventionUnit) (s : State) : (setIntervention u s).intervention = u := rfl
@[simp] theorem setIntervention_guidance (u : InterventionUnit) (s : State) : (setIntervention u s).guidance = s.guidance := rfl
@[simp] theorem setIntervention_economy (u : InterventionUnit) (s : State) : (setIntervention u s).economy = s.economy := rfl
@[simp] theorem setIntervention_time (u : InterventionUnit) (s : State) : (setIntervention u s).time = s.time := rfl
@[simp] theorem setIntervention_meter (u : InterventionUnit) (s : State) : (setIntervention u s).meter = s.meter := rfl
@[simp] theorem setIntervention_service (u : InterventionUnit) (s : State) : (setIntervention u s).service = s.service := rfl
@[simp] theorem setIntervention_diag (u : InterventionUnit) (s : State) : (setIntervention u s).diag = s.diag := rfl
@[simp] theorem setIntervention_store (u : InterventionUnit) (s : State) : (setIntervention u s).store = s.store := rfl
@[simp] theorem setIntervention_access (u : InterventionUnit) (s : State) : (setIntervention u s).access = s.access := rfl
@[simp] theorem setIntervention_pending (u : InterventionUnit) (s : State) : (setIntervention u s).pending = s.pending := rfl

@[simp] theorem setPoseUnit_now (u : PoseUnit) (s : State) : (setPoseUnit u s).now = s.now := rfl
@[simp] theorem setPoseUnit_freeCount (u : PoseUnit) (s : State) : (setPoseUnit u s).freeCount = s.freeCount := rfl
@[simp] theorem setPoseUnit_power (u : PoseUnit) (s : State) : (setPoseUnit u s).power = s.power := rfl
@[simp] theorem setPoseUnit_limpCause (u : PoseUnit) (s : State) : (setPoseUnit u s).limpCause = s.limpCause := rfl
@[simp] theorem setPoseUnit_station (u : PoseUnit) (s : State) : (setPoseUnit u s).station = s.station := rfl
@[simp] theorem setPoseUnit_pins (u : PoseUnit) (s : State) : (setPoseUnit u s).pins = s.pins := rfl
@[simp] theorem setPoseUnit_keyOffHeld (u : PoseUnit) (s : State) : (setPoseUnit u s).keyOffHeld = s.keyOffHeld := rfl
@[simp] theorem setPoseUnit_listenEnds (u : PoseUnit) (s : State) : (setPoseUnit u s).listenEnds = s.listenEnds := rfl
@[simp] theorem setPoseUnit_restart (u : PoseUnit) (s : State) : (setPoseUnit u s).restart = s.restart := rfl
@[simp] theorem setPoseUnit_detectorArmed (u : PoseUnit) (s : State) : (setPoseUnit u s).detectorArmed = s.detectorArmed := rfl
@[simp] theorem setPoseUnit_config (u : PoseUnit) (s : State) : (setPoseUnit u s).config = s.config := rfl
@[simp] theorem setPoseUnit_imageGood (u : PoseUnit) (s : State) : (setPoseUnit u s).imageGood = s.imageGood := rfl
@[simp] theorem setPoseUnit_topics (u : PoseUnit) (s : State) : (setPoseUnit u s).topics = s.topics := rfl
@[simp] theorem setPoseUnit_bus (u : PoseUnit) (s : State) : (setPoseUnit u s).bus = s.bus := rfl
@[simp] theorem setPoseUnit_pose (u : PoseUnit) (s : State) : (setPoseUnit u s).pose = u := rfl
@[simp] theorem setPoseUnit_limits (u : PoseUnit) (s : State) : (setPoseUnit u s).limits = s.limits := rfl
@[simp] theorem setPoseUnit_intervention (u : PoseUnit) (s : State) : (setPoseUnit u s).intervention = s.intervention := rfl
@[simp] theorem setPoseUnit_guidance (u : PoseUnit) (s : State) : (setPoseUnit u s).guidance = s.guidance := rfl
@[simp] theorem setPoseUnit_economy (u : PoseUnit) (s : State) : (setPoseUnit u s).economy = s.economy := rfl
@[simp] theorem setPoseUnit_time (u : PoseUnit) (s : State) : (setPoseUnit u s).time = s.time := rfl
@[simp] theorem setPoseUnit_meter (u : PoseUnit) (s : State) : (setPoseUnit u s).meter = s.meter := rfl
@[simp] theorem setPoseUnit_service (u : PoseUnit) (s : State) : (setPoseUnit u s).service = s.service := rfl
@[simp] theorem setPoseUnit_diag (u : PoseUnit) (s : State) : (setPoseUnit u s).diag = s.diag := rfl
@[simp] theorem setPoseUnit_store (u : PoseUnit) (s : State) : (setPoseUnit u s).store = s.store := rfl
@[simp] theorem setPoseUnit_access (u : PoseUnit) (s : State) : (setPoseUnit u s).access = s.access := rfl
@[simp] theorem setPoseUnit_pending (u : PoseUnit) (s : State) : (setPoseUnit u s).pending = s.pending := rfl

@[simp] theorem setTime_now (t : TimeBase) (s : State) : (setTime t s).now = s.now := rfl
@[simp] theorem setTime_freeCount (t : TimeBase) (s : State) : (setTime t s).freeCount = s.freeCount := rfl
@[simp] theorem setTime_power (t : TimeBase) (s : State) : (setTime t s).power = s.power := rfl
@[simp] theorem setTime_limpCause (t : TimeBase) (s : State) : (setTime t s).limpCause = s.limpCause := rfl
@[simp] theorem setTime_station (t : TimeBase) (s : State) : (setTime t s).station = s.station := rfl
@[simp] theorem setTime_pins (t : TimeBase) (s : State) : (setTime t s).pins = s.pins := rfl
@[simp] theorem setTime_keyOffHeld (t : TimeBase) (s : State) : (setTime t s).keyOffHeld = s.keyOffHeld := rfl
@[simp] theorem setTime_listenEnds (t : TimeBase) (s : State) : (setTime t s).listenEnds = s.listenEnds := rfl
@[simp] theorem setTime_restart (t : TimeBase) (s : State) : (setTime t s).restart = s.restart := rfl
@[simp] theorem setTime_detectorArmed (t : TimeBase) (s : State) : (setTime t s).detectorArmed = s.detectorArmed := rfl
@[simp] theorem setTime_config (t : TimeBase) (s : State) : (setTime t s).config = s.config := rfl
@[simp] theorem setTime_imageGood (t : TimeBase) (s : State) : (setTime t s).imageGood = s.imageGood := rfl
@[simp] theorem setTime_topics (t : TimeBase) (s : State) : (setTime t s).topics = s.topics := rfl
@[simp] theorem setTime_bus (t : TimeBase) (s : State) : (setTime t s).bus = s.bus := rfl
@[simp] theorem setTime_pose (t : TimeBase) (s : State) : (setTime t s).pose = s.pose := rfl
@[simp] theorem setTime_limits (t : TimeBase) (s : State) : (setTime t s).limits = s.limits := rfl
@[simp] theorem setTime_intervention (t : TimeBase) (s : State) : (setTime t s).intervention = s.intervention := rfl
@[simp] theorem setTime_guidance (t : TimeBase) (s : State) : (setTime t s).guidance = s.guidance := rfl
@[simp] theorem setTime_economy (t : TimeBase) (s : State) : (setTime t s).economy = s.economy := rfl
@[simp] theorem setTime_time (t : TimeBase) (s : State) : (setTime t s).time = t := rfl
@[simp] theorem setTime_meter (t : TimeBase) (s : State) : (setTime t s).meter = s.meter := rfl
@[simp] theorem setTime_service (t : TimeBase) (s : State) : (setTime t s).service = s.service := rfl
@[simp] theorem setTime_diag (t : TimeBase) (s : State) : (setTime t s).diag = s.diag := rfl
@[simp] theorem setTime_store (t : TimeBase) (s : State) : (setTime t s).store = s.store := rfl
@[simp] theorem setTime_access (t : TimeBase) (s : State) : (setTime t s).access = s.access := rfl
@[simp] theorem setTime_pending (t : TimeBase) (s : State) : (setTime t s).pending = s.pending := rfl

@[simp] theorem setGrants_now (l : List Grant) (s : State) : (setGrants l s).now = s.now := rfl
@[simp] theorem setGrants_freeCount (l : List Grant) (s : State) : (setGrants l s).freeCount = s.freeCount := rfl
@[simp] theorem setGrants_power (l : List Grant) (s : State) : (setGrants l s).power = s.power := rfl
@[simp] theorem setGrants_limpCause (l : List Grant) (s : State) : (setGrants l s).limpCause = s.limpCause := rfl
@[simp] theorem setGrants_station (l : List Grant) (s : State) : (setGrants l s).station = s.station := rfl
@[simp] theorem setGrants_pins (l : List Grant) (s : State) : (setGrants l s).pins = s.pins := rfl
@[simp] theorem setGrants_keyOffHeld (l : List Grant) (s : State) : (setGrants l s).keyOffHeld = s.keyOffHeld := rfl
@[simp] theorem setGrants_listenEnds (l : List Grant) (s : State) : (setGrants l s).listenEnds = s.listenEnds := rfl
@[simp] theorem setGrants_restart (l : List Grant) (s : State) : (setGrants l s).restart = s.restart := rfl
@[simp] theorem setGrants_detectorArmed (l : List Grant) (s : State) : (setGrants l s).detectorArmed = s.detectorArmed := rfl
@[simp] theorem setGrants_config (l : List Grant) (s : State) : (setGrants l s).config = s.config := rfl
@[simp] theorem setGrants_imageGood (l : List Grant) (s : State) : (setGrants l s).imageGood = s.imageGood := rfl
@[simp] theorem setGrants_topics (l : List Grant) (s : State) : (setGrants l s).topics = s.topics := rfl
@[simp] theorem setGrants_bus (l : List Grant) (s : State) : (setGrants l s).bus = s.bus := rfl
@[simp] theorem setGrants_pose (l : List Grant) (s : State) : (setGrants l s).pose = s.pose := rfl
@[simp] theorem setGrants_limits (l : List Grant) (s : State) : (setGrants l s).limits = s.limits := rfl
@[simp] theorem setGrants_intervention (l : List Grant) (s : State) : (setGrants l s).intervention = s.intervention := rfl
@[simp] theorem setGrants_guidance (l : List Grant) (s : State) : (setGrants l s).guidance = s.guidance := rfl
@[simp] theorem setGrants_economy (l : List Grant) (s : State) : (setGrants l s).economy = s.economy := rfl
@[simp] theorem setGrants_time (l : List Grant) (s : State) : (setGrants l s).time = s.time := rfl
@[simp] theorem setGrants_meter (l : List Grant) (s : State) : (setGrants l s).meter = s.meter := rfl
@[simp] theorem setGrants_service (l : List Grant) (s : State) : (setGrants l s).service = s.service := rfl
@[simp] theorem setGrants_diag (l : List Grant) (s : State) : (setGrants l s).diag = s.diag := rfl
@[simp] theorem setGrants_store (l : List Grant) (s : State) : (setGrants l s).store = s.store := rfl
@[simp] theorem setGrants_access (l : List Grant) (s : State) : (setGrants l s).access = l := rfl
@[simp] theorem setGrants_pending (l : List Grant) (s : State) : (setGrants l s).pending = s.pending := rfl

@[simp] theorem setLimit_now (i : Nat) (e : LimitEntry) (s : State) : (setLimit i e s).now = s.now := rfl
@[simp] theorem setLimit_freeCount (i : Nat) (e : LimitEntry) (s : State) : (setLimit i e s).freeCount = s.freeCount := rfl
@[simp] theorem setLimit_power (i : Nat) (e : LimitEntry) (s : State) : (setLimit i e s).power = s.power := rfl
@[simp] theorem setLimit_limpCause (i : Nat) (e : LimitEntry) (s : State) : (setLimit i e s).limpCause = s.limpCause := rfl
@[simp] theorem setLimit_station (i : Nat) (e : LimitEntry) (s : State) : (setLimit i e s).station = s.station := rfl
@[simp] theorem setLimit_pins (i : Nat) (e : LimitEntry) (s : State) : (setLimit i e s).pins = s.pins := rfl
@[simp] theorem setLimit_keyOffHeld (i : Nat) (e : LimitEntry) (s : State) : (setLimit i e s).keyOffHeld = s.keyOffHeld := rfl
@[simp] theorem setLimit_listenEnds (i : Nat) (e : LimitEntry) (s : State) : (setLimit i e s).listenEnds = s.listenEnds := rfl
@[simp] theorem setLimit_restart (i : Nat) (e : LimitEntry) (s : State) : (setLimit i e s).restart = s.restart := rfl
@[simp] theorem setLimit_detectorArmed (i : Nat) (e : LimitEntry) (s : State) : (setLimit i e s).detectorArmed = s.detectorArmed := rfl
@[simp] theorem setLimit_config (i : Nat) (e : LimitEntry) (s : State) : (setLimit i e s).config = s.config := rfl
@[simp] theorem setLimit_imageGood (i : Nat) (e : LimitEntry) (s : State) : (setLimit i e s).imageGood = s.imageGood := rfl
@[simp] theorem setLimit_topics (i : Nat) (e : LimitEntry) (s : State) : (setLimit i e s).topics = s.topics := rfl
@[simp] theorem setLimit_bus (i : Nat) (e : LimitEntry) (s : State) : (setLimit i e s).bus = s.bus := rfl
@[simp] theorem setLimit_pose (i : Nat) (e : LimitEntry) (s : State) : (setLimit i e s).pose = s.pose := rfl
@[simp] theorem setLimit_limits (i : Nat) (e : LimitEntry) (s : State) : (setLimit i e s).limits = s.limits.set i e := rfl
@[simp] theorem setLimit_intervention (i : Nat) (e : LimitEntry) (s : State) : (setLimit i e s).intervention = s.intervention := rfl
@[simp] theorem setLimit_guidance (i : Nat) (e : LimitEntry) (s : State) : (setLimit i e s).guidance = s.guidance := rfl
@[simp] theorem setLimit_economy (i : Nat) (e : LimitEntry) (s : State) : (setLimit i e s).economy = s.economy := rfl
@[simp] theorem setLimit_time (i : Nat) (e : LimitEntry) (s : State) : (setLimit i e s).time = s.time := rfl
@[simp] theorem setLimit_meter (i : Nat) (e : LimitEntry) (s : State) : (setLimit i e s).meter = s.meter := rfl
@[simp] theorem setLimit_service (i : Nat) (e : LimitEntry) (s : State) : (setLimit i e s).service = s.service := rfl
@[simp] theorem setLimit_diag (i : Nat) (e : LimitEntry) (s : State) : (setLimit i e s).diag = s.diag := rfl
@[simp] theorem setLimit_store (i : Nat) (e : LimitEntry) (s : State) : (setLimit i e s).store = s.store := rfl
@[simp] theorem setLimit_access (i : Nat) (e : LimitEntry) (s : State) : (setLimit i e s).access = s.access := rfl
@[simp] theorem setLimit_pending (i : Nat) (e : LimitEntry) (s : State) : (setLimit i e s).pending = s.pending := rfl

@[simp] theorem setTopic_now (i : Nat) (e : SubEntry) (s : State) : (setTopic i e s).now = s.now := rfl
@[simp] theorem setTopic_freeCount (i : Nat) (e : SubEntry) (s : State) : (setTopic i e s).freeCount = s.freeCount := rfl
@[simp] theorem setTopic_power (i : Nat) (e : SubEntry) (s : State) : (setTopic i e s).power = s.power := rfl
@[simp] theorem setTopic_limpCause (i : Nat) (e : SubEntry) (s : State) : (setTopic i e s).limpCause = s.limpCause := rfl
@[simp] theorem setTopic_station (i : Nat) (e : SubEntry) (s : State) : (setTopic i e s).station = s.station := rfl
@[simp] theorem setTopic_pins (i : Nat) (e : SubEntry) (s : State) : (setTopic i e s).pins = s.pins := rfl
@[simp] theorem setTopic_keyOffHeld (i : Nat) (e : SubEntry) (s : State) : (setTopic i e s).keyOffHeld = s.keyOffHeld := rfl
@[simp] theorem setTopic_listenEnds (i : Nat) (e : SubEntry) (s : State) : (setTopic i e s).listenEnds = s.listenEnds := rfl
@[simp] theorem setTopic_restart (i : Nat) (e : SubEntry) (s : State) : (setTopic i e s).restart = s.restart := rfl
@[simp] theorem setTopic_detectorArmed (i : Nat) (e : SubEntry) (s : State) : (setTopic i e s).detectorArmed = s.detectorArmed := rfl
@[simp] theorem setTopic_config (i : Nat) (e : SubEntry) (s : State) : (setTopic i e s).config = s.config := rfl
@[simp] theorem setTopic_imageGood (i : Nat) (e : SubEntry) (s : State) : (setTopic i e s).imageGood = s.imageGood := rfl
@[simp] theorem setTopic_topics (i : Nat) (e : SubEntry) (s : State) : (setTopic i e s).topics = s.topics.set i e := rfl
@[simp] theorem setTopic_bus (i : Nat) (e : SubEntry) (s : State) : (setTopic i e s).bus = s.bus := rfl
@[simp] theorem setTopic_pose (i : Nat) (e : SubEntry) (s : State) : (setTopic i e s).pose = s.pose := rfl
@[simp] theorem setTopic_limits (i : Nat) (e : SubEntry) (s : State) : (setTopic i e s).limits = s.limits := rfl
@[simp] theorem setTopic_intervention (i : Nat) (e : SubEntry) (s : State) : (setTopic i e s).intervention = s.intervention := rfl
@[simp] theorem setTopic_guidance (i : Nat) (e : SubEntry) (s : State) : (setTopic i e s).guidance = s.guidance := rfl
@[simp] theorem setTopic_economy (i : Nat) (e : SubEntry) (s : State) : (setTopic i e s).economy = s.economy := rfl
@[simp] theorem setTopic_time (i : Nat) (e : SubEntry) (s : State) : (setTopic i e s).time = s.time := rfl
@[simp] theorem setTopic_meter (i : Nat) (e : SubEntry) (s : State) : (setTopic i e s).meter = s.meter := rfl
@[simp] theorem setTopic_service (i : Nat) (e : SubEntry) (s : State) : (setTopic i e s).service = s.service := rfl
@[simp] theorem setTopic_diag (i : Nat) (e : SubEntry) (s : State) : (setTopic i e s).diag = s.diag := rfl
@[simp] theorem setTopic_store (i : Nat) (e : SubEntry) (s : State) : (setTopic i e s).store = s.store := rfl
@[simp] theorem setTopic_access (i : Nat) (e : SubEntry) (s : State) : (setTopic i e s).access = s.access := rfl
@[simp] theorem setTopic_pending (i : Nat) (e : SubEntry) (s : State) : (setTopic i e s).pending = s.pending := rfl

@[simp] theorem setQueue_now (q : List Job) (s : State) : (setQueue q s).now = s.now := rfl
@[simp] theorem setQueue_freeCount (q : List Job) (s : State) : (setQueue q s).freeCount = s.freeCount := rfl
@[simp] theorem setQueue_power (q : List Job) (s : State) : (setQueue q s).power = s.power := rfl
@[simp] theorem setQueue_limpCause (q : List Job) (s : State) : (setQueue q s).limpCause = s.limpCause := rfl
@[simp] theorem setQueue_station (q : List Job) (s : State) : (setQueue q s).station = s.station := rfl
@[simp] theorem setQueue_pins (q : List Job) (s : State) : (setQueue q s).pins = s.pins := rfl
@[simp] theorem setQueue_keyOffHeld (q : List Job) (s : State) : (setQueue q s).keyOffHeld = s.keyOffHeld := rfl
@[simp] theorem setQueue_listenEnds (q : List Job) (s : State) : (setQueue q s).listenEnds = s.listenEnds := rfl
@[simp] theorem setQueue_restart (q : List Job) (s : State) : (setQueue q s).restart = s.restart := rfl
@[simp] theorem setQueue_detectorArmed (q : List Job) (s : State) : (setQueue q s).detectorArmed = s.detectorArmed := rfl
@[simp] theorem setQueue_config (q : List Job) (s : State) : (setQueue q s).config = s.config := rfl
@[simp] theorem setQueue_imageGood (q : List Job) (s : State) : (setQueue q s).imageGood = s.imageGood := rfl
@[simp] theorem setQueue_topics (q : List Job) (s : State) : (setQueue q s).topics = s.topics := rfl
@[simp] theorem setQueue_bus (q : List Job) (s : State) : (setQueue q s).bus = s.bus := rfl
@[simp] theorem setQueue_pose (q : List Job) (s : State) : (setQueue q s).pose = s.pose := rfl
@[simp] theorem setQueue_limits (q : List Job) (s : State) : (setQueue q s).limits = s.limits := rfl
@[simp] theorem setQueue_intervention (q : List Job) (s : State) : (setQueue q s).intervention = s.intervention := rfl
@[simp] theorem setQueue_guidance (q : List Job) (s : State) : (setQueue q s).guidance = s.guidance := rfl
@[simp] theorem setQueue_economy (q : List Job) (s : State) : (setQueue q s).economy = s.economy := rfl
@[simp] theorem setQueue_time (q : List Job) (s : State) : (setQueue q s).time = s.time := rfl
@[simp] theorem setQueue_meter (q : List Job) (s : State) : (setQueue q s).meter = s.meter := rfl
@[simp] theorem setQueue_service (q : List Job) (s : State) : (setQueue q s).service = s.service := rfl
@[simp] theorem setQueue_diag (q : List Job) (s : State) : (setQueue q s).diag = s.diag := rfl
@[simp] theorem setQueue_store (q : List Job) (s : State) : (setQueue q s).store = { s.store with queue := q } := rfl
@[simp] theorem setQueue_access (q : List Job) (s : State) : (setQueue q s).access = s.access := rfl
@[simp] theorem setQueue_pending (q : List Job) (s : State) : (setQueue q s).pending = s.pending := rfl

@[simp] theorem setCutout_now (b : Bool) (s : State) : (setCutout b s).now = s.now := rfl
@[simp] theorem setCutout_freeCount (b : Bool) (s : State) : (setCutout b s).freeCount = s.freeCount := rfl
@[simp] theorem setCutout_power (b : Bool) (s : State) : (setCutout b s).power = s.power := rfl
@[simp] theorem setCutout_limpCause (b : Bool) (s : State) : (setCutout b s).limpCause = s.limpCause := rfl
@[simp] theorem setCutout_station (b : Bool) (s : State) : (setCutout b s).station = s.station := rfl
@[simp] theorem setCutout_pins (b : Bool) (s : State) : (setCutout b s).pins = { s.pins with cutout := b } := rfl
@[simp] theorem setCutout_keyOffHeld (b : Bool) (s : State) : (setCutout b s).keyOffHeld = s.keyOffHeld := rfl
@[simp] theorem setCutout_listenEnds (b : Bool) (s : State) : (setCutout b s).listenEnds = s.listenEnds := rfl
@[simp] theorem setCutout_restart (b : Bool) (s : State) : (setCutout b s).restart = s.restart := rfl
@[simp] theorem setCutout_detectorArmed (b : Bool) (s : State) : (setCutout b s).detectorArmed = s.detectorArmed := rfl
@[simp] theorem setCutout_config (b : Bool) (s : State) : (setCutout b s).config = s.config := rfl
@[simp] theorem setCutout_imageGood (b : Bool) (s : State) : (setCutout b s).imageGood = s.imageGood := rfl
@[simp] theorem setCutout_topics (b : Bool) (s : State) : (setCutout b s).topics = s.topics := rfl
@[simp] theorem setCutout_bus (b : Bool) (s : State) : (setCutout b s).bus = s.bus := rfl
@[simp] theorem setCutout_pose (b : Bool) (s : State) : (setCutout b s).pose = s.pose := rfl
@[simp] theorem setCutout_limits (b : Bool) (s : State) : (setCutout b s).limits = s.limits := rfl
@[simp] theorem setCutout_intervention (b : Bool) (s : State) : (setCutout b s).intervention = s.intervention := rfl
@[simp] theorem setCutout_guidance (b : Bool) (s : State) : (setCutout b s).guidance = s.guidance := rfl
@[simp] theorem setCutout_economy (b : Bool) (s : State) : (setCutout b s).economy = s.economy := rfl
@[simp] theorem setCutout_time (b : Bool) (s : State) : (setCutout b s).time = s.time := rfl
@[simp] theorem setCutout_meter (b : Bool) (s : State) : (setCutout b s).meter = s.meter := rfl
@[simp] theorem setCutout_service (b : Bool) (s : State) : (setCutout b s).service = s.service := rfl
@[simp] theorem setCutout_diag (b : Bool) (s : State) : (setCutout b s).diag = s.diag := rfl
@[simp] theorem setCutout_store (b : Bool) (s : State) : (setCutout b s).store = s.store := rfl
@[simp] theorem setCutout_access (b : Bool) (s : State) : (setCutout b s).access = s.access := rfl
@[simp] theorem setCutout_pending (b : Bool) (s : State) : (setCutout b s).pending = s.pending := rfl

@[simp] theorem useFree_now (s : State) : (useFree s).now = s.now := rfl
@[simp] theorem useFree_freeCount (s : State) : (useFree s).freeCount = s.freeCount + 1 := rfl
@[simp] theorem useFree_power (s : State) : (useFree s).power = s.power := rfl
@[simp] theorem useFree_limpCause (s : State) : (useFree s).limpCause = s.limpCause := rfl
@[simp] theorem useFree_station (s : State) : (useFree s).station = s.station := rfl
@[simp] theorem useFree_pins (s : State) : (useFree s).pins = s.pins := rfl
@[simp] theorem useFree_keyOffHeld (s : State) : (useFree s).keyOffHeld = s.keyOffHeld := rfl
@[simp] theorem useFree_listenEnds (s : State) : (useFree s).listenEnds = s.listenEnds := rfl
@[simp] theorem useFree_restart (s : State) : (useFree s).restart = s.restart := rfl
@[simp] theorem useFree_detectorArmed (s : State) : (useFree s).detectorArmed = s.detectorArmed := rfl
@[simp] theorem useFree_config (s : State) : (useFree s).config = s.config := rfl
@[simp] theorem useFree_imageGood (s : State) : (useFree s).imageGood = s.imageGood := rfl
@[simp] theorem useFree_topics (s : State) : (useFree s).topics = s.topics := rfl
@[simp] theorem useFree_bus (s : State) : (useFree s).bus = s.bus := rfl
@[simp] theorem useFree_pose (s : State) : (useFree s).pose = s.pose := rfl
@[simp] theorem useFree_limits (s : State) : (useFree s).limits = s.limits := rfl
@[simp] theorem useFree_intervention (s : State) : (useFree s).intervention = s.intervention := rfl
@[simp] theorem useFree_guidance (s : State) : (useFree s).guidance = s.guidance := rfl
@[simp] theorem useFree_economy (s : State) : (useFree s).economy = s.economy := rfl
@[simp] theorem useFree_time (s : State) : (useFree s).time = s.time := rfl
@[simp] theorem useFree_meter (s : State) : (useFree s).meter = s.meter := rfl
@[simp] theorem useFree_service (s : State) : (useFree s).service = s.service := rfl
@[simp] theorem useFree_diag (s : State) : (useFree s).diag = s.diag := rfl
@[simp] theorem useFree_store (s : State) : (useFree s).store = s.store := rfl
@[simp] theorem useFree_access (s : State) : (useFree s).access = s.access := rfl
@[simp] theorem useFree_pending (s : State) : (useFree s).pending = s.pending := rfl

@[simp] theorem placeContent_now (p : CyclicPub) (d : List Byte) (s : State) : (placeContent p d s).now = s.now := rfl
@[simp] theorem placeContent_freeCount (p : CyclicPub) (d : List Byte) (s : State) : (placeContent p d s).freeCount = s.freeCount := rfl
@[simp] theorem placeContent_power (p : CyclicPub) (d : List Byte) (s : State) : (placeContent p d s).power = s.power := rfl
@[simp] theorem placeContent_limpCause (p : CyclicPub) (d : List Byte) (s : State) : (placeContent p d s).limpCause = s.limpCause := rfl
@[simp] theorem placeContent_station (p : CyclicPub) (d : List Byte) (s : State) : (placeContent p d s).station = s.station := rfl
@[simp] theorem placeContent_pins (p : CyclicPub) (d : List Byte) (s : State) : (placeContent p d s).pins = s.pins := rfl
@[simp] theorem placeContent_keyOffHeld (p : CyclicPub) (d : List Byte) (s : State) : (placeContent p d s).keyOffHeld = s.keyOffHeld := rfl
@[simp] theorem placeContent_listenEnds (p : CyclicPub) (d : List Byte) (s : State) : (placeContent p d s).listenEnds = s.listenEnds := rfl
@[simp] theorem placeContent_restart (p : CyclicPub) (d : List Byte) (s : State) : (placeContent p d s).restart = s.restart := rfl
@[simp] theorem placeContent_detectorArmed (p : CyclicPub) (d : List Byte) (s : State) : (placeContent p d s).detectorArmed = s.detectorArmed := rfl
@[simp] theorem placeContent_config (p : CyclicPub) (d : List Byte) (s : State) : (placeContent p d s).config = s.config := rfl
@[simp] theorem placeContent_imageGood (p : CyclicPub) (d : List Byte) (s : State) : (placeContent p d s).imageGood = s.imageGood := rfl
@[simp] theorem placeContent_topics (p : CyclicPub) (d : List Byte) (s : State) : (placeContent p d s).topics = s.topics := rfl
@[simp] theorem placeContent_bus (p : CyclicPub) (d : List Byte) (s : State) : (placeContent p d s).bus = s.bus.setPlace ((s.bus.place p).fill d) p := rfl
@[simp] theorem placeContent_pose (p : CyclicPub) (d : List Byte) (s : State) : (placeContent p d s).pose = s.pose := rfl
@[simp] theorem placeContent_limits (p : CyclicPub) (d : List Byte) (s : State) : (placeContent p d s).limits = s.limits := rfl
@[simp] theorem placeContent_intervention (p : CyclicPub) (d : List Byte) (s : State) : (placeContent p d s).intervention = s.intervention := rfl
@[simp] theorem placeContent_guidance (p : CyclicPub) (d : List Byte) (s : State) : (placeContent p d s).guidance = s.guidance := rfl
@[simp] theorem placeContent_economy (p : CyclicPub) (d : List Byte) (s : State) : (placeContent p d s).economy = s.economy := rfl
@[simp] theorem placeContent_time (p : CyclicPub) (d : List Byte) (s : State) : (placeContent p d s).time = s.time := rfl
@[simp] theorem placeContent_meter (p : CyclicPub) (d : List Byte) (s : State) : (placeContent p d s).meter = s.meter := rfl
@[simp] theorem placeContent_service (p : CyclicPub) (d : List Byte) (s : State) : (placeContent p d s).service = s.service := rfl
@[simp] theorem placeContent_diag (p : CyclicPub) (d : List Byte) (s : State) : (placeContent p d s).diag = s.diag := rfl
@[simp] theorem placeContent_store (p : CyclicPub) (d : List Byte) (s : State) : (placeContent p d s).store = s.store := rfl
@[simp] theorem placeContent_access (p : CyclicPub) (d : List Byte) (s : State) : (placeContent p d s).access = s.access := rfl
@[simp] theorem placeContent_pending (p : CyclicPub) (d : List Byte) (s : State) : (placeContent p d s).pending = s.pending := rfl

@[simp] theorem report_now (c : FaultCode) (f : FaultSource) (s : State) : (report c f s).now = s.now := rfl
@[simp] theorem report_freeCount (c : FaultCode) (f : FaultSource) (s : State) : (report c f s).freeCount = s.freeCount := rfl
@[simp] theorem report_power (c : FaultCode) (f : FaultSource) (s : State) : (report c f s).power = s.power := rfl
@[simp] theorem report_limpCause (c : FaultCode) (f : FaultSource) (s : State) : (report c f s).limpCause = s.limpCause := rfl
@[simp] theorem report_station (c : FaultCode) (f : FaultSource) (s : State) : (report c f s).station = s.station := rfl
@[simp] theorem report_pins (c : FaultCode) (f : FaultSource) (s : State) : (report c f s).pins = s.pins := rfl
@[simp] theorem report_keyOffHeld (c : FaultCode) (f : FaultSource) (s : State) : (report c f s).keyOffHeld = s.keyOffHeld := rfl
@[simp] theorem report_listenEnds (c : FaultCode) (f : FaultSource) (s : State) : (report c f s).listenEnds = s.listenEnds := rfl
@[simp] theorem report_restart (c : FaultCode) (f : FaultSource) (s : State) : (report c f s).restart = s.restart := rfl
@[simp] theorem report_detectorArmed (c : FaultCode) (f : FaultSource) (s : State) : (report c f s).detectorArmed = s.detectorArmed := rfl
@[simp] theorem report_config (c : FaultCode) (f : FaultSource) (s : State) : (report c f s).config = s.config := rfl
@[simp] theorem report_imageGood (c : FaultCode) (f : FaultSource) (s : State) : (report c f s).imageGood = s.imageGood := rfl
@[simp] theorem report_topics (c : FaultCode) (f : FaultSource) (s : State) : (report c f s).topics = s.topics := rfl
@[simp] theorem report_bus (c : FaultCode) (f : FaultSource) (s : State) : (report c f s).bus = s.bus := rfl
@[simp] theorem report_pose (c : FaultCode) (f : FaultSource) (s : State) : (report c f s).pose = s.pose := rfl
@[simp] theorem report_limits (c : FaultCode) (f : FaultSource) (s : State) : (report c f s).limits = s.limits := rfl
@[simp] theorem report_intervention (c : FaultCode) (f : FaultSource) (s : State) : (report c f s).intervention = s.intervention := rfl
@[simp] theorem report_guidance (c : FaultCode) (f : FaultSource) (s : State) : (report c f s).guidance = s.guidance := rfl
@[simp] theorem report_economy (c : FaultCode) (f : FaultSource) (s : State) : (report c f s).economy = s.economy := rfl
@[simp] theorem report_time (c : FaultCode) (f : FaultSource) (s : State) : (report c f s).time = s.time := rfl
@[simp] theorem report_meter (c : FaultCode) (f : FaultSource) (s : State) : (report c f s).meter = s.meter := rfl
@[simp] theorem report_service (c : FaultCode) (f : FaultSource) (s : State) : (report c f s).service = s.service := rfl
@[simp] theorem report_diag (c : FaultCode) (f : FaultSource) (s : State) : (report c f s).diag = reportTo s.diag (stampNow s) c f true := rfl
@[simp] theorem report_store (c : FaultCode) (f : FaultSource) (s : State) : (report c f s).store = s.store := rfl
@[simp] theorem report_access (c : FaultCode) (f : FaultSource) (s : State) : (report c f s).access = s.access := rfl
@[simp] theorem report_pending (c : FaultCode) (f : FaultSource) (s : State) : (report c f s).pending = s.pending := rfl

@[simp] theorem endFault_now (c : FaultCode) (f : FaultSource) (s : State) : (endFault c f s).now = s.now := rfl
@[simp] theorem endFault_freeCount (c : FaultCode) (f : FaultSource) (s : State) : (endFault c f s).freeCount = s.freeCount := rfl
@[simp] theorem endFault_power (c : FaultCode) (f : FaultSource) (s : State) : (endFault c f s).power = s.power := rfl
@[simp] theorem endFault_limpCause (c : FaultCode) (f : FaultSource) (s : State) : (endFault c f s).limpCause = s.limpCause := rfl
@[simp] theorem endFault_station (c : FaultCode) (f : FaultSource) (s : State) : (endFault c f s).station = s.station := rfl
@[simp] theorem endFault_pins (c : FaultCode) (f : FaultSource) (s : State) : (endFault c f s).pins = s.pins := rfl
@[simp] theorem endFault_keyOffHeld (c : FaultCode) (f : FaultSource) (s : State) : (endFault c f s).keyOffHeld = s.keyOffHeld := rfl
@[simp] theorem endFault_listenEnds (c : FaultCode) (f : FaultSource) (s : State) : (endFault c f s).listenEnds = s.listenEnds := rfl
@[simp] theorem endFault_restart (c : FaultCode) (f : FaultSource) (s : State) : (endFault c f s).restart = s.restart := rfl
@[simp] theorem endFault_detectorArmed (c : FaultCode) (f : FaultSource) (s : State) : (endFault c f s).detectorArmed = s.detectorArmed := rfl
@[simp] theorem endFault_config (c : FaultCode) (f : FaultSource) (s : State) : (endFault c f s).config = s.config := rfl
@[simp] theorem endFault_imageGood (c : FaultCode) (f : FaultSource) (s : State) : (endFault c f s).imageGood = s.imageGood := rfl
@[simp] theorem endFault_topics (c : FaultCode) (f : FaultSource) (s : State) : (endFault c f s).topics = s.topics := rfl
@[simp] theorem endFault_bus (c : FaultCode) (f : FaultSource) (s : State) : (endFault c f s).bus = s.bus := rfl
@[simp] theorem endFault_pose (c : FaultCode) (f : FaultSource) (s : State) : (endFault c f s).pose = s.pose := rfl
@[simp] theorem endFault_limits (c : FaultCode) (f : FaultSource) (s : State) : (endFault c f s).limits = s.limits := rfl
@[simp] theorem endFault_intervention (c : FaultCode) (f : FaultSource) (s : State) : (endFault c f s).intervention = s.intervention := rfl
@[simp] theorem endFault_guidance (c : FaultCode) (f : FaultSource) (s : State) : (endFault c f s).guidance = s.guidance := rfl
@[simp] theorem endFault_economy (c : FaultCode) (f : FaultSource) (s : State) : (endFault c f s).economy = s.economy := rfl
@[simp] theorem endFault_time (c : FaultCode) (f : FaultSource) (s : State) : (endFault c f s).time = s.time := rfl
@[simp] theorem endFault_meter (c : FaultCode) (f : FaultSource) (s : State) : (endFault c f s).meter = s.meter := rfl
@[simp] theorem endFault_service (c : FaultCode) (f : FaultSource) (s : State) : (endFault c f s).service = s.service := rfl
@[simp] theorem endFault_diag (c : FaultCode) (f : FaultSource) (s : State) : (endFault c f s).diag = endIn s.diag (stampNow s) c f := rfl
@[simp] theorem endFault_store (c : FaultCode) (f : FaultSource) (s : State) : (endFault c f s).store = s.store := rfl
@[simp] theorem endFault_access (c : FaultCode) (f : FaultSource) (s : State) : (endFault c f s).access = s.access := rfl
@[simp] theorem endFault_pending (c : FaultCode) (f : FaultSource) (s : State) : (endFault c f s).pending = s.pending := rfl

@[simp] theorem modifyRequest_now (n : Nat) (f : SubEntry → SubEntry) (s : State) : (modifyRequest n f s).now = s.now := rfl
@[simp] theorem modifyRequest_freeCount (n : Nat) (f : SubEntry → SubEntry) (s : State) : (modifyRequest n f s).freeCount = s.freeCount := rfl
@[simp] theorem modifyRequest_power (n : Nat) (f : SubEntry → SubEntry) (s : State) : (modifyRequest n f s).power = s.power := rfl
@[simp] theorem modifyRequest_limpCause (n : Nat) (f : SubEntry → SubEntry) (s : State) : (modifyRequest n f s).limpCause = s.limpCause := rfl
@[simp] theorem modifyRequest_station (n : Nat) (f : SubEntry → SubEntry) (s : State) : (modifyRequest n f s).station = s.station := rfl
@[simp] theorem modifyRequest_pins (n : Nat) (f : SubEntry → SubEntry) (s : State) : (modifyRequest n f s).pins = s.pins := rfl
@[simp] theorem modifyRequest_keyOffHeld (n : Nat) (f : SubEntry → SubEntry) (s : State) : (modifyRequest n f s).keyOffHeld = s.keyOffHeld := rfl
@[simp] theorem modifyRequest_listenEnds (n : Nat) (f : SubEntry → SubEntry) (s : State) : (modifyRequest n f s).listenEnds = s.listenEnds := rfl
@[simp] theorem modifyRequest_restart (n : Nat) (f : SubEntry → SubEntry) (s : State) : (modifyRequest n f s).restart = s.restart := rfl
@[simp] theorem modifyRequest_detectorArmed (n : Nat) (f : SubEntry → SubEntry) (s : State) : (modifyRequest n f s).detectorArmed = s.detectorArmed := rfl
@[simp] theorem modifyRequest_config (n : Nat) (f : SubEntry → SubEntry) (s : State) : (modifyRequest n f s).config = s.config := rfl
@[simp] theorem modifyRequest_imageGood (n : Nat) (f : SubEntry → SubEntry) (s : State) : (modifyRequest n f s).imageGood = s.imageGood := rfl
@[simp] theorem modifyRequest_topics (n : Nat) (f : SubEntry → SubEntry) (s : State) : (modifyRequest n f s).topics = mapWhere (servesStation n) f s.topics := rfl
@[simp] theorem modifyRequest_bus (n : Nat) (f : SubEntry → SubEntry) (s : State) : (modifyRequest n f s).bus = s.bus := rfl
@[simp] theorem modifyRequest_pose (n : Nat) (f : SubEntry → SubEntry) (s : State) : (modifyRequest n f s).pose = s.pose := rfl
@[simp] theorem modifyRequest_limits (n : Nat) (f : SubEntry → SubEntry) (s : State) : (modifyRequest n f s).limits = s.limits := rfl
@[simp] theorem modifyRequest_intervention (n : Nat) (f : SubEntry → SubEntry) (s : State) : (modifyRequest n f s).intervention = s.intervention := rfl
@[simp] theorem modifyRequest_guidance (n : Nat) (f : SubEntry → SubEntry) (s : State) : (modifyRequest n f s).guidance = s.guidance := rfl
@[simp] theorem modifyRequest_economy (n : Nat) (f : SubEntry → SubEntry) (s : State) : (modifyRequest n f s).economy = s.economy := rfl
@[simp] theorem modifyRequest_time (n : Nat) (f : SubEntry → SubEntry) (s : State) : (modifyRequest n f s).time = s.time := rfl
@[simp] theorem modifyRequest_meter (n : Nat) (f : SubEntry → SubEntry) (s : State) : (modifyRequest n f s).meter = s.meter := rfl
@[simp] theorem modifyRequest_service (n : Nat) (f : SubEntry → SubEntry) (s : State) : (modifyRequest n f s).service = s.service := rfl
@[simp] theorem modifyRequest_diag (n : Nat) (f : SubEntry → SubEntry) (s : State) : (modifyRequest n f s).diag = s.diag := rfl
@[simp] theorem modifyRequest_store (n : Nat) (f : SubEntry → SubEntry) (s : State) : (modifyRequest n f s).store = s.store := rfl
@[simp] theorem modifyRequest_access (n : Nat) (f : SubEntry → SubEntry) (s : State) : (modifyRequest n f s).access = s.access := rfl
@[simp] theorem modifyRequest_pending (n : Nat) (f : SubEntry → SubEntry) (s : State) : (modifyRequest n f s).pending = s.pending := rfl

end Sys2Proof.Machine
end

