-- ==== Sys2Proof/Laws/Frame.lean ====
section
/-! SUPPORT. What the blocks' effects never touch: the part's time, power, lines, queue of commands and
configuration; and the nonvolatile array, which only a write's end changes. One lemma for each operation. -/

namespace Sys2Proof.Machine

/-- The part's time, power, lines, queue of commands and configuration. -/
def lines (s : State) : (Nat × PowerState × Pins × List Instr) × (Nat × Option LimpCause × Bool × Option Nat)
    × (Bool × ImageFields × Bool) :=
  ((s.now, s.power, s.pins, s.pending), (s.station, s.limpCause, s.keyOffHeld, s.listenEnds),
    (s.detectorArmed, s.config, s.imageGood))

/-- The store as it stands but for its jobs. -/
def arrayOf (s : State) : ParameterStore := { s.store with queue := [], writing := none }

/-- The lines and the nonvolatile array. -/
def frame (s : State) := (lines s, arrayOf s)

theorem frame_foldl {α : Type} (f : State → α → State) (hf : ∀ s a, frame (f s a) = frame s) (l : List α)
    (s : State) : frame (l.foldl f s) = frame s := by
  induction l generalizing s with
  | nil => rfl
  | cons a l ih => exact (ih (f s a)).trans (hf s a)

/-! ## Free values -/

theorem frame_useFree (s : State) : frame (useFree s) = frame s := rfl

/-! ## Diagnostic List -/

theorem frame_report (code : FaultCode) (source : FaultSource) (s : State) :
    frame (report code source s) = frame s := rfl

theorem frame_endFault (code : FaultCode) (source : FaultSource) (s : State) :
    frame (endFault code source s) = frame s := rfl

theorem frame_pulseFault (code : FaultCode) (source : FaultSource) (s : State) :
    frame (pulseFault code source s) = frame s := rfl

/-! ## Transmit queue -/

theorem frame_placeContent (p : CyclicPub) (data : List Byte) (s : State) :
    frame (placeContent p data s) = frame s := rfl

theorem frame_queueWarning (n : WarnNotice) (s : State) : frame (queueWarning n s) = frame s := by
  unfold queueWarning
  try dsimp only
  repeat' split
  all_goals rfl

theorem frame_queueRecordNotice (seq : Nat) (data : List Byte) (s : State) :
    frame (queueRecordNotice seq data s) = frame s := by
  unfold queueRecordNotice
  try dsimp only
  repeat' split
  all_goals rfl

theorem frame_setItem (i : Nat) (item : ServiceItem) (s : State) : frame (setItem i item s) = frame s := rfl

theorem frame_queueServiceNotice (i : Nat) (item : ServiceItem) (kind : ServiceNoticeKind) (s : State) :
    frame (queueServiceNotice i item kind s) = frame s := by
  unfold queueServiceNotice
  try dsimp only
  repeat' split
  all_goals (try simp only [frame_setItem]) <;> rfl

theorem frame_offerOwed (s : State) : frame (offerOwed s) = frame s := by
  unfold offerOwed
  try dsimp only
  repeat' split
  all_goals (try simp only [frame_setItem]) <;> rfl

theorem frame_feedController (s : State) : frame (feedController s) = frame s := by
  unfold feedController
  try dsimp only
  repeat' split
  all_goals rfl

theorem frame_sentCyclic (p : CyclicPub) (s : State) : frame (sentCyclic p s) = frame s := by
  unfold sentCyclic
  try dsimp only
  repeat' split
  all_goals rfl

theorem frame_noteRestartReply (id : Nat) (s : State) : frame (noteRestartReply id s) = frame s := by
  unfold noteRestartReply
  try dsimp only
  repeat' split
  all_goals rfl

theorem frame_sentRing (f : RingFrame) (s : State) : frame (sentRing f s) = frame s := by
  unfold sentRing
  try dsimp only
  repeat' split
  all_goals (try simp only [frame_offerOwed, frame_noteRestartReply]) <;> rfl

/-! ## Replies -/

theorem frame_modifyRequest (station : Nat) (f : SubEntry → SubEntry) (s : State) :
    frame (modifyRequest station f s) = frame s := rfl

theorem frame_sendReply (t : Ticket) (r : Result) (data : List Byte) (s : State) :
    frame (sendReply t r data s) = frame s := by
  unfold sendReply
  try dsimp only
  repeat' split
  all_goals (try simp only [frame_modifyRequest]) <;> rfl

theorem frame_finishRequest (t : Ticket) (r : Result) (data : List Byte) (s : State) :
    frame (finishRequest t r data s) = frame s := by
  unfold finishRequest
  try dsimp only
  repeat' split
  all_goals (try simp only [frame_modifyRequest, frame_sendReply]) <;> rfl

theorem frame_renewGrant (station : Nat) (s : State) : frame (renewGrant station s) = frame s := rfl

/-! ## Store -/

theorem frame_setQueue (q : List Job) (s : State) : frame (setQueue q s) = frame s := rfl

theorem frame_queueJob (j : Job) (s : State) : frame (queueJob j s) = frame s := by
  simp only [queueJob, frame_setQueue]

theorem frame_carry (kind : Job → Bool) (fresh : List Ticket → Job) (t : Ticket) (s : State) :
    frame (carry kind fresh t s) = frame s := by
  unfold carry
  try dsimp only
  repeat' split
  all_goals (try simp only [frame_setQueue, frame_queueJob]) <;> rfl

theorem frame_beginWrite (s : State) : frame (beginWrite s) = frame s := by
  unfold beginWrite
  try dsimp only
  repeat' split
  all_goals rfl

theorem lines_cutOffStore (s : State) : lines (cutOffStore s) = lines s := by
  unfold cutOffStore
  split <;> rfl

/-! ## Economy Unit -/

theorem frame_setEconomy (e : EconomyUnit) (s : State) : frame (setEconomy e s) = frame s := rfl

theorem frame_enterEconomy (st : EconomyState) (s : State) : frame (enterEconomy st s) = frame s := by
  simp only [enterEconomy, frame_setEconomy]

theorem frame_enterIdleWait (s : State) : frame (enterIdleWait s) = frame s := by
  simp only [enterIdleWait, frame_setEconomy]
  try rfl

theorem frame_enterResuming (s : State) : frame (enterResuming s) = frame s := by
  simp only [enterResuming, frame_setEconomy]
  try rfl

theorem frame_enterIdling (s : State) : frame (enterIdling s) = frame s := by
  unfold enterIdling
  try dsimp only
  repeat' split
  all_goals (try simp only [frame_setEconomy]) <;> rfl

theorem frame_engineStopped (s : State) : frame (engineStopped s) = frame s := by
  unfold engineStopped
  try dsimp only
  repeat' split
  all_goals (try simp only [frame_enterEconomy]) <;> rfl

theorem frame_economyEngineRun (running : Bool) (speed : Nat) (s : State) :
    frame (economyEngineRun running speed s) = frame s := by
  unfold economyEngineRun
  try dsimp only
  repeat' split
  all_goals (try simp only [frame_enterEconomy, frame_engineStopped]) <;> rfl

theorem frame_activityPresent (s : State) : frame (activityPresent s) = frame s := by
  unfold activityPresent
  try dsimp only
  repeat' split
  all_goals (try simp only [frame_enterEconomy, frame_enterResuming]) <;> rfl

theorem frame_activityAbsent (s : State) : frame (activityAbsent s) = frame s := by
  unfold activityAbsent
  try dsimp only
  repeat' split
  all_goals (try simp only [frame_enterEconomy, frame_enterIdleWait]) <;> rfl

theorem frame_economyPilot (s : State) : frame (economyPilot s) = frame s := by
  unfold economyPilot
  try dsimp only
  repeat' split
  all_goals (try simp only [frame_activityPresent, frame_activityAbsent]) <;> rfl

theorem frame_listNonEmpty (s : State) : frame (listNonEmpty s) = frame s := by
  unfold listNonEmpty
  try dsimp only
  repeat' split
  all_goals (try simp only [frame_enterEconomy]) <;> rfl

theorem frame_listEmpty (s : State) : frame (listEmpty s) = frame s := by
  unfold listEmpty
  try dsimp only
  repeat' split
  all_goals (try simp only [frame_enterEconomy]) <;> rfl

theorem frame_economyForced (s : State) : frame (economyForced s) = frame s := by
  simp only [economyForced, frame_enterEconomy]

theorem frame_waitExpired (s : State) : frame (waitExpired s) = frame s := by
  unfold waitExpired
  try dsimp only
  repeat' split
  all_goals (try simp only [frame_enterIdling]) <;> rfl

theorem frame_shutdownExpired (s : State) : frame (shutdownExpired s) = frame s := by
  unfold shutdownExpired
  try dsimp only
  repeat' split
  all_goals (try simp only [frame_enterEconomy]) <;> rfl

theorem frame_resumeExpired (s : State) : frame (resumeExpired s) = frame s := by
  unfold resumeExpired
  try dsimp only
  repeat' split
  all_goals (try simp only [frame_enterEconomy]) <;> rfl

theorem frame_integrateFuel (rate : Nat) (s : State) : frame (integrateFuel rate s) = frame s := by
  simp only [integrateFuel, frame_setEconomy]
  try rfl

theorem frame_setDays (f : DayArea → DayArea) (s : State) : frame (setDays f s) = frame s := by
  simp only [setDays, frame_setEconomy]
  try rfl

theorem frame_modifyOpened (f : DayRecord → DayRecord) (s : State) : frame (modifyOpened f s) = frame s := by
  simp only [modifyOpened, frame_setDays]
  try rfl

theorem frame_economySecond (s : State) : frame (economySecond s) = frame s := by
  unfold economySecond
  try dsimp only
  repeat' split
  all_goals (try simp only [frame_setDays]) <;> rfl

theorem frame_shiftStart (s : State) : frame (shiftStart s) = frame s := by
  simp only [shiftStart, frame_setDays]
  try rfl

theorem frame_economyCycle (s : State) : frame (economyCycle s) = frame s := by
  simp only [economyCycle, frame_modifyOpened]
  try rfl

theorem frame_economyRaise (s : State) : frame (economyRaise s) = frame s := by
  simp only [economyRaise, frame_modifyOpened]
  try rfl

theorem frame_wantDayJob (s : State) : frame (wantDayJob s) = frame s := by
  unfold wantDayJob
  try dsimp only
  repeat' split
  all_goals (try simp only [frame_queueJob, frame_setEconomy]) <;> rfl

theorem frame_economyRollover (s : State) : frame (economyRollover s) = frame s := by
  simp only [economyRollover, frame_setDays, frame_wantDayJob]

theorem frame_economyClockSet (before : Date) (s : State) : frame (economyClockSet before s) = frame s := by
  unfold economyClockSet
  try dsimp only
  repeat' split
  all_goals (try simp only [frame_modifyOpened, frame_economyRollover]) <;> rfl

theorem frame_restoreDays (s : State) : frame (restoreDays s) = frame s := by
  unfold restoreDays
  try dsimp only
  repeat' split
  all_goals (try simp only [frame_report, frame_setEconomy, frame_setDays, frame_wantDayJob]) <;> rfl

/-! ## Service Unit -/

theorem frame_setService (u : ServiceUnit) (s : State) : frame (setService u s) = frame s := rfl

theorem frame_wantServiceJob (s : State) : frame (wantServiceJob s) = frame s := by
  unfold wantServiceJob
  try dsimp only
  repeat' split
  all_goals (try simp only [frame_queueJob, frame_setService]) <;> rfl

theorem frame_formDerate (s : State) : frame (formDerate s) = frame s := by
  simp only [formDerate, frame_setService]
  try rfl

theorem frame_restand (i : Nat) (item : ServiceItem) (m d : Standing) (s : State) :
    frame (restand i item m d s) = frame s := by
  unfold restand
  try dsimp only
  repeat' split
  all_goals (try simp only [frame_setItem, frame_queueServiceNotice, frame_wantServiceJob, frame_formDerate]) <;>
    rfl

theorem frame_forItems (f : Nat → ServiceItem → State → State) (hf : ∀ i x s, frame (f i x s) = frame s)
    (s : State) : frame (forItems f s) = frame s := by
  unfold forItems
  refine frame_foldl _ (fun s i => ?_) _ s
  split
  · exact hf _ _ _
  · rfl

theorem frame_serviceMeter (n : Nat) (s : State) : frame (serviceMeter n s) = frame s := by
  unfold serviceMeter
  refine frame_forItems _ (fun i x s => ?_) s
  try dsimp only
  repeat' split
  all_goals (try simp only [frame_restand]) <;> rfl

theorem frame_serviceCalendar (s : State) : frame (serviceCalendar s) = frame s := by
  unfold serviceCalendar
  split
  on_goal 1 => rfl
  all_goals refine frame_forItems _ (fun i x s => ?_) s
  try dsimp only
  repeat' split
  all_goals (try simp only [frame_restand]) <;> rfl

theorem frame_beginDayCounts (s : State) : frame (beginDayCounts s) = frame s := by
  unfold beginDayCounts
  split
  on_goal 1 => rfl
  all_goals refine frame_forItems _ (fun i x s => ?_) s
  try dsimp only
  repeat' split
  all_goals (try simp only [frame_setItem, frame_wantServiceJob]) <;> rfl

theorem frame_serviceRollover (s : State) : frame (serviceRollover s) = frame s := by
  simp only [serviceRollover, frame_serviceCalendar, frame_beginDayCounts]

theorem frame_serviceReminder (k : Nat) (s : State) : frame (serviceReminder k s) = frame s := by
  unfold serviceReminder
  refine frame_forItems _ (fun i x s => ?_) s
  try dsimp only
  repeat' split
  all_goals (try simp only [frame_queueServiceNotice]) <;> rfl

theorem frame_serviceShiftStart (s : State) : frame (serviceShiftStart s) = frame s := by
  simp only [serviceShiftStart, frame_setService]
  try rfl

theorem frame_recordService (i : Nat) (item : ServiceItem) (t : Ticket) (s : State) :
    frame (recordService i item t s) = frame s := by
  simp only [recordService, frame_setItem, frame_carry, frame_setService, frame_formDerate]
  try rfl

theorem frame_wantHistoryJob (s : State) : frame (wantHistoryJob s) = frame s := by
  unfold wantHistoryJob
  try dsimp only
  repeat' split
  all_goals (try simp only [frame_queueJob]) <;> rfl

theorem frame_restoreService (s : State) : frame (restoreService s) = frame s := by
  unfold restoreService
  try dsimp only
  repeat' split
  all_goals (try simp only [frame_report, frame_setService, frame_wantServiceJob, frame_formDerate,
    frame_wantHistoryJob]) <;> rfl

/-! ## Meter Unit -/

theorem frame_setMeterUnit (u : MeterUnit) (s : State) : frame (setMeterUnit u s) = frame s := rfl

theorem frame_announceMeter (n : Nat) (s : State) : frame (announceMeter n s) = frame s := by
  unfold announceMeter
  try dsimp only
  repeat' split
  all_goals (try simp only [frame_serviceMeter]) <;> rfl

theorem frame_meterCycle (s : State) : frame (meterCycle s) = frame s := by
  unfold meterCycle
  try dsimp only
  repeat' split
  all_goals (try simp only [frame_setMeterUnit, frame_announceMeter]) <;> rfl

theorem frame_answerWaiters (l : List Waiter) (s : State) : frame (answerWaiters l s) = frame s := by
  unfold answerWaiters
  refine frame_foldl _ (fun s x => ?_) _ _
  try dsimp only
  repeat' split
  all_goals (try simp only [frame_finishRequest]) <;> rfl

theorem frame_exhaustCheckpoints (s : State) : frame (exhaustCheckpoints s) = frame s := by
  simp only [exhaustCheckpoints, frame_report, frame_setMeterUnit, frame_answerWaiters]
  try rfl

theorem frame_queueCheckpoint (urgent : Bool) (s : State) : frame (queueCheckpoint urgent s) = frame s := by
  unfold queueCheckpoint
  try dsimp only
  repeat' split
  all_goals (try simp only [frame_setQueue, frame_queueJob, frame_setMeterUnit]) <;> rfl

theorem frame_takeOverPending (s : State) : frame (takeOverPending s) = frame s := by
  simp only [takeOverPending, frame_setMeterUnit]
  try rfl

theorem frame_wantCheckpoint (s : State) : frame (wantCheckpoint s) = frame s := by
  unfold wantCheckpoint
  try dsimp only
  repeat' split
  all_goals (try simp only [frame_setMeterUnit, frame_exhaustCheckpoints, frame_queueCheckpoint]) <;> rfl

theorem frame_wantCheckpointFor (t : Ticket) (s : State) : frame (wantCheckpointFor t s) = frame s := by
  simp only [wantCheckpointFor, frame_setMeterUnit, frame_wantCheckpoint]
  try rfl

theorem frame_urgentCheckpoint (s : State) : frame (urgentCheckpoint s) = frame s := by
  unfold urgentCheckpoint
  try dsimp only
  repeat' split
  all_goals (try simp only [frame_setQueue, frame_setMeterUnit, frame_exhaustCheckpoints, frame_queueCheckpoint,
    frame_takeOverPending]) <;> rfl

theorem frame_offerPendingCheckpoint (s : State) : frame (offerPendingCheckpoint s) = frame s := by
  unfold offerPendingCheckpoint
  try dsimp only
  repeat' split
  all_goals (try simp only [frame_exhaustCheckpoints, frame_queueCheckpoint, frame_takeOverPending]) <;> rfl

theorem frame_checkpointCompleted (seq : Nat) (s : State) : frame (checkpointCompleted seq s) = frame s := by
  simp only [checkpointCompleted, frame_endFault, frame_setMeterUnit, frame_answerWaiters]
  try rfl

theorem frame_meterSecond (s : State) : frame (meterSecond s) = frame s := by
  unfold meterSecond
  split
  · rfl
  · dsimp only
    rw [frame_foldl _ (fun s n => frame_announceMeter n s)]
    split
    · rfl
    · split
      · rfl
      · rw [frame_wantCheckpoint]; rfl

theorem frame_restoreCheckpoint (s : State) : frame (restoreCheckpoint s) = frame s := by
  unfold restoreCheckpoint
  try dsimp only
  repeat' split
  all_goals (try simp only [frame_report, frame_setEconomy, frame_setMeterUnit, frame_wantCheckpoint]) <;> rfl

/-! ## Guidance Unit -/

theorem frame_setGuidance (g : GuidanceUnit) (s : State) : frame (setGuidance g s) = frame s := rfl

theorem frame_formGuidance (s : State) : frame (formGuidance s) = frame s := by
  simp only [formGuidance, frame_setGuidance]
  try rfl

theorem frame_scanAndForm (s : State) : frame (scanAndForm s) = frame s := by
  simp only [scanAndForm, frame_setGuidance, frame_formGuidance]

theorem frame_enterStage (d : Detector) (s : State) : frame (enterStage d s) = frame s := by
  simp only [enterStage, frame_setGuidance]
  try rfl

theorem frame_endCycle (o : CycleOutcome) (s : State) : frame (endCycle o s) = frame s := by
  simp only [endCycle, frame_setGuidance]
  try rfl

theorem frame_abandonCycle (s : State) : frame (abandonCycle s) = frame s := by
  unfold abandonCycle
  try dsimp only
  repeat' split
  all_goals (try simp only [frame_endCycle]) <;> rfl

theorem frame_completeCycle (s : State) : frame (completeCycle s) = frame s := by
  simp only [completeCycle, frame_economyCycle, frame_meterCycle, frame_endCycle]

theorem frame_testReturn (s : State) : frame (testReturn s) = frame s := by
  unfold testReturn
  try dsimp only
  repeat' split
  all_goals (try simp only [frame_completeCycle]) <;> rfl

theorem frame_beginDig (s : State) : frame (beginDig s) = frame s := by
  simp only [beginDig, frame_setGuidance, frame_enterStage]
  try rfl

theorem frame_detectorPump (s : State) : frame (detectorPump s) = frame s := by
  unfold detectorPump
  try dsimp only
  repeat' split
  all_goals (try simp only [frame_beginDig]) <;> rfl

theorem frame_detectorPilot (s : State) : frame (detectorPilot s) = frame s := by
  unfold detectorPilot
  try dsimp only
  repeat' split
  all_goals (try simp only [frame_enterStage, frame_testReturn, frame_beginDig]) <;> rfl

theorem frame_detectorPose (s : State) : frame (detectorPose s) = frame s := by
  unfold detectorPose
  try dsimp only
  repeat' split
  all_goals (try simp only [frame_enterStage, frame_abandonCycle, frame_testReturn]) <;> rfl

theorem frame_stageExpired (s : State) : frame (stageExpired s) = frame s := by
  unfold stageExpired
  try dsimp only
  repeat' split
  all_goals (try simp only [frame_endCycle]) <;> rfl

theorem frame_guidancePilot (s : State) : frame (guidancePilot s) = frame s := by
  unfold guidancePilot
  try dsimp only
  repeat' split
  all_goals (try simp only [frame_setGuidance, frame_formGuidance, frame_abandonCycle, frame_detectorPilot]) <;> rfl

theorem frame_guidancePose (s : State) : frame (guidancePose s) = frame s := by
  simp only [guidancePose, frame_scanAndForm, frame_detectorPose]

theorem frame_restoreGrade (s : State) : frame (restoreGrade s) = frame s := by
  unfold restoreGrade
  try dsimp only
  repeat' split
  all_goals (try simp only [frame_report, frame_queueJob, frame_setGuidance]) <;> rfl

/-! ## Intervention Unit -/

theorem frame_setIntervention (u : InterventionUnit) (s : State) : frame (setIntervention u s) = frame s := rfl

theorem frame_formSets (s : State) : frame (formSets s) = frame s := by
  unfold formSets
  try dsimp only
  repeat' split
  all_goals (try simp only [frame_placeContent, frame_setIntervention]) <;> rfl

theorem frame_enterHold (s : State) : frame (enterHold s) = frame s := by
  unfold enterHold
  try dsimp only
  repeat' split
  all_goals (try simp only [frame_placeContent, frame_economyForced, frame_setIntervention]) <;> rfl

/-! ## Events at the list -/

theorem frame_change (p : Record → Bool) (f : Record → Record) (g : Record → Bool) (w : Work) :
    frame (w.change p f g).state = frame w.state := by
  unfold Work.change
  generalize w.state.intervention.list.filter (fun r => p r && g r) = l
  have h : ∀ (l : List Record) (w : Work),
      (l.foldl (fun w r => w.notice (f r) (f r).state.num) w).state = w.state := by
    intro l
    induction l with
    | nil => intro w; rfl
    | cons a l ih => intro w; exact ih _
  rw [h]
  rfl

theorem frame_remove (p : Record → Bool) (w : Work) : frame (w.remove p).state = frame w.state := by
  unfold Work.remove
  have h : ∀ (l : List Record) (w : Work), (l.foldl (fun w r => w.notice r 4) w).state = w.state := by
    intro l
    induction l with
    | nil => intro w; rfl
    | cons a l ih => intro w; exact ih _
  dsimp only
  rw [h]
  dsimp only
  split
  · rw [frame_listEmpty]; rfl
  · rfl

theorem frame_exhaustSequence (s : State) : frame (exhaustSequence s) = frame s := by
  unfold exhaustSequence
  rw [frame_enterHold, frame_report, frame_setIntervention]

theorem frame_raise (k : RecordKind) (src : Option Nat) (c : RecordCause) (b : MotionSet) (w : Work) :
    frame (w.raise k src c b).state = frame w.state := by
  unfold Work.raise
  dsimp only
  split
  · rfl
  · show frame (ite _ (exhaustSequence (ite _ _ _)) (ite _ _ _)) = _
    repeat' split
    all_goals
      simp only [frame_exhaustSequence, frame_listNonEmpty, frame_economyRaise, frame_abandonCycle]
      rfl

/-- A step that keeps the lines keeps them where it has no effect in Hold. -/
theorem frame_unlessHold (f : Work → Work) (w : Work) (hf : frame (f w).state = frame w.state) :
    frame (w.unlessHold f).state = frame w.state := by
  unfold Work.unlessHold
  split
  · rfl
  · exact hf

theorem frame_raiseRequest (i : Nat) (k : RecordKind) (c : BreachCause) (b : MotionSet) (w : Work) :
    frame (w.raiseRequest i k c b).state = frame w.state := by
  unfold Work.raiseRequest Work.setCause
  split
  · exact frame_change ..
  · exact frame_raise ..

theorem frame_breachReport (i : Nat) (gone : Bool) (w : Work) :
    frame (w.breachReport i gone).state = frame w.state := by
  unfold Work.breachReport
  split
  · rw [frame_remove, frame_change]
  · exact frame_change ..

theorem frame_poseQuality (before : PoseQuality) (w : Work) :
    frame (w.poseQuality before).state = frame w.state := by
  unfold Work.poseQuality
  refine frame_unlessHold _ w ?_
  unfold Work.lossOfPose
  split
  · exact frame_change ..
  · rfl
  · split
    · rfl
    · split
      · exact frame_change ..
      · split
        · exact frame_raise ..
        · rfl

theorem frame_extCut (st : Nat) (m : MotionSet) (w : Work) :
    frame (w.extCut st m).state = frame w.state := by
  unfold Work.extCut
  split
  · exact frame_remove ..
  · split
    · exact frame_change ..
    · exact frame_raise ..

theorem frame_overrideExpired (n : Nat) (w : Work) : frame (w.overrideExpired n).state = frame w.state := by
  unfold Work.overrideExpired
  rw [frame_change, frame_remove]

theorem frame_close (w : Work) : frame w.close = frame w.state := by
  unfold Work.close
  rw [frame_foldl _ (fun s (n : Nat × List Byte) => frame_queueRecordNotice n.1 n.2 s)]
  split
  · rfl
  · exact frame_formSets ..

/-- An event at the list keeps the lines if its chain of steps does. -/
theorem frame_interventionEvent (f : Work → Work) (hf : ∀ w, frame (f w).state = frame w.state) (s : State) :
    frame (interventionEvent f s) = frame s := by
  unfold interventionEvent
  rw [frame_close]
  exact frame_unlessHold f _ (hf _)

theorem frame_take (w : Work) (h : Handed) : frame (w.take h).state = frame w.state := by
  refine frame_unlessHold _ w ?_
  cases h
  · exact frame_raiseRequest ..
  · exact frame_change ..
  · exact frame_breachReport ..

theorem frame_takes (l : List Handed) (w : Work) : frame (l.foldl Work.take w).state = frame w.state := by
  induction l generalizing w with
  | nil => rfl
  | cons a l ih => exact (ih _).trans (frame_take w a)

theorem frame_valveCutArrival (echo : BitVec 8) (applied : MotionSet) (s : State) :
    frame (valveCutArrival echo applied s) = frame s := by
  unfold valveCutArrival
  try dsimp only
  repeat' split
  all_goals (try simp only [frame_setIntervention]) <;> rfl

theorem frame_confirmExpired (s : State) : frame (confirmExpired s) = frame s := by
  unfold confirmExpired
  try dsimp only
  repeat' split
  all_goals (try simp only [frame_report, frame_setIntervention, frame_enterHold]) <;> rfl

theorem frame_valveLost (s : State) : frame (valveLost s) = frame s := by
  unfold valveLost
  try dsimp only
  repeat' split
  all_goals (try simp only [frame_report, frame_setIntervention, frame_enterHold]) <;> rfl

/-! ## Envelope Unit -/

theorem frame_setLimit (i : Nat) (e : LimitEntry) (s : State) : frame (setLimit i e s) = frame s := rfl

theorem frame_evaluateEntry (i : Nat) (e : LimitEntry) (s : State) :
    frame (evaluateEntry i e s).1 = frame s := by
  unfold evaluateEntry
  dsimp only
  split
  · rw [frame_queueWarning, frame_setLimit]
  · rw [frame_setLimit]

theorem frame_evaluateAll (s : State) : frame (evaluateAll s).1 = frame s := by
  unfold evaluateAll
  generalize List.range 12 = l
  suffices h : ∀ p : State × List Handed, frame p.1 = frame s → frame (l.foldl (fun (s, hs) i =>
      match s.limits[i]? with
      | some e =>
        if e.state == .disabled then (s, hs)
        else
          let (s, more) := evaluateEntry i e s
          (s, hs ++ more)
      | none => (s, hs)) p).1 = frame s from h (s, []) rfl
  induction l with
  | nil => intro p h; exact h
  | cons i l ih =>
    intro p h
    refine ih _ ?_
    dsimp only
    split
    · split
      · exact h
      · exact (frame_evaluateEntry ..).trans h
    · exact h

theorem frame_envelopePose (s : State) : frame (envelopePose s).1 = frame s := by
  unfold envelopePose
  split
  · rfl
  · exact frame_evaluateAll s

theorem frame_consumePose (before : PoseQuality) (s : State) :
    frame (consumePose before s) = frame s := by
  unfold consumePose
  dsimp only
  rw [frame_interventionEvent _ (fun w => (frame_poseQuality ..).trans (frame_takes ..)), frame_guidancePose]
  split
  · split
    · rw [frame_useFree, frame_abandonCycle, frame_envelopePose]
    · rw [frame_useFree, frame_envelopePose]
  · rw [frame_envelopePose]

theorem frame_makePending (i : Nat) (old : LimitEntry) (config : LimitConfig) (s : State) :
    frame (makePending i old config s) = frame s := by
  unfold makePending
  dsimp only
  split
  · rw [frame_interventionEvent _ (fun w => frame_breachReport ..), frame_setLimit]
  · rw [frame_setLimit]

theorem frame_restoreLimits (s : State) : frame (restoreLimits s) = frame s := by
  unfold restoreLimits
  try dsimp only
  repeat' split
  all_goals (try simp only [frame_report, frame_queueJob]) <;> rfl

/-! ## Pose Unit -/

theorem frame_setPoseUnit (u : PoseUnit) (s : State) : frame (setPoseUnit u s) = frame s := rfl

theorem frame_setDescriptor (i : Nat) (old new : Descriptor) (s : State) :
    frame (setDescriptor i old new s) = frame s := by
  unfold setDescriptor
  try dsimp only
  repeat' split
  all_goals (try simp only [frame_report, frame_endFault, frame_setPoseUnit]) <;> rfl

theorem frame_recallLookup (i : Nat) (x : Int) (s : State) : frame (recallLookup i x s) = frame s := by
  unfold recallLookup
  try dsimp only
  repeat' split
  all_goals (try simp only [frame_setDescriptor]) <;> rfl

theorem frame_applyGrade (s : State) : frame (applyGrade s) = frame s := by
  unfold applyGrade
  try dsimp only
  repeat' split
  all_goals (try simp only [frame_endFault, frame_setPoseUnit]) <;> rfl

theorem frame_announcePose (before : PoseQuality) (s : State) : frame (announcePose before s) = frame s := by
  simp only [announcePose, frame_consumePose, frame_setPoseUnit]
  try rfl

theorem frame_solveAndGrade (s : State) : frame (solveAndGrade s) = frame s := by
  unfold solveAndGrade
  try dsimp only
  repeat' split
  all_goals (try simp only [frame_setPoseUnit, frame_applyGrade, frame_announcePose]) <;> rfl

theorem frame_poseArrival (p : Payload) (s : State) : frame (poseArrival p s) = frame s := by
  unfold poseArrival
  try dsimp only
  repeat' split
  all_goals (try simp only [frame_recallLookup, frame_solveAndGrade]) <;> rfl

theorem frame_gradeOnly (s : State) : frame (gradeOnly s) = frame s := by
  unfold gradeOnly
  try dsimp only
  repeat' split
  all_goals (try simp only [frame_applyGrade, frame_announcePose]) <;> rfl

theorem frame_degradedExpired (s : State) : frame (degradedExpired s) = frame s := by
  simp only [degradedExpired, frame_report, frame_setPoseUnit, frame_announcePose]
  try rfl

/-! ## Time Base -/

theorem frame_setTime (t : TimeBase) (s : State) : frame (setTime t s) = frame s := rfl

theorem frame_economyTakes (s : State) (a : Announcement) : frame (economyTakes s a) = frame s := by
  cases a
  · exact frame_economySecond s
  · exact frame_economyRollover s
  · exact frame_shiftStart s
  · rfl

theorem frame_serviceTakes (s : State) (a : Announcement) : frame (serviceTakes s a) = frame s := by
  cases a
  · rfl
  · exact frame_serviceRollover s
  · exact frame_serviceShiftStart s
  · exact frame_serviceReminder _ s

theorem frame_takeAll (takes : State → Announcement → State) (h : ∀ s a, frame (takes s a) = frame s)
    (l : List Announcement) (s : State) : frame (takeAll takes l s) = frame s := by
  unfold takeAll
  split
  · exact frame_foldl _ h _ _
  · rw [frame_useFree, frame_foldl _ h]

theorem frame_announceCount (s : State) : frame (announceCount s) = frame s := by
  unfold announceCount
  dsimp only
  split
  · rw [frame_takeAll _ frame_serviceTakes, frame_takeAll _ frame_economyTakes, frame_meterSecond]
  · rw [frame_meterSecond]

theorem frame_countSecond (s : State) : frame (countSecond s) = frame s := by
  simp only [countSecond, frame_setTime]
  try rfl

theorem frame_clockCounted (s : State) : frame (clockCounted s) = frame s := by
  unfold clockCounted
  try dsimp only
  repeat' split
  all_goals (try simp only [frame_announceCount, frame_countSecond]) <;> rfl

theorem frame_setClockTo (t : ClockTime) (source : SetSource) (s : State) :
    frame (setClockTo t source s) = frame s := by
  simp only [setClockTo, frame_endFault, frame_economyClockSet, frame_serviceCalendar, frame_setTime]
  try rfl

theorem frame_timeSyncArrival (t : ClockTime) (s : State) : frame (timeSyncArrival t s) = frame s := by
  unfold timeSyncArrival
  try dsimp only
  repeat' split
  all_goals (try simp only [frame_pulseFault, frame_setClockTo]) <;> rfl

theorem frame_oscillatorStopped (s : State) : frame (oscillatorStopped s) = frame s := by
  unfold oscillatorStopped
  try dsimp only
  repeat' split
  all_goals (try simp only [frame_report, frame_setTime]) <;> rfl

theorem frame_oscillatorRestarted (s : State) : frame (oscillatorRestarted s) = frame s := by
  unfold oscillatorRestarted
  try dsimp only
  repeat' split
  all_goals (try simp only [frame_endFault, frame_setTime]) <;> rfl

theorem frame_reportClock (s : State) : frame (reportClock s) = frame s := by
  unfold reportClock
  try dsimp only
  repeat' split
  all_goals (try simp only [frame_report]) <;> rfl

/-! ## Store completion -/

theorem frame_answerLimit (t : Ticket) (s : State) : frame (answerLimit t s) = frame s := by
  unfold answerLimit
  try dsimp only
  repeat' split
  all_goals (try simp only [frame_finishRequest]) <;> rfl

theorem frame_answerGrade (t : Ticket) (s : State) : frame (answerGrade t s) = frame s := by
  simp only [answerGrade, frame_finishRequest]

theorem frame_answerService (t : Ticket) (s : State) : frame (answerService t s) = frame s := by
  unfold answerService
  try dsimp only
  repeat' split
  all_goals (try simp only [frame_finishRequest]) <;> rfl

theorem frame_jobCompleted (w : Writing) (s : State) : frame (jobCompleted w s) = frame s := by
  unfold jobCompleted
  split
  · exact frame_finishRequest ..
  · split
    · exact frame_checkpointCompleted ..
    · rfl
  · rw [frame_endFault, frame_foldl _ (fun s t => frame_answerGrade t s)]
  · rw [frame_endFault, frame_foldl _ (fun s t => frame_answerLimit t s)]
  · rw [frame_endFault, frame_foldl _ (fun s t => by split <;> first | rfl | exact frame_answerService t s)]
  · rw [frame_endFault, frame_foldl _ (fun s t => by split <;> first | rfl | exact frame_answerService t s)]
  · exact frame_endFault ..

theorem frame_offerDayJob (s : State) : frame (offerDayJob s) = frame s := by
  unfold offerDayJob
  try dsimp only
  repeat' split
  all_goals (try simp only [frame_wantDayJob]) <;> rfl

theorem frame_offerServiceJob (s : State) : frame (offerServiceJob s) = frame s := by
  unfold offerServiceJob
  try dsimp only
  repeat' split
  all_goals (try simp only [frame_wantServiceJob]) <;> rfl

theorem lines_writeCompleted (s : State) : lines (writeCompleted s) = lines s := by
  unfold writeCompleted
  split
  · rfl
  · refine congrArg Prod.fst ((frame_offerServiceJob _).trans ((frame_offerDayJob _).trans
      ((frame_offerPendingCheckpoint _).trans (frame_jobCompleted _ _))))

/-! ## Topic Map -/

theorem frame_setTopic (i : Nat) (e : SubEntry) (s : State) : frame (setTopic i e s) = frame s := rfl

theorem frame_freshened (e : SubEntry) (s : State) : frame (freshened e s) = frame s := by
  unfold freshened
  try dsimp only
  repeat' split
  all_goals (try simp only [frame_endFault]) <;> rfl

theorem frame_handArrival (station : Nat) (p : Payload) (s : State) :
    frame (handArrival station p s) = frame s := by
  unfold handArrival
  split
  all_goals first
    | exact frame_poseArrival ..
    | exact frame_economyEngineRun ..
    | exact frame_integrateFuel ..
    | exact frame_recallLookup ..
    | exact frame_detectorPump ..
    | exact (frame_guidancePilot _).trans (frame_economyPilot _)
    | exact frame_valveCutArrival ..
    | exact frame_interventionEvent _ (fun w => frame_extCut ..) s
    | exact frame_timeSyncArrival ..

theorem frame_takeFrame (role : Role) (station : Option Nat) (f : Frame) (s : State) :
    frame (takeFrame role station f s) = frame s := by
  unfold takeFrame
  try dsimp only
  repeat' split
  all_goals (try simp only [frame_setTopic, frame_freshened, frame_handArrival]) <;> rfl

theorem frame_staleEntry (i : Nat) (s : State) : frame (staleEntry i s) = frame s := by
  unfold staleEntry
  try dsimp only
  repeat' split
  all_goals (try simp only [frame_gradeOnly, frame_setTopic]) <;> rfl

theorem frame_handLost (e : SubEntry) (s : State) : frame (handLost e s) = frame s := by
  unfold handLost
  split
  all_goals first
    | rfl
    | exact frame_gradeOnly ..
    | exact frame_engineStopped ..
    | exact (frame_abandonCycle _).trans (frame_activityPresent _)
    | exact frame_valveLost ..
    | exact frame_interventionEvent _ (fun w => frame_change ..) s

theorem frame_lostEntry (i : Nat) (s : State) : frame (lostEntry i s) = frame s := by
  unfold lostEntry
  try dsimp only
  repeat' split
  all_goals (try simp only [frame_report, frame_setTopic, frame_handLost]) <;> rfl

/-! ## Publications -/

theorem frame_settleStore (s : State) : frame (settleStore s) = frame s := by
  unfold settleStore
  try dsimp only
  repeat' split
  all_goals (try simp only [frame_beginWrite]) <;> rfl

theorem frame_setDue (p : CyclicPub) (t : Nat) (s : State) : frame (setDue p t s) = frame s := rfl

theorem frame_periodic (p : CyclicPub) (s : State) : frame (periodic p s) = frame s := by
  unfold periodic
  try dsimp only
  repeat' split
  all_goals (try simp only [frame_placeContent, frame_setDue]) <;> rfl

theorem frame_startPeriods (s : State) : frame (startPeriods s) = frame s := by
  unfold startPeriods
  refine frame_foldl _ (fun s x => ?_) _ _
  try dsimp only
  repeat' split
  all_goals (try simp only [frame_setDue]) <;> rfl

/-! ## Start-up and bus -/

theorem frame_takeKeyOff (s : State) : frame (takeKeyOff s) = frame s := by
  unfold takeKeyOff
  try dsimp only
  repeat' split
  all_goals (try simp only [frame_wantDayJob, frame_setMeterUnit, frame_wantCheckpoint]) <;> rfl

theorem frame_startAges (s : State) : frame (startAges s) = frame s := rfl

theorem frame_busWentOff (s : State) : frame (busWentOff s) = frame s := by
  unfold busWentOff
  try dsimp only
  repeat' split
  all_goals (try simp only [frame_report, frame_enterHold]) <;> rfl

theorem frame_busRecovered (s : State) : frame (busRecovered s) = frame s := by
  unfold busRecovered
  try dsimp only
  repeat' split
  all_goals (try simp only [frame_endFault]) <;> rfl

theorem frame_frameSent (s : State) : frame (frameSent s) = frame s := by
  unfold frameSent
  try dsimp only
  repeat' split
  all_goals (try simp only [frame_sentCyclic, frame_sentRing]) <;> rfl

theorem frame_attemptFailed (error : Bool) (s : State) : frame (attemptFailed error s) = frame s := by
  unfold attemptFailed
  try dsimp only
  repeat' split
  all_goals rfl

/-! ## Requests -/

theorem frame_noteRequeued (e : SubEntry) (reply : List Byte) (s : State) :
    frame (noteRequeued e reply s) = frame s := by
  unfold noteRequeued
  try dsimp only
  repeat' split
  all_goals rfl

theorem frame_repeatRequest (e : SubEntry) (s : State) : frame (repeatRequest e s) = frame s := by
  unfold repeatRequest
  split
  · rfl
  · split
    · rfl
    · exact frame_noteRequeued ..

theorem frame_setGrants (l : List Grant) (s : State) : frame (setGrants l s) = frame s := rfl

/-! ## Requests of work -/

theorem frame_recallPose (i : Nat) (s : State) : frame (recallPose i s) = frame s := by
  unfold recallPose
  try dsimp only
  repeat' split
  all_goals (try simp only [frame_solveAndGrade]) <;> rfl

/-! ## Requests as a whole -/

/-- The state an owner leaves, however it answers. -/
def Answer.after : Answer → State
  | .reply _ _ s => s
  | .flight s => s

/-- An owner that leaves the lines alone. -/
def Owner.framed (own : Owner) : Prop := ∀ t a s, frame (own t a s).after = frame s

theorem frame_checkLevel (need : Level) (t : Ticket) (s : State) (rest : State → Answer)
    (h : ∀ s, frame (rest s).after = frame s) : frame (checkLevel need t s rest).after = frame s := by
  unfold checkLevel
  split
  · rw [h]
    split
    · rfl
    · exact frame_renewGrant ..
  · rfl

theorem frame_limitRequest (t : Ticket) (a : List Byte) (s : State)
    (rest : Nat → LimitEntry → State → Answer) (h : ∀ i e s, frame (rest i e s).after = frame s) :
    frame (limitRequest t a s rest).after = frame s := by
  unfold limitRequest
  split
  · rfl
  · refine frame_checkLevel _ _ _ _ (fun s => ?_)
    split
    · rfl
    · split
      · rfl
      · exact h _ _ _

theorem frame_carryLimit (t : Ticket) (i : Nat) (s : State) : frame (carryLimit t i s).after = frame s :=
  frame_carry ..

theorem frame_changeGrade (t : Ticket) (i : Nat) (g : Option Segment) (s : State) :
    frame (changeGrade t i g s).after = frame s := by
  unfold changeGrade
  split
  · rfl
  · exact (frame_carry ..).trans ((frame_scanAndForm _).trans (frame_setGuidance ..))

theorem frame_raiseMeter (t : Ticket) (n : Nat) (v : MeterValue) (s : State) :
    frame (raiseMeter t n v s).after = frame s := by
  unfold raiseMeter
  try dsimp only
  split
  · exact (frame_announceMeter ..).trans ((frame_exhaustCheckpoints _).trans (frame_setMeterUnit ..))
  · exact (frame_announceMeter ..).trans ((frame_wantCheckpointFor ..).trans (frame_setMeterUnit ..))

theorem framed_readOwner : readOwner.framed := by
  intro t a s
  unfold readOwner
  try dsimp only
  repeat' split
  all_goals rfl

theorem framed_keyOwner : keyOwner.framed := by
  intro t a s
  unfold keyOwner checkKey
  try dsimp only
  repeat' split
  all_goals rfl

theorem framed_restartOwner : restartOwner.framed := by
  intro t a s
  unfold restartOwner
  try dsimp only
  repeat' split
  · rfl
  · rfl
  · exact frame_checkLevel _ _ _ _ (fun s => rfl)

theorem framed_clearFaultsOwner : clearFaultsOwner.framed := by
  intro t a s
  unfold clearFaultsOwner
  try dsimp only
  split
  · rfl
  · exact frame_checkLevel _ _ _ _ (fun s => rfl)

theorem framed_writeImageOwner : writeImageOwner.framed := by
  intro t a s
  unfold writeImageOwner
  try dsimp only
  split
  · rfl
  · refine frame_checkLevel _ _ _ _ (fun s => ?_)
    repeat' split
    all_goals first | rfl | exact frame_queueJob ..

theorem framed_ackWarningOwner : ackWarningOwner.framed := by
  intro t a s
  unfold ackWarningOwner ackAllWarnings
  try dsimp only
  repeat' split
  all_goals rfl

theorem framed_teachLimitOwner : teachLimitOwner.framed := by
  intro t a s
  refine frame_limitRequest _ _ _ _ (fun i e s => ?_)
  try dsimp only
  repeat' split
  all_goals first | rfl | exact (frame_carryLimit ..).trans (frame_makePending ..)

theorem framed_setLimitOwner : setLimitOwner.framed := by
  intro t a s
  refine frame_limitRequest _ _ _ _ (fun i e s => ?_)
  try dsimp only
  repeat' split
  all_goals first | rfl | exact (frame_carryLimit ..).trans (frame_makePending ..)

theorem framed_enableLimitOwner : enableLimitOwner.framed := by
  intro t a s
  refine frame_limitRequest _ _ _ _ (fun i e s => ?_)
  try dsimp only
  repeat' split
  all_goals first | rfl | exact (frame_carryLimit ..).trans (frame_makePending ..)

theorem framed_disableLimitOwner : disableLimitOwner.framed := by
  intro t a s
  refine frame_limitRequest _ _ _ _ (fun i e s => ?_)
  try dsimp only
  repeat' split
  all_goals first | rfl | exact frame_carryLimit ..

theorem frame_releaseRecord (r : Record) (s : State) : frame (releaseRecord r s).after = frame s := by
  unfold releaseRecord
  split
  · exact frame_interventionEvent _ (fun w => frame_remove ..) s
  · rfl

theorem framed_releaseOwner : releaseOwner.framed := by
  intro t a s
  unfold releaseOwner
  try dsimp only
  repeat' split
  all_goals first
    | rfl
    | exact frame_checkLevel _ _ _ _ (fun s => frame_releaseRecord ..)
    | exact frame_releaseRecord ..

theorem framed_overrideOwner : overrideOwner.framed := by
  intro t a s
  unfold overrideOwner
  try dsimp only
  split
  · rfl
  · refine frame_checkLevel _ _ _ _ (fun s => ?_)
    repeat' split
    all_goals first | rfl | exact frame_interventionEvent _ (fun w => frame_change ..) _

theorem framed_resumeOwner : resumeOwner.framed := by
  intro t a s
  unfold resumeOwner
  try dsimp only
  split
  · rfl
  · refine frame_checkLevel _ _ _ _ (fun s => ?_)
    split
    · exact frame_endFault ..
    · rfl

theorem framed_benchmarkOwner : benchmarkOwner.framed := by
  intro t a s
  unfold benchmarkOwner
  try dsimp only
  split
  · rfl
  · refine frame_checkLevel _ _ _ _ (fun s => ?_)
    repeat' split
    all_goals first | rfl | exact frame_formGuidance ..

theorem framed_setGradeOwner : setGradeOwner.framed := by
  intro t a s
  unfold setGradeOwner
  try dsimp only
  split
  · rfl
  · refine frame_checkLevel _ _ _ _ (fun s => ?_)
    repeat' split
    all_goals first | rfl | exact frame_changeGrade ..

theorem framed_powerModeOwner : powerModeOwner.framed := by
  intro t a s
  unfold powerModeOwner
  try dsimp only
  repeat' split
  all_goals rfl

theorem frame_doneRecall (i : Nat) (old new : Descriptor) (s : State) :
    frame (doneRecall i old new s).after = frame s :=
  (frame_recallPose ..).trans (frame_setDescriptor ..)

theorem framed_tableRecallOwner : tableRecallOwner.framed := by
  intro t a s
  unfold tableRecallOwner
  try dsimp only
  split
  · rfl
  · refine frame_checkLevel _ _ _ _ (fun s => ?_)
    repeat' split
    all_goals first | rfl | exact frame_doneRecall ..

theorem framed_setClockOwner : setClockOwner.framed := by
  intro t a s
  unfold setClockOwner
  try dsimp only
  split
  · rfl
  · refine frame_checkLevel _ _ _ _ (fun s => ?_)
    repeat' split
    all_goals first | rfl | exact frame_setClockTo ..

theorem framed_setTrimOwner : setTrimOwner.framed := by
  intro t a s
  unfold setTrimOwner
  try dsimp only
  split
  · rfl
  · refine frame_checkLevel _ _ _ _ (fun s => ?_)
    split
    all_goals rfl

theorem framed_setMeterOwner : setMeterOwner.framed := by
  intro t a s
  unfold setMeterOwner
  try dsimp only
  split
  · rfl
  · refine frame_checkLevel _ _ _ _ (fun s => ?_)
    repeat' split
    all_goals first | rfl | exact frame_raiseMeter ..

theorem framed_serviceDoneOwner : serviceDoneOwner.framed := by
  intro t a s
  unfold serviceDoneOwner
  try dsimp only
  split
  · rfl
  · refine frame_checkLevel _ _ _ _ (fun s => ?_)
    repeat' split
    all_goals first | rfl | exact frame_recordService ..

theorem framed_ackReminderOwner : ackReminderOwner.framed := by
  intro t a s
  unfold ackReminderOwner ackAllReminders
  try dsimp only
  repeat' split
  all_goals rfl

/-- A request leaves the lines alone if its owner does. -/
theorem frame_takeRequest (code : Byte) (owner : Option Owner) (h : ∀ own, owner = some own → own.framed)
    (r : Request) (s : State) : frame (takeRequest code owner r s) = frame s := by
  have hj : ∀ (t : Ticket) (s : State), frame (judgeRequest code owner t r s) = frame s := by
    intro t s
    unfold judgeRequest
    cases owner with
    | none => exact frame_sendReply ..
    | some own =>
      dsimp only
      repeat' split
      · exact frame_sendReply ..
      · exact frame_sendReply ..
      · exact frame_sendReply ..
      · rename_i res data s' he
        have hl := h own rfl t r.args s
        rw [he] at hl
        exact (frame_sendReply ..).trans hl
      · rename_i s' he
        have hl := h own rfl t r.args s
        rw [he] at hl
        exact (frame_modifyRequest ..).trans hl
  have ht : ∀ s, frame (requestTag r s).2 = frame s := by
    intro s
    unfold requestTag
    split
    · rfl
    · exact frame_useFree s
  have hn : ∀ (e : SubEntry) (s : State), frame (newRequest code owner e r s) = frame s := by
    intro e s
    unfold newRequest
    dsimp only
    split
    · rw [frame_sendReply, ht, frame_modifyRequest]
    · rw [hj, ht, frame_modifyRequest]
  unfold takeRequest
  split
  · rfl
  · split
    · rfl
    · dsimp only
      split
      · rw [frame_repeatRequest, frame_modifyRequest]
      · rw [hn, frame_modifyRequest]

/-- Every code's owner leaves the lines alone. -/
theorem framed_ownerOf (code : Byte) (own : Owner) (h : ownerOf code = some own) : own.framed := by
  unfold ownerOf at h
  split at h
  all_goals first | cases h
  exacts [framed_readOwner, framed_keyOwner, framed_restartOwner, framed_clearFaultsOwner, framed_writeImageOwner,
    framed_ackWarningOwner, framed_teachLimitOwner, framed_setLimitOwner, framed_enableLimitOwner,
    framed_disableLimitOwner, framed_releaseOwner, framed_overrideOwner, framed_resumeOwner,
    framed_benchmarkOwner, framed_setGradeOwner, framed_powerModeOwner, framed_tableRecallOwner,
    framed_setClockOwner, framed_setTrimOwner, framed_setMeterOwner, framed_serviceDoneOwner,
    framed_ackReminderOwner]

theorem frame_takeByCode (code : Option Byte) (r : Request) (s : State) :
    frame (takeByCode code r s) = frame s := by
  unfold takeByCode
  split
  · exact frame_takeRequest _ _ (fun own h => framed_ownerOf _ own h) r s
  · exact (frame_takeRequest _ _ (fun own h => by cases h) r _).trans (frame_useFree s)

theorem frame_takeFragment (station : Nat) (f : Frame) (s : State) :
    frame (takeFragment station f s) = frame s := by
  unfold takeFragment
  repeat' split
  all_goals first | rfl | exact frame_takeByCode ..

end Sys2Proof.Machine
end

