-- ==== Sys2Proof/Laws/Requests.lean ====
section
/-! SUPPORT. What the shared operations of requests and of graded topics do, each said once: a request that is
taken runs its owner on the recorded state, and is refused as its owner refuses; an accepted frame is handed on from
the graded state; recording a request touches the request fields of its own entry alone; what the look-ups of the
Access Table and of the grade profile find. -/

namespace Sys2Proof.Machine

/-- The state after an owner's answer. -/
def answered (t : Ticket) : Answer → State
  | .reply res data u => sendReply t res data u
  | .flight u => modifyRequest t.station (fun e => { e with inFlight := some t.counter }) u

/-- A request that is taken runs its owner on the recorded state. -/
theorem takeRequest_taken (code : Byte) (own : Owner) (r : Request) (s : State) (h : taken code r s = true) :
    takeRequest code (some own) r s
      = answered (ticketOf code r s) (own (ticketOf code r s) r.args (noted r s)) := by
  unfold taken at h
  simp only [Bool.and_eq_true] at h
  obtain ⟨⟨⟨⟨hrec, hargs⟩, hlimp⟩, hkey⟩, hentry⟩ := h
  unfold takeRequest
  split at hentry
  · rename_i e he
    simp only [Bool.and_eq_true, bne_iff_ne, ne_eq, Option.isNone_iff_eq_none] at hentry
    have hne : (e.counter == some r.counter) = false := by simpa using hentry.1
    rw [he]
    simp only [hrec, Bool.not_true, Bool.false_eq_true, ↓reduceIte, hne]
    unfold newRequest
    simp only [hentry.2, Option.isSome_none, Bool.false_eq_true, ↓reduceIte]
    have hp : (noted r s).power = s.power := by
      unfold noted requestTag
      split <;> rfl
    have hk : (noted r s).meter = s.meter := by
      unfold noted requestTag
      split <;> rfl
    unfold judgeRequest
    have h1 : ((requestTag r (recorded r s)).2.power == .limp && !takenInLimp code) = false := by
      show ((noted r s).power == .limp && !takenInLimp code) = false
      rw [hp]
      revert hlimp
      cases takenInLimp code <;> cases s.power <;> decide
    have h2 : ((requestTag r (recorded r s)).2.meter.keyOffTaken && !passesKeyOff code) = false := by
      show ((noted r s).meter.keyOffTaken && !passesKeyOff code) = false
      rw [hk]
      revert hkey
      cases s.meter.keyOffTaken <;> cases passesKeyOff code <;> decide
    unfold recorded at h1 h2
    simp only [hargs, Bool.not_true, Bool.false_eq_true, ↓reduceIte, h1, h2]
    rfl
  · exact absurd hentry (by decide)

theorem noted_cases (r : Request) (s : State) :
    noted r s = recorded r s ∨ noted r s = useFree (recorded r s) := by
  unfold noted requestTag
  split
  · exact .inl rfl
  · exact .inr rfl

theorem find?_mapWhere {α : Type} (p q : α → Bool) (f : α → α) (hq : ∀ x, p x = true → q (f x) = q x)
    (hn : ∀ x, p x = true → q x = false) (l : List α) : (mapWhere p f l).find? q = l.find? q := by
  unfold mapWhere
  induction l with
  | nil => rfl
  | cons x l ih =>
    rw [List.map_cons, List.find?_cons, List.find?_cons]
    by_cases hp : p x = true
    · rw [if_pos hp, hq x hp, hn x hp]
      exact ih
    · rw [if_neg hp]
      cases q x
      · exact ih
      · rfl

/-- A change of the request fields of a REQUEST entry leaves the entries of other roles as they are. -/
theorem entryOf_modifyRequest (st : Nat) (f : SubEntry → SubEntry) (hf : ∀ e, (f e).config = e.config)
    (role : Role) (h : role ≠ .request) (s : State) : entryOf (modifyRequest st f s) role = entryOf s role := by
  refine find?_mapWhere _ _ _ (fun x _ => by rw [hf]) (fun x hx => ?_) _
  unfold servesStation at hx
  simp only [Bool.and_eq_true, beq_iff_eq] at hx
  rw [hx.1]
  cases role <;> first | rfl | exact absurd rfl h

/-- Recording a request leaves the entries of other roles as they are. -/
theorem entryOf_noted (r : Request) (s : State) (role : Role) (h : role ≠ .request) :
    entryOf (noted r s) role = entryOf s role := by
  have hr : entryOf (recorded r s) role = entryOf s role := by
    unfold recorded
    exact (entryOf_modifyRequest _ _ (fun e => by rfl) role h _).trans
      (entryOf_modifyRequest _ _ (fun e => by rfl) role h _)
  rcases noted_cases r s with hn | hn <;> rw [hn]
  · exact hr
  · exact hr

/-! ## Fields that recording a request leaves alone -/

@[simp] theorem noted_now (r : Request) (s : State) : (noted r s).now = s.now := by
  rcases noted_cases r s with h | h <;> rw [h] <;> rfl
@[simp] theorem noted_power (r : Request) (s : State) : (noted r s).power = s.power := by
  rcases noted_cases r s with h | h <;> rw [h] <;> rfl
@[simp] theorem noted_limpCause (r : Request) (s : State) : (noted r s).limpCause = s.limpCause := by
  rcases noted_cases r s with h | h <;> rw [h] <;> rfl
@[simp] theorem noted_station (r : Request) (s : State) : (noted r s).station = s.station := by
  rcases noted_cases r s with h | h <;> rw [h] <;> rfl
@[simp] theorem noted_pins (r : Request) (s : State) : (noted r s).pins = s.pins := by
  rcases noted_cases r s with h | h <;> rw [h] <;> rfl
@[simp] theorem noted_keyOffHeld (r : Request) (s : State) : (noted r s).keyOffHeld = s.keyOffHeld := by
  rcases noted_cases r s with h | h <;> rw [h] <;> rfl
@[simp] theorem noted_listenEnds (r : Request) (s : State) : (noted r s).listenEnds = s.listenEnds := by
  rcases noted_cases r s with h | h <;> rw [h] <;> rfl
@[simp] theorem noted_restart (r : Request) (s : State) : (noted r s).restart = s.restart := by
  rcases noted_cases r s with h | h <;> rw [h] <;> rfl
@[simp] theorem noted_detectorArmed (r : Request) (s : State) : (noted r s).detectorArmed = s.detectorArmed := by
  rcases noted_cases r s with h | h <;> rw [h] <;> rfl
@[simp] theorem noted_config (r : Request) (s : State) : (noted r s).config = s.config := by
  rcases noted_cases r s with h | h <;> rw [h] <;> rfl
@[simp] theorem noted_imageGood (r : Request) (s : State) : (noted r s).imageGood = s.imageGood := by
  rcases noted_cases r s with h | h <;> rw [h] <;> rfl
@[simp] theorem noted_bus (r : Request) (s : State) : (noted r s).bus = s.bus := by
  rcases noted_cases r s with h | h <;> rw [h] <;> rfl
@[simp] theorem noted_pose (r : Request) (s : State) : (noted r s).pose = s.pose := by
  rcases noted_cases r s with h | h <;> rw [h] <;> rfl
@[simp] theorem noted_limits (r : Request) (s : State) : (noted r s).limits = s.limits := by
  rcases noted_cases r s with h | h <;> rw [h] <;> rfl
@[simp] theorem noted_intervention (r : Request) (s : State) : (noted r s).intervention = s.intervention := by
  rcases noted_cases r s with h | h <;> rw [h] <;> rfl
@[simp] theorem noted_guidance (r : Request) (s : State) : (noted r s).guidance = s.guidance := by
  rcases noted_cases r s with h | h <;> rw [h] <;> rfl
@[simp] theorem noted_economy (r : Request) (s : State) : (noted r s).economy = s.economy := by
  rcases noted_cases r s with h | h <;> rw [h] <;> rfl
@[simp] theorem noted_time (r : Request) (s : State) : (noted r s).time = s.time := by
  rcases noted_cases r s with h | h <;> rw [h] <;> rfl
@[simp] theorem noted_meter (r : Request) (s : State) : (noted r s).meter = s.meter := by
  rcases noted_cases r s with h | h <;> rw [h] <;> rfl
@[simp] theorem noted_service (r : Request) (s : State) : (noted r s).service = s.service := by
  rcases noted_cases r s with h | h <;> rw [h] <;> rfl
@[simp] theorem noted_diag (r : Request) (s : State) : (noted r s).diag = s.diag := by
  rcases noted_cases r s with h | h <;> rw [h] <;> rfl
@[simp] theorem noted_store (r : Request) (s : State) : (noted r s).store = s.store := by
  rcases noted_cases r s with h | h <;> rw [h] <;> rfl
@[simp] theorem noted_access (r : Request) (s : State) : (noted r s).access = s.access := by
  rcases noted_cases r s with h | h <;> rw [h] <;> rfl
@[simp] theorem noted_pending (r : Request) (s : State) : (noted r s).pending = s.pending := by
  rcases noted_cases r s with h | h <;> rw [h] <;> rfl

@[simp] theorem noted_payloadOf (r : Request) (s : State) (role : Role) (h : role ≠ .request) :
    payloadOf (noted r s) role = payloadOf s role := by
  unfold payloadOf
  rw [entryOf_noted r s role h]

@[simp] theorem noted_limpOrHold (r : Request) (s : State) : limpOrHold (noted r s) = limpOrHold s := by
  unfold limpOrHold inHold
  rw [noted_power, noted_intervention]

@[simp] theorem noted_inHold (r : Request) (s : State) : inHold (noted r s) = inHold s := by
  unfold inHold
  rw [noted_intervention]

@[simp] theorem noted_holds (r : Request) (s : State) (n : Nat) (need : Level) :
    holds (noted r s) n need = holds s n need := by
  unfold holds levelAt
  rw [noted_access]

@[simp] theorem noted_engineRunning (r : Request) (s : State) : engineRunning (noted r s) = engineRunning s := by
  unfold engineRunning livePayload
  rw [entryOf_noted r s _ (by decide)]

@[simp] theorem noted_pilotTravel (r : Request) (s : State) : pilotTravel (noted r s) = pilotTravel s := by
  unfold pilotTravel
  rw [noted_payloadOf r s _ (by decide)]

/-- A level check that passes goes on from the renewed grant. -/
theorem checkLevel_passed (need : Level) (t : Ticket) (s : State) (rest : State → Answer)
    (h : holds s t.station need = true) (hn : need ≠ .operator) :
    checkLevel need t s rest = rest (renewGrant t.station s) := by
  unfold checkLevel
  rw [if_pos h]
  cases need
  · exact absurd rfl hn
  · rfl
  · rfl

theorem checkLevel_refused (need : Level) (t : Ticket) (s : State) (rest : State → Answer)
    (h : holds s t.station need = false) : checkLevel need t s rest = .reply .refusedLevel [] s := by
  unfold checkLevel
  rw [if_neg (by simp [h])]
  rfl

/-- A renewed grant leaves every station its level. -/
@[simp] theorem holds_renewGrant (s : State) (st n : Nat) (need : Level) :
    holds (renewGrant st s) n need = holds s n need := by
  have h : ∀ l : List Grant,
      ((mapWhere (fun g => g.serves st && g.level.isSome) (fun g => { g with expiry := some (s.now + grantTime) })
        l).find? (Grant.serves n)).bind (·.level) = (l.find? (Grant.serves n)).bind (·.level) := by
    intro l
    induction l with
    | nil => rfl
    | cons a l ih =>
      simp only [mapWhere, List.map_cons, List.find?_cons] at ih ⊢
      have e : Grant.serves n (if (a.serves st && a.level.isSome) = true then
          { a with expiry := some (s.now + grantTime) } else a) = a.serves n := by split <;> rfl
      rw [e]
      cases a.serves n
      · exact ih
      · simp only [Option.bind_some]
        split <;> rfl
  unfold holds levelAt
  unfold renewGrant
  simp only [h]

/-- A request that is not taken in Limp is taken outside Limp only. -/
theorem limpOrHold_of_taken (code : Byte) (r : Request) (s : State) (h : taken code r s = true)
    (hc : takenInLimp code = false) (hh : inHold s = false) : limpOrHold s = false := by
  have hp : (s.power == .limp) = false := by
    unfold taken at h
    simp only [Bool.and_eq_true, hc] at h
    have := h.1.1.2
    revert this
    cases s.power <;> simp
  unfold limpOrHold
  rw [hp, hh]
  rfl

/-- A taken request whose owner answers at once is answered so. -/
theorem repliedWith_of_owner (code : Byte) (own : Owner) (c : Instr) (r : Request) (s u : State) (res : Result)
    (data : List Byte) (ht : taken code r s = true)
    (hc : exec c s = .next (settle s (takeRequest code (some own) r s)))
    (ho : own (ticketOf code r s) r.args (noted r s) = .reply res data u) :
    exec c s = repliedWith code res data r s u := by
  rw [hc, takeRequest_taken _ _ r s ht, ho]
  rfl

/-- Commands whose owners answer RefusedState in Hold are so refused. -/
theorem refusedInHold_of_owners (l : List (Byte × (Request → Instr)))
    (h : ∀ x ∈ l, ∃ own : Owner,
      (∀ r s, exec (x.2 r) s = .next (settle s (takeRequest x.1 (some own) r s)))
        ∧ ∀ t a s, inHold s = true → own t a s = .reply .refusedState [] s) : RefusedInHold l := by
  intro x hx r s ht hh
  obtain ⟨own, hc, ho⟩ := h x hx
  exact repliedWith_of_owner x.1 own _ r s _ _ _ ht (hc r s) (ho _ _ _ (by simpa using hh))

/-- Commands whose owners answer RefusedLevel to a station below the level are so refused. -/
theorem refusedBelow_of_owners (need : Level) (l : List (Byte × (Request → Instr)))
    (h : ∀ x ∈ l, ∃ own : Owner,
      (∀ r s, exec (x.2 r) s = .next (settle s (takeRequest x.1 (some own) r s)))
        ∧ ∀ t a s, takenInLimp x.1 = true ∨ limpOrHold s = false → inHold s = false →
          holds s t.station need = false → own t a s = .reply .refusedLevel [] s) : RefusedBelow need l := by
  intro x hx r s ht hh hb
  obtain ⟨own, hc, ho⟩ := h x hx
  refine repliedWith_of_owner x.1 own _ r s _ _ _ ht (hc r s) (ho _ _ _ ?_ (by simpa using hh) ?_)
  · cases hl : takenInLimp x.1
    · exact .inr (by simpa using limpOrHold_of_taken x.1 r s ht hl hh)
    · exact .inl rfl
  · show holds (noted r s) r.station need = false
    simpa using hb

/-! ## Look-ups -/

theorem indexOf?_none {α : Type} (p : α → Bool) (l : List α) (h : ∀ x ∈ l, p x = false) : indexOf? p l = none := by
  induction l with
  | nil => rfl
  | cons a l ih =>
    unfold indexOf?
    rw [h a List.mem_cons_self, ih fun x hx => h x (List.mem_cons_of_mem a hx)]
    rfl

/-- The member of least index that satisfies `p` is the one found. -/
theorem indexOf?_least {α : Type} (p : α → Bool) (l : List α) (i : Nat) (x : α) (hx : l[i]? = some x)
    (hp : p x = true) (hl : ∀ j y, l[j]? = some y → p y = true → i ≤ j) :
    indexOf? p l = some i ∧ l.find? p = some x := by
  induction l generalizing i with
  | nil => simp at hx
  | cons a l ih =>
    cases i with
    | zero =>
      simp only [List.getElem?_cons_zero, Option.some.injEq] at hx
      subst hx
      simp [indexOf?, hp]
    | succ i =>
      have ha : p a = false := by
        by_contra h
        exact absurd (hl 0 a rfl (by simpa using h)) (by omega)
      have := ih i (by simpa using hx) fun j y hj hy => by
        have := hl (j + 1) y (by simpa using hj) hy
        omega
      simp [indexOf?, ha, this]

/-- The present places are those that hold a segment. -/
theorem mem_presentPlaces (p : List (Option Segment)) (j : Nat) (x : Segment) :
    (j, x) ∈ presentPlaces p ↔ p[j]? = some (some x) := by
  simp only [presentPlaces, indexed, List.mem_filterMap]
  constructor
  · rintro ⟨⟨a, b⟩, h1, h2⟩
    cases b with
    | none => simp at h2
    | some g =>
      simp only [Option.map_some, Option.some.injEq, Prod.mk.injEq] at h2
      obtain ⟨rfl, rfl⟩ := h2
      obtain ⟨n, h1⟩ := List.mem_iff_getElem?.1 h1
      rw [List.getElem?_zip_eq_some] at h1
      obtain ⟨hn, he⟩ := List.getElem?_eq_some_iff.1 h1.1
      simp only [List.getElem_range] at he
      subst he
      exact h1.2
  · intro h
    obtain ⟨hl, -⟩ := List.getElem?_eq_some_iff.1 h
    refine ⟨(j, some x), List.mem_iff_getElem?.2 ⟨j, ?_⟩, by simp⟩
    rw [List.getElem?_zip_eq_some]
    exact ⟨by simp [hl], h⟩

/-- The present places stand in index order. -/
theorem presentPlaces_sorted (p : List (Option Segment)) :
    (presentPlaces p).Pairwise (fun a b => a.1 < b.1) := by
  unfold presentPlaces
  rw [List.pairwise_filterMap]
  have h : (indexed p).Pairwise (fun a b => a.1 < b.1) := by
    unfold indexed
    rw [List.pairwise_iff_getElem]
    intro i j hi hj hij
    simpa using hij
  refine h.imp ?_
  rintro ⟨a, b⟩ ⟨c, d⟩ h x hx y hy
  cases b <;> cases d <;> simp at hx hy
  subst hx
  subst hy
  exact h

/-! ## Accepted frames -/

/-- An accepted frame is handed on from the graded state. -/
theorem takeFrame_accepted (role : Role) (station : Option Nat) (f : Frame) (s : State)
    (x : Nat × SubEntry × SubEntry × Payload) (h : accepted role station f s = some x) :
    takeFrame role station f s = handArrival x.2.1.config.station x.2.2.2 (gradedBy x s) := by
  unfold accepted at h
  split at h
  · rename_i hc
    simp only [Bool.and_eq_true, beq_iff_eq] at hc
    split at h
    · rename_i i e p hi he hp
      rw [Option.map_eq_some_iff] at h
      obtain ⟨new, hj, hx⟩ := h
      subst hx
      unfold takeFrame
      have hc' : (s.power != .running || !receiving s) = false := by rw [hc.1, hc.2]; rfl
      rw [hi, he, hp]
      simp only [hc', Bool.false_eq_true, ↓reduceIte, hj]
      rfl
    · exact absurd h (by simp)
  · exact absurd h (by simp)

/-! ## The end of an event -/

/-- The end of an event changes no more than EventEnd says. -/
theorem EventEnd.refl (s : State) : EventEnd s s :=
  ⟨⟨rfl, rfl, rfl, rfl⟩, ⟨rfl, rfl, rfl, rfl, rfl, rfl, rfl, rfl, rfl⟩, ⟨rfl, rfl, rfl⟩,
   ⟨rfl, rfl, rfl, rfl, rfl, rfl, rfl, rfl⟩, rfl, rfl, ⟨rfl, rfl, rfl, rfl, rfl, rfl, rfl, rfl, rfl⟩⟩

end Sys2Proof.Machine
end

