-- ==== Sys2Proof/Laws/Store.lean ====
section
/-! SUPPORT. The canonical form of the image blocks, kept by every write of a block; reading a block after a
write; the bounds that the ring's and the list's operations keep. -/

namespace Sys2Proof.Machine

/-! ## Image blocks -/

theorem setBlock_below (b : Nat) (w : BitVec 32) (c : Nat) (v : BitVec 32) (l : List (Nat × BitVec 32))
    (h : c < b) : setBlock b w ((c, v) :: l) = (c, v) :: setBlock b w l := by
  rw [setBlock, if_pos h]

theorem setBlock_at (b : Nat) (w v : BitVec 32) (l : List (Nat × BitVec 32)) :
    setBlock b w ((b, v) :: l) = if w = 0 then l else (b, w) :: l := by
  rw [setBlock, if_neg (Nat.lt_irrefl b)]
  simp

theorem setBlock_above (b : Nat) (w : BitVec 32) (c : Nat) (v : BitVec 32) (l : List (Nat × BitVec 32))
    (h : b < c) : setBlock b w ((c, v) :: l) = if w = 0 then (c, v) :: l else (b, w) :: (c, v) :: l := by
  have : c ≠ b := Nat.ne_of_gt h
  rw [setBlock, if_neg (Nat.not_lt_of_gt h)]
  simp [this]

/-- Every listed block number lies above `b`. -/
def blocksAbove (b : Nat) (l : List (Nat × BitVec 32)) : Bool := l.all fun x => decide (b < x.1)

theorem blocksWf_cons (c : Nat) (v : BitVec 32) (l : List (Nat × BitVec 32)) :
    blocksWf ((c, v) :: l) = (v != 0 && blocksAbove c l && blocksWf l) := by
  induction l generalizing c v with
  | nil => simp [blocksWf, blocksAbove]
  | cons x l ih =>
    obtain ⟨d, w⟩ := x
    rw [blocksWf, ih d w, Bool.eq_iff_iff]
    simp only [blocksAbove, List.all_cons, Bool.and_eq_true, decide_eq_true_eq, List.all_eq_true]
    constructor
    · rintro ⟨⟨hv, hcd⟩, ⟨hw, ha⟩, hl⟩
      exact ⟨⟨hv, hcd, fun y hy => Nat.lt_trans hcd (ha y hy)⟩, ⟨hw, ha⟩, hl⟩
    · rintro ⟨⟨hv, hcd, _⟩, ⟨hw, ha⟩, hl⟩
      exact ⟨⟨hv, hcd⟩, ⟨hw, ha⟩, hl⟩

theorem blocksAbove_setBlock (a b : Nat) (w : BitVec 32) (l : List (Nat × BitVec 32)) (hab : a < b)
    (h : blocksAbove a l = true) : blocksAbove a (setBlock b w l) = true := by
  induction l with
  | nil =>
    unfold setBlock
    split
    · rfl
    · simp [blocksAbove, hab]
  | cons x l ih =>
    obtain ⟨c, v⟩ := x
    simp only [blocksAbove, List.all_cons, Bool.and_eq_true, decide_eq_true_eq] at h
    have hl : blocksAbove a l = true := h.2
    have hi := ih hl
    simp only [blocksAbove] at hi hl
    unfold setBlock
    repeat' split
    all_goals simp_all [blocksAbove]
    all_goals first | exact hi | exact hl

theorem blocksAbove_mono (a b : Nat) (l : List (Nat × BitVec 32)) (hab : a ≤ b) (h : blocksAbove b l = true) :
    blocksAbove a l = true := by
  simp only [blocksAbove, List.all_eq_true, decide_eq_true_eq] at h ⊢
  exact fun x hx => Nat.lt_of_le_of_lt hab (h x hx)

/-- Writing a block keeps the canonical form. -/
theorem blocksWf_setBlock (b : Nat) (w : BitVec 32) (l : List (Nat × BitVec 32)) (h : blocksWf l = true) :
    blocksWf (setBlock b w l) = true := by
  induction l with
  | nil =>
    unfold setBlock
    split
    · rfl
    · simp_all [blocksWf]
  | cons x l ih =>
    obtain ⟨c, v⟩ := x
    rw [blocksWf_cons] at h
    simp only [Bool.and_eq_true] at h
    obtain ⟨⟨hv, ha⟩, hl⟩ := h
    by_cases hc : c < b
    · rw [setBlock_below _ _ _ _ _ hc, blocksWf_cons]
      simp only [Bool.and_eq_true]
      exact ⟨⟨hv, blocksAbove_setBlock c b w l hc ha⟩, ih hl⟩
    · by_cases he : c = b
      · subst he
        rw [setBlock_at]
        split
        · exact hl
        · rename_i hw
          rw [blocksWf_cons]
          simp only [Bool.and_eq_true]
          exact ⟨⟨by simpa using hw, ha⟩, hl⟩
      · have hlt : b < c := by omega
        have hwf : blocksWf ((c, v) :: l) = true := by
          rw [blocksWf_cons]
          simp only [Bool.and_eq_true]
          exact ⟨⟨hv, ha⟩, hl⟩
        rw [setBlock_above _ _ _ _ _ hlt]
        split
        · exact hwf
        · rename_i hw
          rw [blocksWf_cons]
          simp only [Bool.and_eq_true]
          refine ⟨⟨by simpa using hw, ?_⟩, hwf⟩
          have := blocksAbove_mono b c l (Nat.le_of_lt hlt) ha
          simp only [blocksAbove, List.all_cons, Bool.and_eq_true, decide_eq_true_eq] at this ⊢
          exact ⟨hlt, this⟩

/-- A write and a cut-off write of a copy keep its canonical form. -/
theorem ImageCopy.blocksWf_write (c : ImageCopy) (b : Nat) (w : BitVec 32) (h : blocksWf c.blocks = true) :
    blocksWf (c.write b w).blocks = true := blocksWf_setBlock b w _ h

theorem ImageCopy.blocksWf_cutOff (c : ImageCopy) (b free : Nat) (h : blocksWf c.blocks = true) :
    blocksWf (c.cutOff b free).blocks = true := blocksWf_setBlock b _ _ h

theorem find?_above (b : Nat) (l : List (Nat × BitVec 32)) (h : blocksAbove b l = true) :
    l.find? (·.1 == b) = none := by
  rw [List.find?_eq_none]
  simp only [blocksAbove, List.all_eq_true, decide_eq_true_eq] at h
  intro x hx
  have := h x hx
  simp only [beq_iff_eq]
  omega

/-- A block reads as what was written to it last; the others read as before. -/
theorem getBlock_setBlock (a b : Nat) (w : BitVec 32) (l : List (Nat × BitVec 32)) (h : blocksWf l = true) :
    getBlock a (setBlock b w l) = if a = b then w else getBlock a l := by
  have hcons : ∀ (d : Nat) (u : BitVec 32) (l : List (Nat × BitVec 32)),
      getBlock a ((d, u) :: l) = if d = a then u else getBlock a l := by
    intro d u l
    unfold getBlock
    rw [List.find?_cons]
    by_cases hd : d = a
    · simp [hd]
    · have hb : (d == a) = false := by simpa using hd
      simp [hd, hb]
  induction l with
  | nil =>
    have h0 : getBlock a [] = 0 := rfl
    have hs : setBlock b w [] = if w = 0 then [] else [(b, w)] := by simp [setBlock]
    rw [hs, h0]
    by_cases hw : w = 0
    · rw [if_pos hw, h0, hw]
      simp
    · rw [if_neg hw, hcons, h0]
      simp only [eq_comm]
  | cons x l ih =>
    obtain ⟨c, v⟩ := x
    rw [blocksWf_cons] at h
    simp only [Bool.and_eq_true] at h
    obtain ⟨⟨_, ha⟩, hl⟩ := h
    have hi := ih hl
    have habove : ∀ d, d ≤ c → getBlock d l = 0 := by
      intro d hd
      unfold getBlock
      rw [find?_above d l (blocksAbove_mono d c l hd ha)]
    by_cases hc : c < b
    · rw [setBlock_below _ _ _ _ _ hc, hcons, hi, hcons]
      by_cases hca : c = a
      · rw [if_pos hca, if_neg (by omega), if_pos hca]
      · rw [if_neg hca, if_neg hca]
    · by_cases he : c = b
      · subst he
        rw [setBlock_at]
        by_cases hca : a = c
        · subst hca
          rw [if_pos rfl]
          split
          · rename_i hw
            rw [habove a (Nat.le_refl a), hw]
          · rw [hcons, if_pos rfl]
        · have hn : ¬ c = a := fun e => hca e.symm
          rw [if_neg hca, hcons, if_neg hn]
          split
          · rfl
          · rw [hcons, if_neg hn]
      · have hlt : b < c := by omega
        rw [setBlock_above _ _ _ _ _ hlt]
        by_cases hab : a = b
        · subst hab
          rw [if_pos rfl]
          split
          · rename_i hw
            rw [hcons, if_neg (by omega), habove a (by omega), hw]
          · rw [hcons, if_pos rfl]
        · rw [if_neg hab]
          split
          · rfl
          · rw [hcons, if_neg (fun e => hab e.symm)]

/-! ## The event ring -/

theorem length_eraseFirst {α : Type} (p : α → Bool) (l : List α) (h : l.any p = true) :
    (eraseFirst p l).length + 1 = l.length := by
  induction l with
  | nil => simp at h
  | cons x l ih =>
    unfold eraseFirst
    split
    · simp
    · rename_i hx
      simp only [List.any_cons, hx, Bool.false_or] at h
      simp [ih h]

/-- A reply that joins leaves the ring within its eight places. -/
theorem length_queueReply (b : Biu) (d : List Byte) (h : b.ring.length ≤ 8) :
    (b.queueReply d).ring.length ≤ 8 := by
  unfold Biu.queueReply Biu.join
  split
  · simp only [List.length_append, List.length_cons, List.length_nil]
    omega
  · exact h

/-- A notice that joins leaves the ring within its eight places. -/
theorem length_queueNotice (b c : Biu) (d : List Byte) (f : Option Nat) (h : b.ring.length ≤ 8)
    (hq : b.queueNotice d f = some c) : c.ring.length ≤ 8 := by
  unfold Biu.queueNotice at hq
  split at hq
  · cases hq
    simp only [Biu.join, List.length_append, List.length_cons, List.length_nil]
    omega
  · split at hq
    · rename_i hany
      cases hq
      have := length_eraseFirst _ _ hany
      simp only [Biu.join, List.length_append, List.length_cons, List.length_nil]
      omega
    · cases hq

/-! ## The Diagnostic List -/

/-- A report that is taken leaves the list within its twenty entries. -/
theorem length_takeReport (l m : List FaultEntry) (c : FaultCode) (src : FaultSource) (t : Option ClockTime)
    (h : l.length ≤ 20) (ht : takeReport l c src t = some m) : m.length ≤ 20 := by
  unfold takeReport at ht
  dsimp only at ht
  split at ht
  · cases ht
    simpa [mapWhere] using h
  · split at ht
    · cases ht
      simp only [List.length_append, List.length_cons, List.length_nil]
      omega
    · split at ht
      · rename_i hany
        cases ht
        have := length_eraseFirst _ _ hany
        simp only [List.length_append, List.length_cons, List.length_nil]
        omega
      · cases ht

end Sys2Proof.Machine
end

