-- ==== Sys2Proof/Laws/PerInstr.lean ====
section
/-! SUPPORT. A family of facts about every command as syntax, one lemma for each constructor: a well-formed
command carries at most the bytes that the bus can bring (12, opening; R196). -/

namespace Sys2Proof.Laws.Sized

/-- The data bytes that a command carries. -/
def dataBytes : Instr → Nat
  | .read r | .key r | .restart r | .clearFaults r | .writeImage r | .ackWarning r |
    .teachLimit r | .setLimit r | .enableLimit r | .disableLimit r | .release r | .override r | .resume r |
    .benchmark r | .setGrade r | .powerMode r | .tableRecall r | .setClock r | .setTrim r |
    .setMeter r | .serviceDone r | .ackReminder r => r.data.length
  | .unknownRequestCode _ r => r.data.length
  | .requestFragment _ f => f.data.length
  | .poseInputArrival _ f => f.data.length
  | .engineRun f => f.data.length
  | .engineFuel f => f.data.length
  | .coolant f => f.data.length
  | .pump f => f.data.length
  | .pilot f => f.data.length
  | .valveCut f => f.data.length
  | .extCut _ f => f.data.length
  | .timeSync f => f.data.length
  | _ => 0

/-- A well-formed command's data fit a series of eight frames. -/
def Statement (i : Instr) : Prop := i.wellFormed = true → dataBytes i ≤ 55

theorem ofRequest (r : Request) (h : r.wellFormed = true) : r.data.length ≤ 55 := by
  simp only [Request.wellFormed, Bool.and_eq_true, decide_eq_true_eq] at h
  exact h.2

theorem ofFrame (f : Frame) (h : f.wellFormed = true) : f.data.length ≤ 55 := by
  simp only [Frame.wellFormed, decide_eq_true_eq] at h
  exact Nat.le_trans h (by decide)

theorem read (r : Request) : Statement (.read r) := ofRequest r
theorem key (r : Request) : Statement (.key r) := ofRequest r
theorem restart (r : Request) : Statement (.restart r) := ofRequest r
theorem clearFaults (r : Request) : Statement (.clearFaults r) := ofRequest r
theorem writeImage (r : Request) : Statement (.writeImage r) := ofRequest r
theorem ackWarning (r : Request) : Statement (.ackWarning r) := ofRequest r
theorem teachLimit (r : Request) : Statement (.teachLimit r) := ofRequest r
theorem setLimit (r : Request) : Statement (.setLimit r) := ofRequest r
theorem enableLimit (r : Request) : Statement (.enableLimit r) := ofRequest r
theorem disableLimit (r : Request) : Statement (.disableLimit r) := ofRequest r
theorem release (r : Request) : Statement (.release r) := ofRequest r
theorem override (r : Request) : Statement (.override r) := ofRequest r
theorem resume (r : Request) : Statement (.resume r) := ofRequest r
theorem benchmark (r : Request) : Statement (.benchmark r) := ofRequest r
theorem setGrade (r : Request) : Statement (.setGrade r) := ofRequest r
theorem powerMode (r : Request) : Statement (.powerMode r) := ofRequest r
theorem tableRecall (r : Request) : Statement (.tableRecall r) := ofRequest r
theorem setClock (r : Request) : Statement (.setClock r) := ofRequest r
theorem setTrim (r : Request) : Statement (.setTrim r) := ofRequest r
theorem setMeter (r : Request) : Statement (.setMeter r) := ofRequest r
theorem serviceDone (r : Request) : Statement (.serviceDone r) := ofRequest r
theorem ackReminder (r : Request) : Statement (.ackReminder r) := ofRequest r
theorem unknownRequestCode (code : Option Byte) (r : Request) : Statement (.unknownRequestCode code r) := fun h => ofRequest r (Bool.and_eq_true _ _ ▸ h).1
theorem requestFragment (station : Nat) (f : Frame) : Statement (.requestFragment station f) := fun h => ofFrame f (Bool.and_eq_true _ _ ▸ h).2
theorem poseInputArrival (role : PoseRole) (f : Frame) : Statement (.poseInputArrival role f) := ofFrame f
theorem engineRun (f : Frame) : Statement (.engineRun f) := ofFrame f
theorem engineFuel (f : Frame) : Statement (.engineFuel f) := ofFrame f
theorem coolant (f : Frame) : Statement (.coolant f) := ofFrame f
theorem pump (f : Frame) : Statement (.pump f) := ofFrame f
theorem pilot (f : Frame) : Statement (.pilot f) := ofFrame f
theorem valveCut (f : Frame) : Statement (.valveCut f) := ofFrame f
theorem extCut (station : Nat) (f : Frame) : Statement (.extCut station f) := fun h => ofFrame f (Bool.and_eq_true _ _ ▸ h).2
theorem timeSync (f : Frame) : Statement (.timeSync f) := ofFrame f
theorem topicClash (topic : Nat) : Statement (.topicClash topic) := fun _ => Nat.zero_le _
theorem staleLimitPassed (entry : Nat) : Statement (.staleLimitPassed entry) := fun _ => Nat.zero_le _
theorem lostLimitPassed (entry : Nat) : Statement (.lostLimitPassed entry) := fun _ => Nat.zero_le _
theorem degradedTimerExpiry : Statement (.degradedTimerExpiry) := fun _ => Nat.zero_le _
theorem confirmTimerExpiry : Statement (.confirmTimerExpiry) := fun _ => Nat.zero_le _
theorem overrideTimerExpiry (sequence : Nat) : Statement (.overrideTimerExpiry sequence) := fun _ => Nat.zero_le _
theorem stageTimerExpiry : Statement (.stageTimerExpiry) := fun _ => Nat.zero_le _
theorem waitTimerExpiry : Statement (.waitTimerExpiry) := fun _ => Nat.zero_le _
theorem shutdownTimerExpiry : Statement (.shutdownTimerExpiry) := fun _ => Nat.zero_le _
theorem resumeTimerExpiry : Statement (.resumeTimerExpiry) := fun _ => Nat.zero_le _
theorem grantExpiry (station : Nat) : Statement (.grantExpiry station) := fun _ => Nat.zero_le _
theorem lockoutExpiry (station : Nat) : Statement (.lockoutExpiry station) := fun _ => Nat.zero_le _
theorem cutDemandPeriod : Statement (.cutDemandPeriod) := fun _ => Nat.zero_le _
theorem guidancePeriod : Statement (.guidancePeriod) := fun _ => Nat.zero_le _
theorem engineReqPeriod : Statement (.engineReqPeriod) := fun _ => Nat.zero_le _
theorem metersPeriod : Statement (.metersPeriod) := fun _ => Nat.zero_le _
theorem statusPeriod : Statement (.statusPeriod) := fun _ => Nat.zero_le _
theorem clockCount : Statement (.clockCount) := fun _ => Nat.zero_le _
theorem oscillatorStop : Statement (.oscillatorStop) := fun _ => Nat.zero_le _
theorem oscillatorRestart : Statement (.oscillatorRestart) := fun _ => Nat.zero_le _
theorem supplyDrop : Statement (.supplyDrop) := fun _ => Nat.zero_le _
theorem detectorRearm : Statement (.detectorRearm) := fun _ => Nat.zero_le _
theorem storeWriteComplete : Statement (.storeWriteComplete) := fun _ => Nat.zero_le _
theorem frameTransmitted : Statement (.frameTransmitted) := fun _ => Nat.zero_le _
theorem transmitAttemptFailed (error : Bool) : Statement (.transmitAttemptFailed error) := fun _ => Nat.zero_le _
theorem busOff : Statement (.busOff) := fun _ => Nat.zero_le _
theorem busRecovery : Statement (.busRecovery) := fun _ => Nat.zero_le _
theorem batteryConnect (keyOn : Bool) (straps : BitVec 5) : Statement (.batteryConnect keyOn straps) := fun _ => Nat.zero_le _
theorem keepAliveSupplyLoss : Statement (.keepAliveSupplyLoss) := fun _ => Nat.zero_le _
theorem mainSupplyLoss : Statement (.mainSupplyLoss) := fun _ => Nat.zero_le _
theorem keyOn (straps : BitVec 5) : Statement (.keyOn straps) := fun _ => Nat.zero_le _
theorem keyOff : Statement (.keyOff) := fun _ => Nat.zero_le _
theorem shutdownComplete : Statement (.shutdownComplete) := fun _ => Nat.zero_le _
theorem restartBegin : Statement (.restartBegin) := fun _ => Nat.zero_le _
theorem listenEnd : Statement (.listenEnd) := fun _ => Nat.zero_le _

end Sys2Proof.Laws.Sized
end

