-- ==== Sys2Proof/Tests/Slice0.lean ====
section
/-! SUPPORT. Small tests: ill-formed commands are refused by the well-formedness check; worked examples of the
manual; and, for every obligation with hypotheses, a state and operands that meet them, clause by clause. -/

namespace Sys2Proof.Tests
open Sys2Proof Sys2Proof.Machine

/-! ## Well-formedness: one ill-formed term for each check -/

theorem test_wf_request : Instr.wellFormed (.key ⟨11, 0, [1, 0]⟩) = true := by decide
theorem test_wf_station_zero : Instr.wellFormed (.key ⟨0, 0, [1, 0]⟩) = false := by decide
theorem test_wf_station_high : Instr.wellFormed (.read ⟨32, 0, [1]⟩) = false := by decide
theorem test_wf_series_long : Instr.wellFormed (.setLimit ⟨11, 0, List.replicate 56 0⟩) = false := by decide
theorem test_wf_known_code : Instr.wellFormed (.unknownRequestCode (some 22) ⟨11, 0, [1]⟩) = false := by decide
theorem test_wf_code_without_data : Instr.wellFormed (.unknownRequestCode none ⟨11, 0, [1]⟩) = false := by decide
theorem test_wf_frame_long : Instr.wellFormed (.pump ⟨0x80, List.replicate 8 0⟩) = false := by decide
theorem test_wf_fragment_station : Instr.wellFormed (.requestFragment 40 ⟨0x80, []⟩) = false := by decide
theorem test_wf_fragment_frame : Instr.wellFormed (.requestFragment 4 ⟨0x80, List.replicate 8 0⟩) = false := by decide
theorem test_wf_ext_cut_station : Instr.wellFormed (.extCut 0 ⟨0x80, [1]⟩) = false := by decide
theorem test_wf_topic : Instr.wellFormed (.topicClash 2048) = false := by decide
theorem test_wf_entry : Instr.wellFormed (.staleLimitPassed 40) = false := by decide
theorem test_wf_sequence_zero : Instr.wellFormed (.overrideTimerExpiry 0) = false := by decide
theorem test_wf_sequence_high : Instr.wellFormed (.overrideTimerExpiry 65536) = false := by decide
theorem test_wf_grant_station : Instr.wellFormed (.grantExpiry 32) = false := by decide

/-! ## Worked examples of the manual -/

def bucketPoints : List Int := [3000, 1000, -1200, -3500, -5900, -8300, -10600, -12800, -14900]
def bucketTable : DescConfig := ⟨0, 9, 1200, 250, 0⟩

/-- The lookups of the BUCKET example (1.5). -/
theorem test_bucket_lookups :
    [2030, 1333, 1451, 3200, 3201, 1000].map (lookup bucketPoints bucketTable)
      = [(-4268, false), (1936, false), (991, false), (-14900, false), (-14900, true), (3000, true)] := by
  decide

/-- The one solve of 1.4. -/
theorem test_one_solve :
    let p := solved PoseUnit.atStart.pose ⟨600, 2400, 8000, 3800, 2100⟩ 3000 (-9000) (-4268) 150 200 0 0
    (p.reach, p.tip, p.top, p.tipAngle) = (8999, 1280, 6580, -10118) := by
  decide +kernel

/-- A state with a slew angle, a slew rate and a SLEW_STOP output. -/
def slewing (angle : Nat) (rate stopDistance : Int) : State :=
  { State.reset with pose := {
      PoseUnit.atStart with
      pose := { PoseUnit.atStart.pose with slewAngle := BitVec.ofNat 16 angle, slewRate := rate }
      descriptors := [.atStart ⟨0, 2, 0, 1, 0⟩,
        { Descriptor.atStart ⟨0, 2, 0, 1, 0⟩ with held := some stopDistance }] } }

def ccwStop : LimitConfig := ⟨.slewCcwStop, 3000, 1820, .stop, MotionSet.slewLeft, none, .supervisor, .follow⟩

/-- The slew clearances of 2.2. -/
theorem test_slew_clearances :
    [slewing 62000 150 2900, slewing 64000 150 2900, slewing 64800 250 5300, slewing 1000 0 0,
      slewing 35000 0 0].map (fun s => ((predictedStop s).toNat, clearance s ccwStop, actualClearance s ccwStop))
      = [(64900, 3636, 6536), (1364, 1636, 4536), (4564, -1564, 3736), (1000, 2000, 2000),
         (35000, -32000, -32000)] := by
  decide

/-- The clock's carries (R109). -/
theorem test_century_end : nextSecond ⟨59, 59, 23, 4, 31, 12, 2099⟩ = ⟨0, 0, 0, 5, 1, 1, 2000⟩ := by decide
theorem test_leap_day : nextSecond ⟨59, 59, 23, 6, 28, 2, 2096⟩ = ⟨0, 0, 0, 0, 29, 2, 2096⟩ := by decide

/-- Byte 0 of a frame (R194): counter in the low nibble, frame number, last mark. -/
theorem test_header : headerByte 5 2 true = 0xA5 ∧ headerByte 15 0 false = 0x0F := by decide

/-! ## A state in Running -/

def fresh (topic station : Nat) (r : Role) (p : Payload) : SubEntry :=
  ⟨⟨topic, station, r, 200, 1000⟩, some p, some 5, 900, .fresh, 3, 0, none, none, none⟩

def requestEntry11 : SubEntry :=
  ⟨⟨120, 11, .request, 0, 0⟩, none, some 5, 0, .never, 0, 0, none, none, none⟩

def limitEntry (c : LimitConfig) (st : LimitState) : LimitEntry := ⟨c, st, false, none, none, none⟩

def wall (a : LimitAction) : LimitConfig := ⟨.reachWall, 9000, 500, a, 9, none, .supervisor, .follow⟩

def pressureItem : ServiceItem :=
  ⟨⟨4101, .important, some 0, 500, 25, 50, 180, 14, 7, none⟩, some (.time 10 0), none, .due, .ok, false, none⟩

/-- Running, station 17: every graded entry Fresh, station 11 a Technician, three limit entries, one Confirmed
record of entry 0, a segment of grade, the clock set. -/
def base : State := { State.reset with
  now := 1000
  power := .running
  station := 17
  pins := ⟨true, 17, true⟩
  imageGood := true
  config := { ImageFields.blank with
    pool := bucketPoints ++ [0, 1000, 3000] ++ [1400, 900]
    fineBand := 50
    digThreshold := 180
    economy := ⟨1900, 1700, 1500, 450, 380, 200, 220, 100, 850, 4, 600⟩
    supervisorKey := 0x11111111
    technicianKey := 0x22222222 }
  topics := [fresh 100 1 .boomPos (.boomPos 3000), fresh 101 2 .armPos (.armPos (-9000)),
    fresh 102 3 .bucketLink (.bucketLink 2030), fresh 103 4 .slewPos (.slewPos 0 0),
    fresh 104 5 .chassisTilt (.chassisTilt 0 0), fresh 110 6 .engineRun (.engineRun true 1700),
    fresh 111 6 .engineFuel (.engineFuel 1800), fresh 112 6 .coolant (.coolant 20),
    fresh 113 7 .pump (.pump 200), fresh 114 8 .pilot (.pilot 0 false),
    fresh 115 14 .valveCut (.valveCut 3 8), fresh 116 22 .extCut (.extCut 0),
    fresh 117 9 .timeSync (.timeSync .origin), requestEntry11]
  bus := { Biu.atStart with
    topics := ⟨some 10, some 20, some 21, some 22, some 23, some 30, some 29, none, none, none⟩ }
  pose := { PoseUnit.atStart with
    pose := ⟨8999, 1280, 6580, 0, 0, -10118, .valid, 7⟩
    descriptors := [.atStart bucketTable, .atStart ⟨9, 3, 0, 250, 500⟩, .atStart ⟨12, 2, -40, 60, 800⟩] }
  limits := [limitEntry (wall .stop) .breach, limitEntry (wall .warn) .disabled,
    { limitEntry { wall .slow with latch := .latched } .clear with warning := true }]
  intervention := { InterventionUnit.atStart with
    list := [⟨1, .limitStop, some 0, .breach, 8, ⟨0, 0, 0, .valid⟩, .confirmed, false, false, none, false⟩]
    lastSeq := 1
    cutSet := 8
    demandSeq := 3 }
  guidance := { GuidanceUnit.atStart with
    profile := [some ⟨0, 2000, 0, 0⟩] ++ List.replicate 7 none }
  economy := { EconomyUnit.atStart with state := .held }
  time := { TimeBase.atBatteryConnect with clock := ⟨0, 0, 12, 3, 14, 5, 2031⟩, unsetCause := none }
  service := { ServiceUnit.atStart with items := [some pressureItem] ++ List.replicate 23 none }
  access := [⟨some 11, some .technician, some 600000, 0, none⟩, .empty, .empty, .empty] }

/-- The outcome is a next state that `p` holds of. -/
def leaves (p : State → Bool) : Host.Outcome State Fault Refusal → Bool
  | .next t => p t
  | _ => false

/-- A request of station 11 with a new counter. -/
def req (args : List Byte) : Request := ⟨11, 6, 1 :: args⟩

/-- A single frame with the next counter. -/
def frame (data : List Byte) : Frame := ⟨0x86, data⟩

/-- Base outside Hold and Limp with no record. -/
def clearList : State :=
  { base with intervention := .atStart, economy := { base.economy with state := .working } }

def held : State :=
  { base with
    intervention := { base.intervention with supervision := .hold, cutSet := 0xFF, confirmed := false }
    economy := { base.economy with state := .forced }
    pins := ⟨true, 17, false⟩ }

/-! ## Witnesses: steps and laws -/

theorem test_witness_StepRunsFrontCommand :
    { base with pending := [.keyOff] }.pending = .keyOff :: [] := by decide

theorem test_witness_EmptyQueueTicks :
    base.pending = [] ∧ base.power ≠ .off ∧ base.time.stopped = false := by decide

/-- The laws hold of a state that a frame changes, and that a step leaves for a next state. -/
theorem test_witness_laws :
    (cutoutLaw base = true ∧ demandLaw base = true ∧ idleLaw base = true ∧ sequenceLaw base = true
      ∧ ringLaw base = true ∧ faultLaw base = true ∧ unenteredLaw base = true ∧ imageLaw base = true
      ∧ clockLaw base = true ∧ meterLaw base = true)
      ∧ ∃ t, step { base with pending := [.valveCut (frame [3, 0])] } = .next t := ⟨by decide, _, rfl⟩

theorem test_witness_MetersNeverDecrease :
    (meterLaw base = true ∧ base.power = .running)
      ∧ (meterLaw { base with power := .limp } = true ∧ base.restart = none ∧ base.meter.keyOffTaken = false) := by
  decide

/-- A frame taken in Hold keeps Running. -/
theorem test_witness_stays_running :
    held.power = .running ∧ inHold held = true
      ∧ leaves (fun t => t.power == .running) (step { held with pending := [.valveCut (frame [3, 0])] }) = true := by
  decide +kernel

theorem test_witness_HoldStands_entry : inHold base = false := by decide

theorem test_witness_CommandsKeepLines :
    isLineCommand .supplyDrop = true ∧ isLineCommand .clockCount = false
      ∧ ∃ t, exec .clockCount base = .next t := ⟨by decide, by decide, _, rfl⟩

theorem test_witness_ReplySent :
    base.bus.ring.length < 8
      ∧ 8 ≤ (List.replicate 8 (⟨0, true, [], none, 0⟩ : RingFrame)).length := by decide

/-! ## Witnesses: tables -/

theorem test_witness_LookupOutput :
    1 ≤ bucketTable.limit ∧ 1 ≤ bucketTable.step ∧ (1199 : Int) - bucketTable.origin < 0
      ∧ (((bucketTable.limit - 1) * bucketTable.step : Nat) : Int) < 3201 - bucketTable.origin
      ∧ (3200 : Int) - bucketTable.origin = (8 : Nat) * bucketTable.step + (0 : Nat)
      ∧ 8 * bucketTable.step + 0 ≤ (bucketTable.limit - 1) * bucketTable.step
      ∧ (3199 : Int) - bucketTable.origin = (7 : Nat) * bucketTable.step + (249 : Nat)
      ∧ 249 < bucketTable.step := by decide

theorem test_witness_LinearClearances :
    [LimitKind.heightCeiling, .depthFloor, .reachWall].all (fun k => !k.isSlew) = true
      ∧ (-32767 : Int) ≤ measured base .reachWall ∧ measured base .reachWall ≤ 32767 := by decide

/-- Both slew kinds, and both causes at the boundary: the structure at the stop, and one unit before it. -/
theorem test_witness_SlewClearances :
    ccwStop.kind = .slewCcwStop ∧ LimitKind.isSlew .slewCwStop = true
      ∧ actualClearance (slewing 3000 0 0) ccwStop = 0 ∧ actualClearance (slewing 2999 0 0) ccwStop = 1
      ∧ (wall .stop).kind.isSlew = false := by decide

theorem test_witness_PredictedStopAngle :
    heldOutput (slewing 62000 1 16383) 1 = some ((16383 : Nat) : Int)
      ∧ 0 < (slewing 62000 1 16383).pose.pose.slewRate ∧ (slewing 100 (-1) 101).pose.pose.slewRate < 0
      ∧ heldOutput (slewing 100 (-1) 101) 1 = some ((101 : Nat) : Int)
      ∧ (slewing 100 0 0).pose.pose.slewRate = 0 := by decide

/-- A clearance on each line of the table, margin 500 and hysteresis 50, at its boundary. -/
theorem test_witness_LimitStateTable :
    (0 : Int) ≤ 500 ∧ (0 : Int) < 50
      ∧ ((50 : Int) < 501 ∧ (500 : Int) < 501) ∧ ((50 : Int) < 51 ∧ (51 : Int) ≤ 500) ∧ (50 : Int) ≤ 50
      ∧ (0 : Int) ≤ 0 ∧ ((0 : Int) < 500 ∧ (500 : Int) ≤ 500) ∧ ((500 : Int) + 50 < 551)
      ∧ ((0 : Int) < 550 ∧ (550 : Int) ≤ 500 + 50) ∧ ((50 : Int) ≤ 50 ∧ (50 : Int) ≤ 500 + 50)
      ∧ (49 : Int) < 50 := by decide

def withStates (f : SubEntry → SubEntry) : State := { base with topics := base.topics.map f }
def setState (r : Role) (st : EntryState) (e : SubEntry) : SubEntry :=
  if e.config.role = r then { e with state := st } else e

def setPayload (r : Role) (p : Payload) (e : SubEntry) : SubEntry :=
  if e.config.role = r then { e with payload := some p } else e

/-- All Fresh; an entry Lost; an entry Stale. -/
theorem test_witness_PoseQualityTable :
    ((poseEntries base).all (fun e => e.state = .fresh) = true ∧ poseClamped base = false)
      ∧ ((poseEntries (withStates (setState .armPos .lost))).all (fun e => e.state = .fresh) = false
        ∧ (poseEntries (withStates (setState .armPos .lost))).any
            (fun e => e.state = .lost ∨ e.state = .never) = true)
      ∧ ((poseEntries (withStates (setState .armPos .stale))).all (fun e => e.state = .fresh) = false
        ∧ (poseEntries (withStates (setState .armPos .stale))).any
            (fun e => e.state = .lost ∨ e.state = .never) = false ∧ base.pose.latch = false) := by decide

/-- An emptied list under a cut set of one motion, in each state of supervision. -/
def emptied (v : Supervision) : State :=
  { base with intervention := { base.intervention with list := [], supervision := v } }

theorem test_witness_CutSetChange :
    [Supervision.settled, .awaiting, .faulted, .hold].all (fun v =>
        (emptied v).intervention.supervision == v
          && cutSetOf (emptied v).intervention.list != (emptied v).intervention.cutSet) = true
      ∧ cutSetOf base.intervention.list = base.intervention.cutSet := by decide

theorem test_witness_PumpPowerLimit :
    held.economy.state = .forced ∧ base.economy.state ≠ .forced ∧ base.intervention.slowSet = 0
      ∧ { base.intervention with slowSet := 1 }.slowSet ≠ 0 := by decide

def faultNo (n : Nat) (active : Bool) : FaultEntry := ⟨.topicLost, .topic n, active, 1, none, none⟩
def faultList (n : Nat) (active : Bool) : State :=
  let l := faultNo 0 active :: (List.range n).map fun i => faultNo (i + 1) true
  { base with diag := ⟨l, [], attentionOf l⟩ }

/-- A listed fault; nineteen entries; twenty with an Inactive one; twenty Active ones. -/
theorem test_witness_ReportTaken :
    faultLaw (faultList 19 false) = true
      ∧ (faultList 19 true).diag.entries.any (FaultEntry.names .topicLost (.topic 19)) = true
      ∧ (faultLaw (faultList 18 true) = true ∧ (faultList 18 true).diag.entries.length = 19
        ∧ (faultList 18 true).diag.entries.any (FaultEntry.names .topicLost (.topic 19)) = false)
      ∧ ((faultList 19 false).diag.entries.length = 20
        ∧ (faultList 19 false).diag.entries.any (fun e => !e.active) = true
        ∧ (faultList 19 false).diag.entries.any (FaultEntry.names .topicLost (.topic 20)) = false)
      ∧ (faultLaw (faultList 19 true) = true ∧ (faultList 19 true).diag.entries.all (·.active) = true) := by
  decide

/-- The mark of a refused report is set once, and cleared with its entry; the other marks stand. -/
theorem test_report_marks :
    (let marked := fun (full : Bool) (l : List (FaultCode × FaultSource)) =>
      { faultList 19 full with diag := { (faultList 19 full).diag with unentered := l } }
     let marks := fun s => (report .topicLost (.topic 20) s).diag.unentered
     let other := (FaultCode.busOff, FaultSource.topic 3)
     marks (marked true [other]) = [other, (.topicLost, .topic 20)]
       ∧ marks (marked true [(.topicLost, .topic 20), other]) = [(.topicLost, .topic 20), other]
       ∧ marks (marked false [(.topicLost, .topic 20), other]) = [other]) := by decide

/-- Never; a repeat of 15; 0 after 15; any other counter. -/
theorem test_witness_FrameGrading :
    (SubEntry.atStart ⟨100, 1, .pump, 200, 1000⟩).state = .never
      ∧ (fresh 100 1 .pump (.pump 0)).state ≠ .never ∧ (fresh 100 1 .pump (.pump 0)).state ≠ .lost
      ∧ { fresh 100 1 .pump (.pump 0) with counter := some 15 }.counter = some ((0 : Counter) - 1)
      ∧ (fresh 100 1 .pump (.pump 0)).counter ≠ some 7
      ∧ (fresh 100 1 .pump (.pump 0)).counter ≠ some ((7 : Counter) - 1) := by decide

theorem test_witness_NextSecondFollows :
    ClockTime.ok ⟨59, 59, 23, 4, 31, 12, 2099⟩ = true ∧ ClockTime.ok ⟨58, 59, 23, 6, 31, 12, 2099⟩ = true
      ∧ ClockTime.ok ⟨59, 59, 23, 6, 29, 2, 2000⟩ = true := by decide

/-! ## Witnesses: requests -/

def entry11 (f : SubEntry → SubEntry) : State := withStates fun e => if e.config.role = .request then f e else e

theorem test_witness_RequestFramework :
    requestCommands.length = 22 ∧ requestEntry base 12 = none
      ∧ requestEntry base 11 = some requestEntry11 ∧ receiving base = true
      ∧ (requestEntry11.counter = some 5 ∧ requestEntry11.stored = none)
      ∧ (requestEntry11.counter ≠ some (req []).counter ∧ requestEntry11.inFlight = none)
      ∧ argsComplete 1 (req [1, 0, 0]) = false ∧ argsComplete 1 (req [1, 0, 0, 0]) = true
      ∧ takenInLimp 6 = false ∧ argsComplete 6 (req [0]) = true ∧ passesKeyOff 6 = false := by decide

/-- A reply stored for a repeat; a request in flight. -/
theorem test_witness_RequestFramework_entries :
    requestEntry (entry11 fun e => { e with stored := some [17, 1, 1, 0] }) 11
        = some { requestEntry11 with stored := some [17, 1, 1, 0] }
      ∧ requestEntry (entry11 fun e => { e with inFlight := some 5 }) 11
        = some { requestEntry11 with inFlight := some 5 } := by decide

def waitingRestart (stations : List Nat) (queued : Nat) (reply : List Byte) : State :=
  let s := entry11 fun e => { e with stored := some reply }
  { s with
    restart := some ⟨stations, s.now + 200, [], false⟩
    bus := { s.bus with ring := List.replicate queued ⟨0, true, [17, 1, 1, 0], none, 0⟩ } }

/-- While a RESTART waits: its own reply, another's reply, its own reply at another station's wait, a ring one place
short of full and full. -/
theorem test_witness_RequestFramework_waiting :
    [waitingRestart [11] 0 [17, 3, 1, 0], waitingRestart [11] 0 [17, 4, 1, 0], waitingRestart [12, 11] 0 [17, 3, 1, 0],
        waitingRestart [11] 7 [17, 3, 1, 0], waitingRestart [11] 8 [17, 3, 1, 0]].all (fun s =>
      s.restart.isSome && receiving s
        && (requestEntry s 11).any fun e => e.counter == some 5 && e.inFlight == none && e.stored.isSome) = true := by
  decide

/-- Arguments one byte short and complete: KEY by its level, SET_LIMIT without and with a scope, SET_GRADE's write and
clear, SET_METER of a time meter and of Cycles. -/
theorem test_argument_lengths :
    [(2, [0]), (2, [1, 0, 0, 0, 0]), (8, [0, 4, 0, 0, 0, 0, 0, 0, 0]), (8, [0, 4, 0, 0, 0, 0, 0, 0, 2, 0, 0, 0, 0]),
        (15, [0, 0, 0, 0, 0, 0, 0, 0, 0, 0]), (15, [0, 1]), (20, [6, 0, 0, 0, 0, 0, 0]), (20, [7, 0, 0, 0, 0])].all
      (fun (x : Nat × List Byte) => argsComplete x.1 (req x.2) && !argsComplete x.1 (req x.2.dropLast)) = true := by
  decide

/-- One request of each code from RESTART on, its arguments complete. -/
def completeRequests : List (Byte × Request) :=
  [(3, req []), (4, req []), (5, req (List.replicate 6 0)), (6, req [2]), (7, req [0, 4]),
   (8, req (List.replicate 9 0)), (9, req [1]), (10, req [2]), (11, req [1, 0]), (12, req [1, 0]), (13, req []),
   (14, req [0]), (15, req (List.replicate 10 0)), (16, req [2]), (17, req [0, 0]), (18, req (List.replicate 7 0)),
   (19, req [0]), (20, req (List.replicate 7 0)), (21, req [0, 0, 0]), (22, req [0])]

/-- No station holds a grant. -/
def noGrants : State := { base with access := List.replicate 4 .empty }

/-- Every request but READ and KEY in Hold; and outside Hold and Limp from a station below Supervisor. -/
theorem test_witness_refused_by_hold_and_level :
    completeRequests.length = 20 ∧ inHold held = true
      ∧ completeRequests.all (fun x => taken x.1 x.2 held) = true
      ∧ (inHold noGrants = false ∧ limpOrHold noGrants = false ∧ holds noGrants 11 .supervisor = false
        ∧ holds noGrants 11 .technician = false)
      ∧ completeRequests.all (fun x => taken x.1 x.2 noGrants) = true := by decide

/-- KEY, CLEAR_FAULTS and WRITE_IMAGE in Limp after a key-off. -/
theorem test_witness_RequestFramework_key_off :
    (let s := { base with power := .limp, meter := { base.meter with keyOffTaken := true } }
     receiving s = true ∧ s.meter.keyOffTaken = true ∧ requestEntry s 11 = some requestEntry11)
      ∧ [(2, req [0]), (4, req []), (5, req [0, 0, 0, 0, 0, 0])].all (fun x =>
          takenInLimp (BitVec.ofNat 8 x.1) && argsComplete x.1 x.2 && x.1 != 1 && x.1 != 3) = true := by decide

/-- READ of meter 0. -/
theorem test_witness_ReadAnswersPart :
    taken 1 (req [4, 0, 0, 0]) base = true
      ∧ (match recordOf (noted (req [4, 0, 0, 0]) base) 4 0 with
         | some (some parts) => (parts[0]?).isSome
         | _ => false) = true := by decide

/-- An unknown selector, an index that names no record, a part beyond the record; an age at 16 bits and beyond, in
Running; the meters, the count and the checkpoint state; the open and a closed day record. -/
theorem test_witness_ReadAnswersPart_refusals :
    (taken 1 (req [0, 0, 0, 0]) base = true ∧ recordOf (noted (req [0, 0, 0, 0]) base) 0 0 = none
        ∧ taken 1 (req [10, 0, 0, 0]) base = true ∧ recordOf (noted (req [10, 0, 0, 0]) base) 10 0 = none)
      ∧ (taken 1 (req [2, 3, 0, 0]) base = true ∧ recordOf (noted (req [2, 3, 0, 0]) base) 2 3 = some none)
      ∧ (taken 1 (req [4, 8, 0, 2]) base = true
        ∧ (recordOf (noted (req [4, 8, 0, 2]) base) 4 8).bind (Option.map List.length) = some 2)
      ∧ (readsFree { base with now := 900 + 65536 } 1 8 = true ∧ readsFree { base with now := 900 + 65535 } 1 8 = false
        ∧ readsFree { base with now := 900 + 65536 } 1 13 = false)
      ∧ (base.meter.meters.value 6 = some (.time 0 0) ∧ base.meter.meters.value 7 = some (.count 0)
        ∧ recordOf base 4 9 = some none ∧ recordOf base 9 1 = some none ∧ recordOf base 7 1 = some none) := by
  decide +kernel

/-- Station 11 after four wrong codes, its grant and its lockout at their expiry. -/
def fourWrong : Grant := ⟨some 11, some .technician, some 1000, 4, none⟩
def lockedOut : Grant := ⟨some 11, none, none, 0, some 1000⟩

/-- KEY with level Operator, the right code, a wrong code and the fifth wrong code; the due expiries. -/
theorem test_witness_AccessTableChanges :
    (taken 2 (req [0]) base = true ∧ ((grantOf base 11).bind (·.2.lockout)) = none)
      ∧ (taken 2 (req [2, 0x22, 0x22, 0x22, 0x22]) base = true
        ∧ grantFor base 11 = some (0, ⟨some 11, some .technician, some 600000, 0, none⟩)
        ∧ imageKey base .technician ≠ 0
        ∧ argU32 (req [2, 0x22, 0x22, 0x22, 0x22]).args 1 = imageKey base .technician)
      ∧ argU32 (req [2, 0x22, 0x22, 0x22, 0x23]).args 1 ≠ imageKey base .technician
      ∧ (let s := { base with access := [fourWrong, .empty, .empty, .empty] }
        taken 2 (req [2, 0x22, 0x22, 0x22, 0x23]) s = true ∧ (grantOf s 11).bind (·.2.lockout) = none
          ∧ grantFor s 11 = some (0, fourWrong) ∧ ¬ fourWrong.failures < 4 ∧ due s.now fourWrong.expiry = true)
      ∧ (lockedOut.station = some 11 ∧ due base.now lockedOut.lockout = true) := by decide

/-- Four other stations hold grants. -/
def fullTable : State :=
  { base with access := [21, 22, 23, 24].map fun n => ⟨some n, some .supervisor, some 600000, 0, none⟩ }
def noKeys : State := { noGrants with config := { base.config with supervisorKey := 0, technicianKey := 0 } }

/-- KEY's refusals: a level code of 3; a lockout, also for level Operator; a full table without the station; a key of
0, and the free entry taken for it. -/
theorem test_witness_AccessTableChanges_refused :
    (taken 2 (req [3]) base = true ∧ 2 < argNat (req [3]).args 0)
      ∧ (let s := { base with access := [lockedOut, .empty, .empty, .empty] };
        [[0], [1, 0, 0, 0, 0], [2, 0, 0, 0, 0]].all (fun a => taken 2 (req a) s) = true
          ∧ (grantOf s 11).bind (·.2.lockout) ≠ none)
      ∧ (taken 2 (req [1, 0, 0, 0, 0]) fullTable = true ∧ grantFor fullTable 11 = none
        ∧ grantOf fullTable 11 = none)
      ∧ (taken 2 (req [2, 0, 0, 0, 0]) noKeys = true ∧ imageKey noKeys .technician = 0
        ∧ (grantOf noKeys 11).bind (·.2.lockout) = none
        ∧ grantFor noKeys 11 = some (0, ⟨some 11, none, none, 0, none⟩))
      ∧ (let s := { base with access := [⟨some 21, some .supervisor, some 9, 0, none⟩, ⟨some 22, none, none, 3, none⟩,
            ⟨some 11, none, none, 2, none⟩, .empty] };
        grantFor s 11 = some (2, ⟨some 11, none, none, 2, none⟩)
          ∧ grantFor s 12 = some (1, ⟨some 12, none, none, 0, none⟩)) := by decide

/-- A level check that passes above Operator, one for Operator, and one that fails. -/
theorem test_witness_AccessTableChanges_levels :
    (holds base 11 .technician = true ∧ Level.technician ≠ .operator ∧ holds base 12 .supervisor = false)
      ∧ ((base.access.find? (fun g => g.station == some 11)).bind (·.level) = some .technician
        ∧ (base.access.find? (fun g => g.station == some 12)).bind (·.level) = none)
      ∧ (renewGrant 11 base).access = [⟨some 11, some .technician, some 601000, 0, none⟩, .empty, .empty, .empty]
      ∧ renewGrant 12 base = base := by decide

theorem test_witness_TechnicianToolRequests :
    holds base 11 .technician = true
      ∧ (taken 3 (req []) base = true ∧ base.meter.keyOffTaken = false ∧ base.restart = none)
      ∧ (taken 3 (req []) { base with restart := some ⟨[12], 1200, [], false⟩ } = true
        ∧ ([12] : List Nat).contains 11 = false)
      ∧ (let s := { base with meter := { base.meter with keyOffTaken := true } }
        taken 3 (req []) s = true ∧ taken 3 (req []) { s with restart := some ⟨[11], 1200, [], false⟩ } = true)
      ∧ (taken 4 (req []) base = true ∧ inHold base = false)
      ∧ (taken 5 (req [0xFF, 7, 0, 0, 0, 0]) (withStates (setState .engineRun .lost)) = true
        ∧ engineRunning (withStates (setState .engineRun .lost)) = false
        ∧ argU16 (req [0xFF, 7, 0, 0, 0, 0]).args 0 ≤ 2047 ∧ base.store.queue.length < 6) := by decide

/-- WRITE_IMAGE with the engine running, of block 2,048, and without a place; RESTART below Technician. -/
theorem test_witness_TechnicianToolRequests_refused :
    (taken 5 (req [0, 0, 0, 0, 0, 0]) base = true ∧ engineRunning base = true)
      ∧ (let s := withStates (setState .engineRun .lost);
        taken 5 (req [0, 8, 0, 0, 0, 0]) s = true ∧ inHold s = false ∧ engineRunning s = false
          ∧ argU16 (req [0, 8, 0, 0, 0, 0]).args 0 = 2048
          ∧ taken 5 (req [0, 0, 0, 0, 0, 0])
            { s with store := { s.store with queue := List.replicate 6 .checkpoint } } = true)
      ∧ (taken 3 (req []) noGrants = true ∧ noGrants.restart = none ∧ noGrants.meter.keyOffTaken = false) := by decide

/-- Twenty Active entries with these conditions unentered. -/
def waitingFaults (l : List (FaultCode × FaultSource)) : State :=
  { faultList 19 true with diag := { (faultList 19 true).diag with unentered := l } }

/-- The end of a condition: not listed, Inactive, Active with none waiting, Active with two waiting. -/
theorem test_witness_TechnicianToolRequests_ends :
    (faultLaw (waitingFaults []) = true ∧ unenteredLaw (waitingFaults []) = true
        ∧ (waitingFaults []).diag.entries.any (FaultEntry.names .topicLost (.topic 20)) = false
        ∧ faultNo 7 true ∈ (waitingFaults []).diag.entries)
      ∧ (faultLaw (faultList 3 false) = true ∧ unenteredLaw (faultList 3 false) = true
        ∧ faultNo 0 false ∈ (faultList 3 false).diag.entries)
      ∧ (let s := waitingFaults [(.topicLost, .topic 21), (.topicLost, .topic 20)]
        faultLaw s = true ∧ unenteredLaw s = true ∧ faultNo 7 true ∈ s.diag.entries
          ∧ ∀ d ∈ s.diag.unentered, d ≠ (.topicLost, .topic 20) →
            (FaultCode.topicLost.num < d.1.num
              ∨ (FaultCode.topicLost.num = d.1.num ∧ (FaultSource.topic 20).num < d.2.num))) := by
  decide +kernel

theorem test_witness_Acknowledgements :
    limpOrHold base = false
      ∧ (taken 6 (req [2]) base = true ∧ (base.limits[2]?).any (fun e =>
          !(e.config.latch == .latched && e.inWarning)) = true)
      ∧ taken 6 (req [255]) base = true
      ∧ (taken 22 (req [0]) base = true ∧ base.service.items[0]? = some (some pressureItem)
        ∧ pressureItem.state ≠ .ok)
      ∧ taken 22 (req [255]) base = true := by decide

/-- Indexes 12 and 254 of limits; an Unused service place and one that is not there. -/
theorem test_witness_Acknowledgements_unknown :
    (taken 6 (req [12]) base = true ∧ base.limits[12]? = none ∧ base.limits[254]? = none)
      ∧ (taken 22 (req [23]) base = true ∧ (base.service.items[23]?).join = none
        ∧ (base.service.items[254]?).join = none) := by decide

def latchedWall : LimitEntry := limitEntry { wall .warn with latch := .latched } .approach

/-- A Latched entry in warning, and an item that is Ok; a Pending entry with its clearance at the margin, one beyond it
and one without a clearance. -/
theorem test_witness_Acknowledgements_refused :
    (let s := { base with limits := base.limits.set 2 latchedWall };
      taken 6 (req [2]) s = true ∧ limpOrHold s = false ∧ s.limits[2]? = some latchedWall
        ∧ latchedWall.config.latch = .latched ∧ latchedWall.inWarning = true)
      ∧ (let s := setItem 0 { pressureItem with meterStanding := .ok, dayStanding := .ok } base;
        taken 22 (req [0]) s = true ∧ limpOrHold s = false
          ∧ ((s.service.items[0]?).join).any (fun x => x.state == .ok) = true)
      ∧ [some (wall .warn).margin, some ((wall .warn).margin + 1), none].map (fun c =>
          LimitEntry.inWarning { limitEntry (wall .warn) .pending with last := c }) = [true, false, false] := by
  decide

def setLimitBytes : List Byte := [0, 4, 0xE8, 0x03, 100, 0, 2, 9, 0]

theorem test_witness_LimitRequests :
    (limpOrHold clearList = false ∧ holds clearList 11 .supervisor = true
        ∧ canCarry Job.isLimits clearList = true)
      ∧ (taken 7 (req [0, 4]) clearList = true ∧ limitKindOf 4 = some .reachWall
        ∧ clearList.pose.pose.quality = .valid)
      ∧ (taken 8 (req setLimitBytes) clearList = true
        ∧ (limitArgs (req setLimitBytes).args).any (fun c => c.ok && c.owner == .supervisor) = true)
      ∧ (taken 9 (req [1]) clearList = true ∧ clearList.limits[1]? = some (limitEntry (wall .warn) .disabled))
      ∧ (taken 10 (req [2]) clearList = true
        ∧ (clearList.limits[2]?).any (fun e => e.state != .disabled && !disableRefused 2 e clearList) = true) := by
  decide

/-- SET_LIMIT with every option, with a kind and an action that no number names, with fields that fail their ranges, and
for a Technician's entry by a Supervisor; TEACH_LIMIT of an unknown kind and at a Degraded pose. -/
theorem test_witness_LimitRequests_arguments :
    limitArgs [0, 2, 0x1C, 0x25, 0x20, 0x03, 2, 0, 15, 0xAB, 0x2A, 0x55, 0x55]
        = some ⟨.heightCeiling, 9500, 800, .stop, MotionSet.boomUp ||| MotionSet.armOut, some ⟨10923, 21845⟩,
            .technician, .latched⟩
      ∧ limitArgs [0, 0, 0xFF, 0xFF, 0, 0, 0, 0, 0] = some ⟨.slewCcwStop, 65535, 0, .warn, 0, none, .supervisor, .follow⟩
      ∧ limitArgs [0, 5, 0, 0, 0, 0, 0, 0, 0] = none ∧ limitArgs [0, 4, 0, 0, 0, 0, 3, 0, 0] = none
      ∧ (limitArgs [0, 4, 0, 0x80, 0, 0, 0, 0, 0]).map LimitConfig.ok = some false
      ∧ taken 8 (req [0, 5, 0, 0, 0, 0, 0, 0, 0]) clearList = true
      ∧ (let s := { clearList with
            access := clearList.access.map fun g => { g with level := g.level.map fun _ => .supervisor } };
        taken 8 (req [0, 4, 0, 0, 0, 0, 0, 0, 4]) s = true ∧ holds s 11 .supervisor = true
          ∧ holds s 11 .technician = false ∧ limpOrHold s = false
          ∧ (s.limits[0]?).any (fun e => e.config.owner == .supervisor) = true)
      ∧ (taken 7 (req [0, 5]) clearList = true ∧ limitKindOf 5 = none)
      ∧ (let s := { clearList with
            pose := { clearList.pose with pose := { clearList.pose.pose with quality := .degraded } } };
        taken 7 (req [0, 4]) s = true ∧ s.pose.pose.quality ≠ .valid ∧ limpOrHold s = false
          ∧ holds s 11 .supervisor = true) := by
  decide

/-- An entry that returns to Pending from Clear and one from Breach; a kind taught anew; a limit-area job queued, none
queued, and no place for one. -/
theorem test_witness_LimitRequests_changes :
    ((limitEntry (wall .stop) .clear).state = .clear
        ∧ ¬ ((limitEntry (wall .stop) .breach).state = .clear ∨ (limitEntry (wall .stop) .breach).state = .approach))
      ∧ ((wall .stop).kind = .reachWall ∧ LimitKind.heightCeiling ≠ (wall .stop).kind)
      ∧ (Job.limitArea [] ∈ [Job.checkpoint, .limitArea []] ∧ base.store.queue = []
        ∧ (List.replicate 5 Job.checkpoint).length < 6 ∧ ¬ (List.replicate 6 Job.checkpoint).length < 6) := by decide

def fullQueue : State := { clearList with store := { clearList.store with queue := List.replicate 6 .checkpoint } }

/-- The four limit requests of one entry. -/
def limitRequestsOf (i : Byte) : List (Byte × Request) :=
  [(7, req [i, 4]), (8, req (i :: List.replicate 8 0)), (9, req [i]), (10, req [i])]

/-- Station 11 holds Supervisor, and the one entry is Technician-owned. -/
def supervised : State :=
  { clearList with
    access := ⟨some 11, some .supervisor, some 600000, 0, none⟩ :: List.replicate 3 .empty
    limits := [limitEntry { wall .warn with owner := .technician } .clear] }

/-- An index that names no entry; a Technician-owned entry and a Supervisor; TEACH_LIMIT and SET_LIMIT without a place. -/
theorem test_witness_LimitRequests_refused :
    ((limitRequestsOf 12).all (fun x => taken x.1 x.2 clearList) = true ∧ clearList.limits[12]? = none)
      ∧ ((limitRequestsOf 0).all (fun x => taken x.1 x.2 supervised) = true ∧ inHold supervised = false
        ∧ holds supervised 11 .supervisor = true ∧ holds supervised 11 .technician = false
        ∧ (supervised.limits[0]?).any (fun e => e.config.owner == .technician) = true)
      ∧ (taken 7 (req [0, 4]) fullQueue = true ∧ fullQueue.pose.pose.quality = .valid
        ∧ taken 8 (req setLimitBytes) fullQueue = true ∧ canCarry Job.isLimits fullQueue = false) := by decide

/-- ENABLE_LIMIT of an enabled entry and DISABLE_LIMIT of a Disabled one; a listed record, and a Breach alone; no job to
join and no place. -/
theorem test_witness_LimitRequests_at_once :
    (taken 9 (req [2]) clearList = true ∧ (clearList.limits[2]?).any (fun e => e.state != .disabled
        && e.config.owner == .supervisor) = true)
      ∧ (taken 10 (req [1]) clearList = true ∧ clearList.limits[1]? = some (limitEntry (wall .warn) .disabled))
      ∧ (taken 10 (req [0]) base = true ∧ limpOrHold base = false ∧ holds base 11 .supervisor = true
        ∧ (base.limits[0]?).any (fun e => e.state != .disabled && disableRefused 0 e base) = true
        ∧ disableRefused 0 (limitEntry (wall .stop) .approach) base = true
        ∧ disableRefused 0 (limitEntry (wall .stop) .breach) clearList = true
        ∧ disableRefused 0 (limitEntry (wall .warn) .breach) clearList = false)
      ∧ (taken 9 (req [1]) fullQueue = true ∧ taken 10 (req [2]) fullQueue = true ∧ limpOrHold fullQueue = false
        ∧ holds fullQueue 11 .supervisor = true ∧ canCarry Job.isLimits fullQueue = false
        ∧ (fullQueue.limits[2]?).any (fun e => e.state != .disabled && !disableRefused 2 e fullQueue) = true) := by
  decide

def clearableList : State :=
  { base with intervention := { base.intervention with
      list := base.intervention.list.map fun r => { r with state := .clearable } } }

/-- A Clearable record of an external station that has fallen silent. -/
def silentRecord : Record :=
  ⟨2, .externalStop, some 22, .externalSilent, 1, ⟨0, 0, 0, .valid⟩, .clearable, false, false, none, false⟩
def silentList : State :=
  { base with intervention := { base.intervention with
      list := base.intervention.list ++ [silentRecord], lastSeq := 2 } }

def faulted : State :=
  { base with intervention := { base.intervention with supervision := .faulted } }

theorem test_witness_CutRequests :
    (taken 11 (req [1, 0]) clearableList = true ∧ limpOrHold clearableList = false
        ∧ argU16 (req [1, 0]).args 0 = 1
        ∧ (clearableList.intervention.list.find? (·.seq == 1)).any
            (fun r => r.releasable && r.cause != .externalSilent) = true)
      ∧ (argU16 (req [2, 0]).args 0 = 2 ∧ holds silentList 11 .technician = true
        ∧ taken 11 (req [2, 0]) silentList = true ∧ limpOrHold silentList = false
        ∧ (silentList.intervention.list.find? (·.seq == 2)).any
            (fun r => r.releasable && r.cause == .externalSilent) = true)
      ∧ (taken 12 (req [1, 0]) clearableList = true ∧ holds clearableList 11 .supervisor = true
        ∧ (clearableList.intervention.list.find? (·.seq == 1)).any
            (fun r => r.kind == .limitStop && r.state == .clearable && !technicianOwned clearableList r) = true)
      ∧ (taken 12 (req [1, 0]) base = true ∧ holds base 11 .supervisor = true
        ∧ (base.intervention.list.find? (·.seq == 1)).any
            (fun r => r.kind == .limitStop && r.state == .confirmed && !technicianOwned base r) = true)
      ∧ (taken 13 (req []) faulted = true ∧ faulted.intervention.confirmed = true
        ∧ faulted.intervention.confirmTimer = none) := by decide

/-- A Confirmed record and a silent station's Raised one, which RELEASE refuses; which records are releasable; a record
of a Technician-owned entry. -/
theorem test_witness_CutRequests_refused :
    (taken 11 (req [1, 0]) base = true ∧ limpOrHold base = false
        ∧ (base.intervention.list.find? (·.seq == 1)).any (fun r => !r.releasable && r.cause != .externalSilent) = true)
      ∧ (let s := { base with intervention := { base.intervention with list := [{ silentRecord with state := .raised }] } }
        taken 11 (req [2, 0]) s = true ∧ limpOrHold s = false ∧ holds s 11 .technician = true
          ∧ (s.intervention.list.find? (·.seq == 2)).any
            (fun r => !r.releasable && r.cause == .externalSilent) = true)
      ∧ ([silentRecord, { silentRecord with kind := .limitSlow }, { silentRecord with state := .overridden },
          { silentRecord with state := .overridden, breachGone := true }].map Record.releasable
        = [true, false, false, true])
      ∧ (let e := limitEntry { wall .stop with owner := .technician } .breach
        base.intervention.list.all (technicianOwned { base with limits := [e] }) = true
          ∧ base.intervention.list.any (technicianOwned base) = false) := by decide

/-- Sequence number 0 and one that is not listed; a record that is no LimitStop; a silent station's record below
Technician; RESUME in Settled, unconfirmed and with its timer running. -/
theorem test_witness_CutRequests_refusals :
    (taken 12 (req [0, 0]) base = true ∧ taken 12 (req [9, 0]) base = true ∧ taken 11 (req [0, 0]) base = true
        ∧ taken 11 (req [9, 0]) base = true ∧ base.intervention.list.find? (·.seq == 9) = none)
      ∧ (taken 12 (req [2, 0]) silentList = true ∧ holds silentList 11 .supervisor = true
        ∧ (silentList.intervention.list.find? (·.seq == 2)).any (fun x => x.kind != .limitStop) = true)
      ∧ (let s := { silentList with access := noGrants.access };
        taken 11 (req [2, 0]) s = true ∧ limpOrHold s = false ∧ holds s 11 .technician = false
          ∧ (s.intervention.list.find? (·.seq == 2)).any (fun x => x.cause == .externalSilent) = true)
      ∧ (taken 13 (req []) base = true ∧ base.intervention.supervision ≠ .faulted)
      ∧ [{ faulted.intervention with confirmed := false }, { faulted.intervention with confirmTimer := some 2000 }].all
          (fun u => taken 13 (req []) (setIntervention u faulted) && u.supervision == .faulted) = true := by decide

/-- A segment from 2,000 to 3,000 of height 0 in place 7, its first point on the end of the one below. -/
def gradeBytes : List Byte := [7, 0, 0xD0, 0x07, 0xB8, 0x0B, 0, 0, 0, 0]

theorem test_witness_GuidanceRequests :
    (limpOrHold base = false ∧ holds base 11 .supervisor = true ∧ canCarry Job.isGrade base = true)
      ∧ (taken 14 (req [0]) base = true ∧ base.pose.pose.quality = .valid ∧ pilotTravel base = false)
      ∧ taken 14 (req [1]) base = true
      ∧ (taken 15 (req gradeBytes) base = true
        ∧ (let g : Segment := ⟨2000, 3000, 0, 0⟩
           g.ok = true ∧ within (-32767) 32767 (g.heightAt g.reachTo) = true
            ∧ segmentFits base.guidance.profile 7 g = true
            ∧ argS16 (req gradeBytes).args 2 = 2000 ∧ argS16 (req gradeBytes).args 4 = 3000))
      ∧ (taken 15 (req [0, 1]) base = true ∧ base.guidance.profile[0]? = some (some ⟨0, 2000, 0, 0⟩))
      ∧ (taken 15 (req [7, 1]) base = true ∧ base.guidance.profile[7]? = some none) := by decide

/-- BENCHMARK of operation 2, and at a Degraded pose; SET_GRADE of place 8, of operation 2, of a segment that does not
fit, and without a job or a place. -/
theorem test_witness_GuidanceRequests_refused :
    (taken 14 (req [2]) base = true ∧ 1 < argNat (req [2]).args 0)
      ∧ (let s := { base with pose := { base.pose with pose := { base.pose.pose with quality := .degraded } } };
        taken 14 (req [0]) s = true ∧ s.pose.pose.quality ≠ .valid ∧ limpOrHold s = false
          ∧ holds s 11 .supervisor = true)
      ∧ taken 15 (req [8, 1]) base = true ∧ taken 15 (req [7, 2]) base = true
      ∧ (taken 15 (req [7, 0, 0xCF, 0x07, 0xB8, 0x0B, 0, 0, 0, 0]) base = true
        ∧ argS16 (req [7, 0, 0xCF, 0x07, 0xB8, 0x0B, 0, 0, 0, 0]).args 2 = 1999
        ∧ segmentFits base.guidance.profile 7 ⟨1999, 3000, 0, 0⟩ = false
        ∧ segmentFits base.guidance.profile 0 ⟨1999, 3000, 0, 0⟩ = true)
      ∧ [Segment.mk 32766 32767 0 0, ⟨32767, 32767, 0, 0⟩, ⟨0, 32768, 0, 0⟩, ⟨0, 1, 0, 1001⟩, ⟨5, 5, 0, 0⟩].map
          Segment.ok = [true, false, false, false, false]
      ∧ (let s := { base with store := { base.store with queue := List.replicate 6 .checkpoint } };
        taken 15 (req gradeBytes) s = true ∧ taken 15 (req [0, 1]) s = true ∧ limpOrHold s = false
          ∧ holds s 11 .supervisor = true ∧ canCarry Job.isGrade s = false) := by decide

/-- A profile with an empty place between its two segments, and a scan that stands in it. -/
def twoSegments : GuidanceUnit := { base.guidance with
  profile := [some ⟨0, 2000, 0, 0⟩, none, some ⟨2000, 3000, 10, 500⟩] ++ List.replicate 5 none }
def scanning (index : Nat) (previous : Option Int) : GuidanceUnit :=
  { twoSegments with scanIndex := index, previousReach := previous }

/-- The hypotheses of the scan at their ends: outward past a segment's end and up to it, inward past a segment's
start and down to it, in place, from an empty place, from beyond the highest, with no segment present. -/
theorem test_witness_GuidanceRequests_scan :
    presentPlaces twoSegments.profile = [(0, ⟨0, 2000, 0, 0⟩), (2, ⟨2000, 3000, 10, 500⟩)]
      ∧ presentPlaces GuidanceUnit.atStart.profile = []
      ∧ [((scanning 0 none).scanAt 2000), ((scanning 0 (some 5)).scanAt 1999), ((scanning 1 (some 5)).scanAt 3000),
          ((scanning 2 (some 2500)).scanAt 1999), ((scanning 2 (some 2500)).scanAt 2000),
          ((scanning 7 (some 2500)).scanAt (-1)), ((scanning 2 (some 1999)).scanAt 1999)].map
            (fun g => (g.scanIndex, g.scan))
        = [(2, .found 2), (0, .found 0), (2, .offProfile), (0, .found 0), (2, .found 2), (0, .offProfile),
          (2, .inGap)] := by decide

/-- The result with each reason at hand; its bands at their ends; the floors of equal clearance, and none. -/
theorem test_witness_GuidanceRequests_result :
    (let s := fun (tip : Int) => { base with
        guidance := { twoSegments with benchmark := some 0, scan := .found 2 }
        pose := { base.pose with pose := { base.pose.pose with reach := 2003, tip := tip } } }
     (guidanceResult (s 62)).reason = .none
       ∧ [62, 63, -38, -39].map (fun x => (guidanceResult (s x)).band)
        = [some .onGrade, some .above, some .onGrade, some .below]
       ∧ (guidanceResult { s 0 with
            pose := { base.pose with pose := { base.pose.pose with quality := .degraded } } }).reason = .poseDegraded)
      ∧ (guidanceResult base).reason = .noBenchmark
      ∧ (let low := { limitEntry { wall .stop with kind := .depthFloor } .clear with last := some 40 }
         (guidanceResult { base with limits := [low, low, { low with last := some 41 }] }).floor
            = some ⟨0, 40, .clear, false⟩)
      ∧ (guidanceResult base).floor = none := by decide

/-- The idle speed with a recalled output, with none, and with the coolant entry Lost; each power mode. -/
theorem test_witness_ModeAndRecallRequests_speeds :
    (let s := { base with pose := { base.pose with
        descriptors := base.pose.descriptors.map fun d => { d with held := some 870 } } }
     heldOutput s 2 = some 870 ∧ (entryOf s .coolant).any (fun e => e.state != .lost) = true)
      ∧ heldOutput base 2 = none
      ∧ (entryOf (withStates (setState .coolant .lost)) .coolant).any (fun e => e.state == .lost) = true := by decide

theorem test_witness_ModeAndRecall :
    limpOrHold base = false
      ∧ (taken 16 (req [2]) base = true ∧ powerModeOf 2 = some .economy ∧ base.service.derate = false)
      ∧ (taken 17 (req [0, 0]) base = true ∧ holds base 11 .technician = true ∧ bucketTable.limit ≠ 0
        ∧ boundInput base 0 = some 2030)
      ∧ boundInput (withStates fun e => { e with payload := none }) 0 = none
      ∧ (taken 17 (req [0, 1, 0x50, 0x46]) base = true
        ∧ inPointRange 0 (argS16 (req [0, 1, 0x50, 0x46]).args 2) = true
        ∧ argS16 (req [0, 1, 0x50, 0x46]).args 2 = 18000) := by decide

/-- POWER_MODE 3, and Heavy under the derate; TABLE_RECALL of descriptor 6 and of an Unused one, of recall 2, and
Disabled without a fixed value and with 8000H. -/
theorem test_witness_ModeAndRecall_refused :
    (taken 16 (req [3]) base = true ∧ 2 < argNat (req [3]).args 0)
      ∧ taken 16 (req [0]) { base with service := { base.service with derate := true } } = true
      ∧ (taken 17 (req [6, 0]) base = true ∧ base.pose.descriptors[6]? = none
        ∧ taken 17 (req [5, 0]) base = true ∧ (base.pose.descriptors[5]?).all (fun d => d.config.limit == 0) = true)
      ∧ (taken 17 (req [0, 2]) base = true ∧ (base.pose.descriptors[0]?).any (fun d => d.config.limit != 0) = true)
      ∧ (taken 17 (req [0, 1, 0]) base = true ∧ (req [0, 1, 0]).args.length < 4)
      ∧ (taken 17 (req [0, 1, 0, 0x80]) base = true
        ∧ inPointRange 0 (argS16 (req [0, 1, 0, 0x80]).args 2) = false) := by decide

theorem test_witness_ClockSets :
    (taken 18 (req [99, 12, 31, 23, 59, 59, 6]) base = true
        ∧ (clockArgs (req [99, 12, 31, 23, 59, 59, 6]).args).ok = true ∧ base.time.stopped = false)
      ∧ (taken 19 (req [0x9C]) base = true ∧ (arg8 (req [0x9C]).args 0).toInt = -100)
      ∧ base.time.clock.day = ⟨14, 5, 2031⟩ := by decide

/-- A date that does not exist, and the leap day; a crystal that has stopped; trims beyond either end; the last two
trimmed seconds. -/
theorem test_witness_ClockSets_refused :
    (taken 18 (req [31, 2, 29, 0, 0, 0, 0]) base = true
        ∧ (clockArgs (req [31, 2, 29, 0, 0, 0, 0]).args).ok = false
        ∧ (clockArgs (req [32, 2, 29, 0, 0, 0, 0]).args).ok = true)
      ∧ (let s := { base with time := { base.time with stopped := true } };
        taken 18 (req [32, 2, 29, 0, 0, 0, 0]) s = true ∧ holds s 11 .supervisor = true ∧ limpOrHold s = false)
      ∧ (taken 19 (req [0x9B]) base = true ∧ (arg8 (req [0x9B]).args 0).toInt = -101
        ∧ (arg8 (req [0x65]).args 0).toInt = 101)
      ∧ [secondLength 29 (-100), secondLength 59 100, secondLength 28 100] = [32868, 32668, 32768] := by decide

/-- A set within the day marks the open record; one that changes the date closes it and wants the day-record job. -/
theorem test_clock_set_days :
    (let u := setClockTo ⟨0, 0, 0, 3, 14, 5, 2031⟩ .setClock base;
      u.economy.days.ring = base.economy.days.ring ∧ u.economy.days.opened.clockSet = true)
      ∧ (let u := setClockTo ⟨0, 0, 0, 4, 15, 5, 2031⟩ .setClock base;
        u.economy.days.ring.length = min 14 (base.economy.days.ring.length + 1)
          ∧ u.economy.days.opened = ⟨some ⟨15, 5, 2031⟩, 0, 0, 0, 0, 0, false⟩
          ∧ u.store.queue.contains .dayRecords = true) := by
  decide +kernel

def meterBytes : List Byte := [0, 0x3F, 0x42, 0x0F, 0, 0x0F, 0x0E]

theorem test_witness_MeterAndService :
    (limpOrHold base = false ∧ holds base 11 .technician = true)
      ∧ (taken 20 (req meterBytes) base = true ∧ base.meter.meters.value 0 = some (.time 0 0)
        ∧ meterArgs (req meterBytes).args = some (.time 999999 3599)
        ∧ (MeterValue.time 0 0).amount < (MeterValue.time 999999 3599).amount
        ∧ base.meter.sequence < 4294967295 ∧ base.store.queue.length < 6)
      ∧ 4294967295 ≤ { base.meter with sequence := 4294967295 }.sequence
      ∧ meterArgs (req [0, 0, 0, 0, 0, 0, 0]).args = some (.time 0 0)
      ∧ (taken 21 (req [0, 0x05, 0x10]) base = true
        ∧ argU16 (req [0, 0x05, 0x10]).args 1 = pressureItem.config.code
        ∧ serviceJobsNeeded base ≤ 6 - base.store.queue.length) := by decide

/-- SET_METER of meter 8, of 3,600 seconds, of a lower value and without a place; SERVICE_DONE of an Unused place, with
another code and without two places. -/
theorem test_witness_MeterAndService_refused :
    (taken 20 (req [8, 0, 0, 0, 0, 0, 0]) base = true ∧ base.meter.meters.value 8 = none)
      ∧ (taken 20 (req [0, 0, 0, 0, 0, 0x10, 0x0E]) base = true
        ∧ meterArgs (req [0, 0, 0, 0, 0, 0x10, 0x0E]).args = none ∧ base.meter.meters.value 0 ≠ none)
      ∧ (let s := setMeterUnit { base.meter with meters := base.meter.meters.set 0 (.time 1 0) } base;
        taken 20 (req [0, 0, 0, 0, 0, 0x0F, 0x0E]) s = true ∧ s.meter.meters.value 0 = some (.time 1 0)
          ∧ limpOrHold s = false ∧ holds s 11 .technician = true
          ∧ meterArgs (req [0, 0, 0, 0, 0, 0x0F, 0x0E]).args = some (.time 0 3599))
      ∧ (let s := { base with store := { base.store with queue := List.replicate 6 (.limitArea []) } };
        taken 20 (req meterBytes) s = true ∧ s.meter.job = .none ∧ s.meter.sequence < 4294967295
          ∧ taken 21 (req [0, 0x05, 0x10]) s = true ∧ limpOrHold s = false ∧ holds s 11 .technician = true
          ∧ 6 - s.store.queue.length < serviceJobsNeeded s)
      ∧ (taken 21 (req [23, 0, 0]) base = true ∧ (base.service.items[23]?).join = none)
      ∧ (taken 21 (req [0, 0x06, 0x10]) base = true
        ∧ argU16 (req [0, 0x06, 0x10]).args 1 ≠ pressureItem.config.code) := by decide

/-- A standing that stays, one that rises, one that falls to Ok and one that falls to DueSoon, one that changes under
the other; each standing at its boundary; a basis, none, and a last-done date. -/
theorem test_witness_MeterAndService_standings :
    (pressureItem.meterStanding = .due ∧ pressureItem.dayStanding = .ok ∧ pressureItem.state = .due)
      ∧ (pressureItem.state.num < (Standing.max .overdue .ok).num ∧ (Standing.max .ok .ok).num < pressureItem.state.num
        ∧ (Standing.max .dueSoon .ok).num < pressureItem.state.num
        ∧ (Standing.max .due .dueSoon) = pressureItem.state)
      ∧ [474, 475, 499, 500, 550, 551].map (fun e => standingOf e 500 25 50)
        = [.ok, .dueSoon, .dueSoon, .due, .due, .overdue]
      ∧ (pressureItem.config.basis.bind base.meter.meters.value = some (.time 0 0)
        ∧ pressureItem.lastMeter = some (.time 10 0) ∧ pressureItem.lastDate = none)
      ∧ base.meter.meters.value 7 = some (.count 0)
      ∧ (∃ item, some item ∈ [some { pressureItem with
            config := { pressureItem.config with cls := .critical }, dayStanding := .overdue }]
          ∧ item.config.cls = .critical ∧ item.state = .overdue) :=
  ⟨by decide, by decide, by decide, by decide, by decide, _, List.mem_singleton.2 rfl, by decide, by decide⟩

/-- The request of SET_METER with no job and a place, with a job queued, at the last sequence number; a meter announced
in Running and in Limp. -/
theorem test_witness_MeterAndService_waits :
    (base.meter.sequence < 4294967295 ∧ base.meter.job = .none ∧ base.store.queue.length < 6
        ∧ (wantCheckpointFor ⟨11, 6, 20, 1, 0⟩ base).meter.waiters = [⟨⟨11, 6, 20, 1, 0⟩, false⟩])
      ∧ (let s := setMeterUnit { base.meter with job := .queued } base
        s.meter.sequence < 4294967295 ∧ s.meter.job ≠ .none
          ∧ (wantCheckpointFor ⟨11, 6, 20, 1, 0⟩ s).meter.waiters = [⟨⟨11, 6, 20, 1, 0⟩, true⟩]
          ∧ (wantCheckpointFor ⟨11, 6, 20, 1, 0⟩ s).meter.pending = .set)
      ∧ 4294967295 ≤ (setMeterUnit { base.meter with sequence := 4294967295 } base).meter.sequence
      ∧ (base.power = .running ∧ { base with power := .limp }.power ≠ .running) := by decide

/-- Codes 0 and 23; a first frame, a last frame, and a frame out of order. -/
theorem test_witness_UnknownCodesAndFragments :
    (requestCodeKnown 0 = false ∧ requestCodeKnown 23 = false ∧ requestEntry base 11 = some requestEntry11
        ∧ receiving base = true ∧ requestEntry11.inFlight = none)
      ∧ (assembled none ⟨0x06, [1]⟩ = some ⟨6, [1], 1⟩ ∧ frameLast ⟨0x06, [1]⟩ = false)
      ∧ (assembled none ⟨0x86, [1]⟩ = some ⟨6, [1], 1⟩ ∧ frameLast ⟨0x86, [1]⟩ = true)
      ∧ assembled none ⟨0x16, [1]⟩ = none := by decide

/-! ## Witnesses: the end of an event -/

/-- Nothing eligible; a place, a ring member whose series has begun, and one that no fence holds; a controller that is
not free; a part that is not woken; a request and a STATUS field that change. -/
theorem test_witness_EventEndFrame :
    (base.power = .running ∧ base.bus.busState = .online ∧ base.bus.controller = none ∧ base.bus.txErrors ≤ 255
        ∧ base.bus.candidates = [])
      ∧ (let place : CyclicPlace := { CyclicPlace.atStart with held := some ⟨1, [0, 0, 0]⟩ }
         let ring : List RingFrame := [⟨4, true, [17, 1, 1, 0], none, 0⟩, ⟨5, true, [17, 2, 1, 0], none, 1⟩,
          ⟨6, false, [1], some 1, 0⟩, ⟨7, false, [2], none, 0⟩]
         { base.bus with cutDemand := place, ring := ring }.candidates
          = [(10, .cyclic .cutDemand), (29, .ring 5), (30, .ring 7)])
      ∧ ({ base.bus with controller := some (.ring 4) }.controller ≠ none
        ∧ 255 < { base.bus with txErrors := 256 }.txErrors)
      ∧ (State.reset.power = .off ∧ { base with power := .startUp }.power = .startUp)
      ∧ (engineReqData base ≠ engineReqData held ∧ (statusWatch base != statusWatch held) = true
        ∧ (statusWatch base != statusWatch { base with now := 1001 }) = false) := by decide

/-! ## Witnesses: frames of graded topics -/

/-- A repeat of the last counter is accepted on no topic; nor is a frame too short for its layout. -/
theorem test_witness_CommandsWithoutEffect :
    [Role.boomPos, .engineRun, .engineFuel, .coolant, .pump, .pilot, .valveCut, .timeSync].all
        (fun r => (accepted r none ⟨0x85, [0, 0, 0, 0, 1, 1, 1]⟩ base).isNone) = true
      ∧ accepted .extCut (some 22) ⟨0x85, [0]⟩ base = none ∧ accepted .pump none (frame [0]) base = none
      ∧ due base.now base.pose.degradedTimer = false ∧ due base.now base.intervention.confirmTimer = false
      ∧ base.intervention.list.all (fun r => !(r.seq == 1 && overrideDue base.now r)) = true
      ∧ due base.now base.guidance.stageTimer = false ∧ due base.now base.economy.waitTimer = false
      ∧ due base.now (some 1001) = false ∧ writeDue base = false ∧ restartDue base = false
      ∧ shutdownDone base = false := by decide

/-- The payload that an accepted frame carries. -/
def carried (r : Role) (station : Option Nat) (data : List Byte) (s : State) : Option Payload :=
  (accepted r station (frame data) s).map (·.2.2.2)

theorem test_witness_PoseInputSolves :
    carried .bucketLink none [0xEE, 0x07] base = some (.bucketLink 2030)
      ∧ (payloadOf base .boomPos = some (.boomPos 3000) ∧ payloadOf base .armPos = some (.armPos (-9000))
        ∧ payloadOf base .bucketLink = some (.bucketLink 2030) ∧ payloadOf base .slewPos = some (.slewPos 0 0)
        ∧ payloadOf base .chassisTilt = some (.chassisTilt 0 0))
      ∧ payloadOf (withStates fun e => { e with payload := none }) .slewPos = none
      ∧ (solvePose base).isSome = true
      ∧ solvePose (withStates fun e => { e with payload := none }) = none := by decide +kernel

/-- A descriptor that recalls, one that gives its fixed value, none; a flag that stays, begins and ends. -/
theorem test_witness_PoseInputSolves_recall :
    (base.pose.descriptors[0]? = some (Descriptor.atStart bucketTable) ∧ (Descriptor.atStart bucketTable).enabled = true
        ∧ { Descriptor.atStart bucketTable with enabled := false }.enabled = false
        ∧ base.pose.descriptors[3]? = none)
      ∧ [2030, 3200, 3201].map (fun x => (lookup base.config.pool bucketTable x).2) = [false, false, true] := by decide

/-- No payload, with every entry Fresh and with every entry Never. -/
def unfed : State := withStates fun e => { e with payload := none }
def unheard : State := withStates fun e => { e with payload := none, state := .never }

/-- A grade that changes and one that stays where the pose cannot be solved; a latch that the grade Valid clears. -/
theorem test_witness_PoseInputSolves_grades :
    (solvePose unfed = none ∧ (applyGrade unfed).pose.pose.quality = unfed.pose.pose.quality)
      ∧ (solvePose unheard = none ∧ (applyGrade unheard).pose.pose.quality ≠ unheard.pose.pose.quality)
      ∧ (let s := { base with pose := { base.pose with latch := true } }
        (applyGrade s).pose.pose.quality = .valid ∧ s.pose.latch = true ∧ (applyGrade s).pose.latch = false)
      ∧ base.pose.latch = false := by decide +kernel

theorem test_witness_EngineArrivals :
    carried .engineRun none [0, 0, 0] base = some (.engineRun false 0)
      ∧ carried .engineRun none [1, 0xA0, 0x0F] base = some (.engineRun true 4000)
      ∧ base.economy.state ≠ .stopped ∧ base.economy.state ≠ .forced
      ∧ carried .coolant none [190] base = some (.coolant 150)
      ∧ carried .engineFuel none [0x20, 0x4E] base = some (.engineFuel 20000) := by decide

theorem test_witness_PumpAndPilot :
    carried .pump none [0xE8, 0x03] base = some (.pump 1000)
      ∧ carried .pilot none [0x10, 0] base = some (.pilot 0x10 false)
      ∧ pilotActive base = false
      ∧ pilotActive (withStates (setPayload .pilot (.pilot 0xFF false))) = true := by decide

/-- The detector in a state, with a dig angle, a slew angle of 0 and a PILOT payload. -/
def detecting (d : Detector) (dig : BinAngle) (m : MotionSet) (travel : Bool) : State :=
  { withStates (setPayload .pilot (.pilot m travel)) with
    guidance := { base.guidance with detector := d, digAngle := some dig } }

/-- Travel with a benchmark and without one; the detector's table at the swing limit; a dig that begins. -/
theorem test_witness_PumpAndPilot_detector :
    payloadOf (detecting .dumping 0 0 true) .pilot = some (.pilot 0 true)
      ∧ (detecting .dumping 0 0 true).guidance.benchmark = none
      ∧ { base.guidance with benchmark := some 0 }.benchmark ≠ none
      ∧ [Detector.idle, .digging, .returning, .swingLoaded, .dumping].all (fun d =>
        (detecting d 0 0x20 false).guidance.detector == d
          && payloadOf (detecting d 0 0x20 false) .pilot == some (.pilot 0x20 false)) = true
      ∧ (0x20#8 &&& 0x20#8 ≠ 0#8 ∧ ¬ (0#8 &&& 0x20#8 ≠ 0#8))
      ∧ (swungAway (detecting .dumping 5462 0 false) = true ∧ swungAway (detecting .dumping 5461 0 false) = false)
      ∧ digBegins (detecting .idle 0 0x10 false) = true ∧ digBegins base = false
      ∧ (base.meter.keyOffTaken = false ∧ base.meter.meters.cycles < 999999999
        ∧ 999999999 ≤ { base.meter.meters with cycles := 999999999 }.cycles) := by decide

/-- A pose update at the detector: beyond the swing limit and at it, and with the pose Invalid. -/
theorem test_witness_PumpAndPilot_pose :
    (scanAndForm (detecting .digging 5462 0 false)).guidance.detector = .digging
      ∧ (scanAndForm (detecting .returning 5461 0 false)).guidance.detector = .returning
      ∧ [(5462 : BinAngle), 5461].map (fun a => decide (5461 < (signedDiff base.pose.pose.slewAngle a).natAbs))
        = [true, false]
      ∧ (let s := detecting .digging 0 0 false
         { s with pose := { s.pose with pose := { s.pose.pose with quality := .invalid } } }.pose.pose.quality
          = .invalid) := by decide

/-- An echo of the demand with the cut set applied, and without it. -/
theorem test_witness_ValveCut :
    carried .valveCut none [3, 8] base = some (.valveCut 3 8)
      ∧ base.intervention.supervision ≠ .hold ∧ base.intervention.demandSeq = 3
      ∧ base.intervention.cutSet &&& 8 = base.intervention.cutSet
      ∧ base.intervention.cutSet &&& 0xF7 ≠ base.intervention.cutSet
      ∧ held.intervention.supervision = .hold := by decide

theorem test_witness_ExtCut :
    carried .extCut (some 22) [0xFF] base = some (.extCut 0xFF)
      ∧ base.intervention.list.any (Record.ofStation 22) = false
      ∧ Record.ofStation 22 ⟨2, .externalStop, some 22, .externalRequest, 1, ⟨0, 0, 0, .valid⟩, .raised, false,
          false, none, false⟩ = true
      ∧ (base.intervention.lastSeq < 65534 ∧ inHold base = false ∧ inHold held = true)
      ∧ (0xFF#8 ≠ 0#8 ∧ 3#8 &&& 1#8 ≠ 3#8 ∧ 1#8 &&& 1#8 = 1#8) := by decide

/-- The same time, and a set clock; the difference of 121 s is beyond the limit and 120 s is not. -/
theorem test_witness_TimeSync :
    carried .timeSync none [0, 0, 12, 3, 14, 5, 31] base = some (.timeSync base.time.clock)
      ∧ dateExists 14 5 2031 = true ∧ dateExists 31 6 2031 = false ∧ base.time.stopped = false
      ∧ base.time.unsetCause = none
      ∧ (entryOf base .timeSync).any (fun e => e.state == .fresh) = true
      ∧ ((secondNumber ⟨0, 2, 12, 3, 14, 5, 2031⟩ : Int) - secondNumber base.time.clock).natAbs = 120
      ∧ ((secondNumber ⟨1, 2, 12, 3, 14, 5, 2031⟩ : Int) - secondNumber base.time.clock).natAbs = 121 := by
  decide

def aged (st : EntryState) (t : Nat) : State := { withStates (setState .pump st) with now := t }

theorem test_witness_ClashesAndAges :
    ((publicationTopics base.bus.topics).contains 11 = false
        ∧ (publicationTopics base.bus.topics).contains 10 = true
        ∧ listening { base with power := .startUp, listenEnds := some 1500 } = true
        ∧ listening base = false ∧ receiving base = true)
      ∧ ((aged .fresh 1100).topics[8]?).any (fun e => e.state == .fresh
          && decide (e.config.staleLimit ≤ 1100 - e.ageFrom)) = true
      ∧ ((aged .stale 1900).topics[8]?).any (fun e => e.state == .stale
          && decide (e.config.lostLimit ≤ 1900 - e.ageFrom) && e.config.role != .request) = true := by decide

/-- An entry of each role that goes Lost; supervision in each state, with a cut that matters and without; an entry
that becomes Fresh. -/
theorem test_witness_ClashesAndAges_roles :
    [Role.boomPos, .engineRun, .pilot, .valveCut, .extCut, .coolant].all (fun r =>
        base.topics.any fun e => e.config.role == r) = true
      ∧ isPoseRole .boomPos = true ∧ Role.coolant ∈ [Role.engineFuel, .coolant, .pump, .timeSync]
      ∧ ([Supervision.settled, .awaiting, .faulted, .hold].all fun v =>
        (emptied v).intervention.supervision == v) = true
      ∧ (base.intervention.supervision = .settled ∧ base.intervention.list ≠ [])
      ∧ (cutMatters { clearList with limits := [] } = false)
      ∧ (let x := (0, { fresh 115 14 .valveCut (.valveCut 3 8) with state := .recovering },
            fresh 115 14 .valveCut (.valveCut 3 8), Payload.valveCut 3 8)
        x.2.2.1.state = .fresh ∧ x.2.1.state ≠ .fresh ∧ x.2.2.1.config.role = .valveCut) := by decide

/-! ## Witnesses: timers, clock, store, supplies -/

/-- Every timer at its expiry, in an economy state and a supervision state. -/
def expiring (e : EconomyState) (v : Supervision) : State := { base with
  pose := { base.pose with degradedTimer := some 1000 }
  intervention := { base.intervention with
    supervision := v
    confirmTimer := some 1000
    list := base.intervention.list.map fun r =>
      { r with state := .overridden, expiry := some 1000, timerRuns := true } }
  guidance := { base.guidance with detector := .digging, stageTimer := some 1000 }
  economy := { base.economy with
    state := e, waitTimer := some 1000, shutdownTimer := some 1000, resumeTimer := some 1000 } }

theorem test_witness_TimersExpire :
    [EconomyState.idleWait, .idling, .resuming].all (fun e => [Supervision.awaiting, .faulted].all fun v =>
      let s := expiring e v
      s.economy.state == e && s.intervention.supervision == v && due s.now s.pose.degradedTimer
        && due s.now s.intervention.confirmTimer && due s.now s.guidance.stageTimer
        && s.guidance.detector != .idle && due s.now s.economy.waitTimer && due s.now s.economy.shutdownTimer
        && due s.now s.economy.resumeTimer
        && s.intervention.list.any (fun r => r.seq == 1 && overrideDue s.now r)) = true := by decide

theorem test_witness_PeriodsPlaceContents :
    base.power = .running ∧ base.bus.status.due ≤ base.now
      ∧ { base.bus.status with due := 1001 }.due > base.now := by decide

/-- The bytes of STATUS in Running and of a GUIDANCE at its start values. -/
theorem test_contents :
    pubData base .status = [0x00, 0x31, 3, 0xC1, 7, 0, 0x01, 0, 0]
      ∧ pubData base .guidance
        = [1, 0x00, 0x80, 0x27, 0x23, 0x00, 0x05, 0x00, 0x80, 0xFF, 7, 0, 0, 0xFF, 0, 0, 0x80, 0, 0] := by decide +kernel

theorem test_witness_ClockCommands :
    base.power ≠ .off ∧ base.time.stopped = false ∧ { base.time with stopped := true }.stopped = true
      ∧ (let t := { base.time with prescaler := 32767, carried := 1 }
        t.length ≤ t.prescaler + t.carried ∧ t.stopped = false)
      ∧ base.time.prescaler + base.time.carried < base.time.length := by
  decide

/-- A rollover with the clock Running and Unset; items with a last-done date and without; a reminder that is told;
a service-state job queued, a place for one, and none. -/
theorem test_witness_ClockCommands_service :
    (base.time.unsetCause = none ∧ State.reset.time.unsetCause ≠ none ∧ pressureItem.lastDate = none)
      ∧ ({ pressureItem.config with reminder := some 0 }.reminder = some 0 ∧ pressureItem.state ≠ .ok
        ∧ pressureItem.acknowledged = false ∧ pressureItem.config.basis = some 0)
      ∧ ([Job.serviceState []].any Job.isService = true ∧ base.store.queue.any Job.isService = false
        ∧ (List.replicate 5 Job.checkpoint).length < 6 ∧ ¬ (List.replicate 6 Job.checkpoint).length < 6) := by decide

/-- The first second of a day with the two entries of the image due at it, and one announcement alone. -/
def midnight : State := { base with time := { base.time with
  clock := ⟨0, 0, 0, 3, 14, 5, 2031⟩
  timeMatches := [⟨0, 0, 0x08, .shiftStart, true⟩, ⟨0, 0, 0x7F, .reminderTime, true⟩] } }

theorem test_witness_ClockCommands_announcements :
    (midnight.power = .running ∧ firings midnight midnight.time.clock = [(0, .shiftStart), (1, .reminderTime)]
        ∧ (economyAnnouncements midnight.time.clock (firings midnight midnight.time.clock))
          = [.second, .rollover, .shiftStart]
        ∧ (serviceAnnouncements midnight.time.clock (firings midnight midnight.time.clock))
          = [.rollover, .shiftStart, .reminder 1])
      ∧ (economyAnnouncements base.time.clock (firings base base.time.clock)).length < 2
      ∧ { base with power := .limp }.power ≠ .running
      ∧ (base.meter.keyOffTaken = false ∧ base.pins.keyOn = true ∧ base.meter.periodic < 359
        ∧ ¬ { base.meter with periodic := 359 }.periodic < 359)
      ∧ (meterCondition base 6 = true ∧ (TimeMeter.advance ⟨4, 359⟩).seconds % 360 = 0
        ∧ TimeMeter.advance ⟨4, 359⟩ ≠ ⟨4, 359⟩)
      ∧ [(⟨4, 3598⟩ : TimeMeter), ⟨4, 3599⟩, ⟨999999, 3599⟩].map TimeMeter.advance
        = [⟨4, 3599⟩, ⟨5, 0⟩, ⟨999999, 3599⟩] := by decide

def writing : State :=
  { base with store := { base.store with writing := some ⟨.checkpoint, .checkpoint ⟨1, .zero, 0⟩, 1000⟩ } }

theorem test_witness_StoreWrites :
    (writing.store.writing = some ⟨.checkpoint, .checkpoint ⟨1, .zero, 0⟩, 1000⟩ ∧ 1000 ≤ writing.now)
      ∧ (base.store.writing = none ∧ base.restart = none
        ∧ { base.store with queue := [.checkpoint] }.queue = .checkpoint :: [])
      ∧ (writing.store.writing ≠ none ∧ base.store.queue = [] ∧ (some (⟨[], 0, [], false⟩ : RestartWait)) ≠ none)
      ∧ (let t : Ticket := ⟨11, 6, 21#8, 0#8, 0⟩;
        stillWaits (setQueue [.history [t]] base) t = true ∧ stillWaits base t = false)
      ∧ (limitReply 7#8 0 (limitEntry (wall .stop) .clear)).length = 5
      ∧ (limitReply 8#8 0 (limitEntry (wall .stop) .clear)).length = 31
      ∧ limitReply 9#8 0 (limitEntry (wall .stop) .clear) = [0, byte LimitState.clear.num] := by decide

/-- A copy of an area with a valid content, and the same not valid. -/
def goodCopy (generation : Nat) : Copy Nat := ⟨true, generation, 0⟩
def badCopy : Copy Nat := ⟨false, 9, 0⟩

/-- No valid copy, one, and two: the later one, and copy 0 of equal ones; the last generation; canonical blocks; a
listed entry and an item in use. -/
theorem test_witness_StoreWrites_areas :
    [(⟨badCopy, badCopy⟩ : Area Nat), ⟨goodCopy 3, badCopy⟩, ⟨badCopy, goodCopy 3⟩, ⟨goodCopy 3, goodCopy 3⟩,
        ⟨goodCopy 3, goodCopy 4⟩, ⟨goodCopy 4294967294, badCopy⟩].map (fun a => a.write (fun _ => true) 5 0)
      = [⟨⟨true, 1, 5⟩, badCopy⟩, ⟨goodCopy 3, ⟨true, 4, 5⟩⟩, ⟨⟨true, 4, 5⟩, goodCopy 3⟩,
        ⟨goodCopy 3, ⟨true, 4, 5⟩⟩, ⟨⟨true, 5, 5⟩, goodCopy 4⟩, ⟨goodCopy 4294967294, ⟨true, 4294967295, 5⟩⟩]
      ∧ ¬ (goodCopy 4294967295).generation < 4294967295
      ∧ blocksWf [(0, 1), (4, 7)] = true
      ∧ (base.limits[0]?).isSome = true ∧ base.service.items[0]? = some (some pressureItem) := by decide

/-- A pending checkpoint with a job, with none and a place, urgent, and at the last sequence number; write-pending with
a place and without; a snapshot. -/
theorem test_witness_StoreWrites_offers :
    (base.meter.job = .none ∧ base.meter.pending = .clear ∧ base.meter.sequence < 4294967295)
      ∧ ({ base.meter with job := .inFlight }.job ≠ .none ∧ PendingMark.set ≠ .clear
        ∧ 4294967295 ≤ { base.meter with sequence := 4294967295 }.sequence)
      ∧ ((offerPendingCheckpoint (setMeterUnit { base.meter with pending := .set } base)).store.queue = [.checkpoint]
        ∧ (let s := setMeterUnit { base.meter with pending := .set } fullQueue
          offerPendingCheckpoint s = s)
        ∧ (offerPendingCheckpoint (setMeterUnit { base.meter with pending := .setUrgent } fullQueue)).store.queue
          = .checkpoint :: fullQueue.store.queue)
      ∧ (let s := { base with economy := { base.economy with writePending := true } }
        (offerDayJob s).store.queue = [.dayRecords] ∧ s.store.queue.length < 6)
      ∧ (jobContent .checkpoint (setMeterUnit { base.meter with snapshot := some ⟨5, .zero, 9⟩ } base)
        = .checkpoint ⟨5, .zero, 9⟩) := by decide

def ringed : Biu :=
  { base.bus with ring := [⟨4, true, [17, 1, 1, 0], none, 0⟩], controller := some (.ring 4), txErrors := 256 }

theorem test_witness_ControllerEvents :
    { base.bus with controller := some (.cyclic .cutDemand) }.controller = some (.cyclic .cutDemand)
      ∧ (ringed.controller = some (.ring 4) ∧ (ringed.ring.find? (·.id == 4)).isSome = true)
      ∧ awake base = true ∧ ringed.busState = .online ∧ 255 < ringed.txErrors ∧ ringed.busOffCount < 2
      ∧ 2 ≤ { ringed with busOffCount := 2 }.busOffCount
      ∧ { ringed with busState := .busOff }.busState = .busOff
      ∧ (∀ p, ringed.controller ≠ some (.cyclic p)) := by
  refine ⟨by decide, by decide, by decide, by decide, by decide, by decide, by decide, by decide, fun p h => ?_⟩
  cases h

/-- A cyclic place whose series begins or ends with its frame. -/
def sending (bytes : Nat) : CyclicPlace :=
  { CyclicPlace.atStart with sending := some ⟨4, List.replicate bytes 0⟩, held := some ⟨4, List.replicate bytes 0⟩ }

/-- Warning and service notices owed. -/
def anyNotice : WarnNotice := ⟨0, .reachWall, .breach, 0, 7⟩
def owing : State := { base with
  limits := base.limits.map fun e => { e with owed := some anyNotice }
  service := { base.service with items := [some { pressureItem with owed := some .rise }] } }

/-- A last frame and one that is not; a ring with room, a full one; a record, an entry and an item that owe. -/
theorem test_witness_ControllerEvents_places :
    (({ base.bus with cutDemand := sending 3 }.place .cutDemand).sending = some ⟨4, [0, 0, 0]⟩
        ∧ frameCount [0, 0, 0] ≤ (sending 3).framesSent + 1)
      ∧ ((sending 18).framesSent + 1 < frameCount (List.replicate 18 0))
      ∧ (0 + 1 < frameCount (List.replicate 16 0) ∧ frameCount [1, 2, 3, 4] ≤ 0 + 1)
      ∧ (base.power = .running ∧ base.bus.ring.length < 8
        ∧ 8 ≤ (List.replicate 8 (⟨0, true, [], none, 0⟩ : RingFrame)).length)
      ∧ ((base.intervention.list.map fun r => { r with owed := true }).find? (·.owed)).isSome = true
      ∧ (owing.intervention.list.all (fun r => !r.owed) = true
        ∧ (owing.limits[0]?).bind (·.owed) = some anyNotice)
      ∧ (base.limits.all (fun e => e.owed.isNone) = true
        ∧ owing.service.items[0]? = some (some { pressureItem with owed := some .rise })) := by decide

/-- A configuration image whose every field meets its conditions, for a part of station 17. -/
def image : ImageFields where
  subs := base.topics.map (fun e => { e.config with staleLimit := 200, lostLimit := 1000 })
  pubs := base.bus.topics
  geometry := ⟨600, 2400, 8000, 3800, 2100⟩
  descriptors := [bucketTable, ⟨9, 3, 0, 250, 500⟩, ⟨12, 2, -40, 60, 800⟩] ++ List.replicate 3 ⟨0, 0, 0, 1, 0⟩
  pool := base.config.pool ++ List.replicate 242 0
  limits := List.replicate 12 ⟨wall .stop, true⟩
  fineBand := 50
  digThreshold := 180
  economy := base.config.economy
  initialTrim := 12
  timeMatches := [⟨45, 7, 0x3E, .shiftStart, true⟩, ⟨30, 6, 0x7E, .reminderTime, true⟩]
    ++ List.replicate 4 ⟨0, 0, 0, .shiftStart, false⟩
  workThreshold := 100
  heavyThreshold := 250
  items := [some ⟨4101, .important, some 0, 500, 25, 50, 180, 14, 7, some 1⟩] ++ List.replicate 23 none
  supervisorKey := 0x11111111
  technicianKey := 0x22222222

/-- Reset, with an image in copy 0 and the straps at 17. -/
def withImage : State :=
  { State.reset with
    pins := ⟨true, 17, false⟩
    store := { ParameterStore.blank with image0 := ⟨[], ⟨2048, 1, 1, true, some image⟩⟩ } }

theorem test_witness_SuppliesAndKey :
    State.reset.power = .off ∧ base.power ≠ .off ∧ awake base = true ∧ base.meter.keyOffTaken = false
      ∧ { base with power := .startUp }.power = .startUp
      ∧ { base.meter with keyOffTaken := true }.keyOffTaken = true ∧ base.detectorArmed = true
      ∧ { base with power := .keepAlive }.power = .keepAlive := by decide

/-- A checkpoint wanted with a free place and without one, with a job, and at the last sequence. -/
theorem test_witness_SuppliesAndKey_checkpoints :
    (base.store.writing = none ∧ writing.store.writing = some ⟨.checkpoint, .checkpoint ⟨1, .zero, 0⟩, 1000⟩)
      ∧ (base.meter.sequence < 4294967295 ∧ base.meter.job = .none ∧ base.store.queue.length < 6
        ∧ 6 ≤ (List.replicate 6 Job.dayRecords).length)
      ∧ ({ base.meter with job := .inFlight }.job = .inFlight ∧ { base.meter with job := .inFlight }.job ≠ .none)
      ∧ ({ base.meter with sequence := 4294967295 }.sequence ≥ 4294967295 ∧ base.meter.job ≠ .queued)
      ∧ { base.meter with job := .queued }.job = .queued := by decide

/-- A slot of the ring, canonical blocks, a copy in force on either side and on none, and the value of a time meter and
of the count. -/
theorem test_witness_SuppliesAndKey_cut_off :
    (base.store.slots[(13 : Nat) % 8]?).isSome = true ∧ blocksWf [(0, 1), (4, 7)] = true
      ∧ [(⟨badCopy, badCopy⟩ : Area Nat), ⟨goodCopy 3, goodCopy 3⟩, ⟨goodCopy 3, goodCopy 4⟩, ⟨badCopy, goodCopy 1⟩].map
          (Area.target fun _ => true) = [false, true, false, false]
      ∧ (base.meter.meters.value 0 = some (.time 0 0) ∧ setMeterReply base.meter.meters 0 = List.replicate 7 0
        ∧ base.meter.meters.value 7 = some (.count 0) ∧ setMeterReply base.meter.meters 7 = [7, 0, 0, 0, 0]) := by
  decide

/-- KEY_ON from Keep-alive. -/
theorem test_key_on_starts :
    leaves (fun t => t.power == .startUp && t.station == 17 && t.listenEnds == some 500)
      (exec (.keyOn 17) { withImage with power := .keepAlive }) = true := by decide +kernel

theorem test_witness_ShutdownAndStarts :
    shutdownDone { base with meter := { base.meter with keyOffTaken := true } } = true
      ∧ restartDue { base with restart := some ⟨[11], 1000, [], false⟩ } = true
      ∧ due 1500 (some 1500) = true ∧ due 1499 (some 1500) = false := by decide

def technicianWall : StoredLimit := ⟨{ wall .stop with owner := .technician }, true⟩

/-- The end of a start that runs, one that does not, and one with a bad image; with a held key-off and without; a
Technician-owned Stop entry, and none. -/
theorem test_witness_ShutdownAndStarts_ends :
    (base.imageGood = true ∧ base.station ≠ 0 ∧ base.keyOffHeld = false ∧ base.pins.keyOn = true)
      ∧ ({ base with station := 0 }.station = 0 ∧ State.reset.imageGood = false)
      ∧ (∀ e ∈ base.limits, ¬ (e.state ≠ .disabled ∧ e.config.action = .stop ∧ e.config.owner = .technician))
      ∧ (technicianWall.enabled = true ∧ technicianWall.config.action = .stop
        ∧ technicianWall.config.owner = .technician)
      ∧ State.reset.store.limits.restored limitsOk = none
      ∧ ({ base with keyOffHeld := true }.keyOffHeld = true ∧ { base.pins with keyOn := false }.keyOn = false)
      ∧ [(⟨badCopy, badCopy⟩ : Area Nat), ⟨goodCopy 3, badCopy⟩, ⟨badCopy, goodCopy 3⟩, ⟨goodCopy 3, goodCopy 3⟩,
          ⟨goodCopy 3, goodCopy 4⟩].map (Area.restored fun _ => true)
        = [none, some 0, some 0, some 0, some 0] := by decide

/-- The listen ends in Running, with STATUS due 200 ms later and placed at once. -/
theorem test_listen_end_runs :
    leaves (fun t => t.power == .running && t.pins.cutout && t.bus.status.due == 1200
        && t.bus.status.lastNumber == 1)
      (exec .listenEnd { base with power := .startUp, listenEnds := some 1000 }) = true := by decide +kernel

/-- A RESTART that begins in Limp and ends there places a STATUS content at once. -/
theorem test_restart_in_limp :
    leaves (fun t => t.power == .limp && t.bus.status.lastNumber == 1)
      (exec .restartBegin { State.reset with
        power := .limp, pins := ⟨true, 17, false⟩, restart := some ⟨[11], 0, [], true⟩ }) = true := by
  decide +kernel

/-- A start with a good image, and one with none. -/
theorem test_witness_StartLeaves :
    ((beginStart withImage).imageGood = true ∧ (beginStart withImage).station ≠ 0)
      ∧ ¬ ((beginStart State.reset).imageGood = true ∧ (beginStart State.reset).station ≠ 0) := by
  decide +kernel

/-- An array with every area stored: the newest slot is the second, the open record is of another day, the stored
standing is another than the start's. -/
def storedImage (day : Date) (standing : Standing) : State := { withImage with
  time := base.time
  store := { withImage.store with
    limits := ⟨⟨true, 1, List.replicate 12 ⟨wall .warn, false⟩⟩, ⟨false, 0, []⟩⟩
    grade := ⟨⟨true, 1, [none, some ⟨0, 2000, 0, 0⟩] ++ List.replicate 6 none⟩, ⟨false, 0, []⟩⟩
    slots := [⟨true, ⟨4, .zero, 9⟩⟩, ⟨true, ⟨5, .zero, 8⟩⟩] ++ List.replicate 6 ⟨false, ⟨9, .zero, 0⟩⟩
    days := ⟨⟨true, 1, ⟨[], .opened (some day), ⟨0, 0, 0⟩⟩⟩, ⟨false, 0, .blank⟩⟩
    service := ⟨⟨true, 1, some ⟨4101, some 0, some (.time 0 0), none, standing, .ok⟩ :: List.replicate 23 none⟩,
      ⟨false, 0, []⟩⟩
    history := ⟨⟨true, 1, []⟩, ⟨false, 0, []⟩⟩ } }

/-- A start over areas that are lost, and over stored ones: a day record that closes, a standing that moves, with the
job of each; neither; the newest slot. -/
theorem test_witness_StartLeaves_restores :
    (withImage.store.days.restored dayAreaOk = none ∧ withImage.store.service.restored serviceAreaOk = none
        ∧ withImage.store.grade.restored profileOk = none ∧ withImage.store.limits.restored limitsOk = none
        ∧ withImage.store.history.restored historyOk = none ∧ withImage.store.slots.any Slot.valid = false
        ∧ (beginStart withImage).store.queue = [.limitArea [], .gradeProfile [], .checkpoint, .dayRecords,
          .serviceState [], .history []])
      ∧ (let s := storedImage ⟨13, 5, 2031⟩ .due
         (beginStart s).imageGood = true ∧ (beginStart s).store.queue = [.dayRecords, .serviceState []]
          ∧ (s.store.days.restored dayAreaOk).any (fun a => a.opened.date != none
            && a.opened.date != some s.time.clock.day) = true)
      ∧ (let s := storedImage base.time.clock.day .ok
         (beginStart s).store.queue = [] ∧ (beginStart s).meter.sequence = 5
          ∧ (beginStart s).guidance.scanIndex = 1 ∧ (beginStart s).diag.entries = []) := by
  decide +kernel

/-- The array with these two image copies. -/
def withCopies (a b : ImageView) : State :=
  { withImage with store := { withImage.store with image0 := ⟨[], a⟩, image1 := ⟨[], b⟩ } }

/-- The image of `withImage` with this generation. -/
def imageView (generation : Nat) : ImageView := ⟨2048, 1, generation, true, some image⟩

/-- Which copy is in force: copy 0 of equal ones, the later one, the only valid one, none; headers at and beyond their
ranges; a copy in force whose fields fail their checks is not replaced by the other copy. -/
theorem test_witness_StartLeaves_images :
    [withCopies (imageView 3) (imageView 3), withCopies (imageView 3) (imageView 4),
        withCopies (imageView 3) ⟨0, 0, 9, false, none⟩, withCopies ⟨0, 0, 9, false, none⟩ (imageView 3),
        withCopies ⟨0, 0, 9, false, none⟩ ⟨0, 0, 9, false, none⟩].map (fun s => (beginStart s).store.staging)
      = [true, false, true, false, false]
    ∧ [(⟨16, 1, 0, true, none⟩ : ImageView), ⟨2048, 1, 0, true, none⟩, ⟨15, 1, 0, true, none⟩, ⟨2049, 1, 0, true, none⟩,
        ⟨16, 2, 0, true, none⟩, ⟨16, 1, 0, false, none⟩].map ImageView.headerValid
      = [true, true, false, false, false, false]
    ∧ imageOk 17 image = true ∧ imageOk 1 image = false ∧ imageOk 17 { image with fineBand := 201 } = false
    ∧ (beginStart (withCopies (imageView 3) ⟨2048, 1, 4, true, some { image with fineBand := 9 }⟩)).imageGood = false
    ∧ ((beginStart withImage).config = image ∧ (beginStart State.reset).imageGood = false) := by decide +kernel

/-! ## Witnesses: evaluations and records -/

/-- The last sequence number has been given, and the one before it. -/
def atSequence (n : Nat) : State := { base with intervention := { base.intervention with lastSeq := n } }

def sensorLoss (st : RecordState) : Record :=
  ⟨2, .sensorLoss, none, .poseInvalid, 8, ⟨0, 0, 0, .invalid⟩, st, false, false, none, false⟩

/-- EXT_CUT raises at the boundary of the sequence numbers: with 65,534 the list goes on, with 65,535 Hold begins. -/
theorem test_witness_ExtCut_sequences :
    (let v := fun n => (Work.extCut 22 4 ⟨atSequence n, []⟩).state.intervention
     let same := fun n => (atSequence n).intervention.list.any (Record.ofStation 22)
     [65533, 65534].map same = [false, false]
       ∧ ((atSequence 65533).intervention.lastSeq < 65534 ∧ (atSequence 65534).intervention.lastSeq = 65534)
       ∧ inHold (atSequence 65534) = false
       ∧ [v 65533, v 65534].map (fun u => (u.lastSeq, u.supervision == .hold, u.cutSet, u.list.length))
         = [(65534, false, base.intervention.cutSet, 2), (65535, true, 0xFF, 2)]) := by decide +kernel

theorem test_witness_EvaluationsActOnRecords :
    (limitEntry (wall .stop) .breach).state ≠ .disabled
      ∧ (base.pose.pose.quality ≠ .invalid ∧ { base.pose.pose with quality := .invalid }.quality = .invalid)
      ∧ (inHold held = true ∧ inHold base = false)
      ∧ (65535 ≤ (atSequence 65535).intervention.lastSeq ∧ (atSequence 65534).intervention.lastSeq < 65535
        ∧ (atSequence 65534).intervention.lastSeq = 65534 ∧ base.intervention.lastSeq < 65534)
      ∧ (clearList.intervention.list = [] ∧ base.intervention.list ≠ []
        ∧ EconomyState.idling ∈ [EconomyState.idleWait, .idling, .resuming, .shutdownPending]
        ∧ EconomyState.held ∉ [EconomyState.idleWait, .idling, .resuming, .shutdownPending])
      ∧ (base.intervention.list.any (Record.ofEntry 0) = true ∧ base.intervention.list.any (Record.ofEntry 1) = false)
      ∧ ((sensorLoss .clearable).isSensorLoss = true ∧ base.intervention.list.any Record.isSensorLoss = false
        ∧ base.limits.any armedStop = true ∧ [limitEntry (wall .warn) .clear].any armedStop = false)
      ∧ (base.bus.ring.length < 8 ∧ ({ ringed with controller := none }.ring.any
          { ringed with controller := none }.displaceable) = true ∧ ringed.ring.any ringed.displaceable = false) := by
  decide

/-- A breach inside the wall raises the entry's record once, as one event with one demand. -/
theorem test_breach_raises :
    (let s := { clearList with limits := [limitEntry (wall .stop) .approach], pose := { base.pose with
        pose := { base.pose.pose with reach := 9000 } } }
     let t := consumePose .valid s
     t.intervention.list.map (fun r => (r.seq, r.state)) = [(1, .raised)]
       ∧ t.intervention.cutSet = 9 ∧ t.intervention.demandSeq = 1) := by decide +kernel

/-- After the raise that gives 65,535, no later step of the event acts on the list, and before it every one does. -/
theorem test_last_raise_ends_event :
    (let w : Nat → Work := fun n => Work.raise .limitStop (some 1) .breach 1 ⟨atSequence n, []⟩;
     let later : List (Work → Work) := [(Work.take · (.raise 2 .limitSlow .breach 1)),
      (Work.take · (.cause 1 .predictedBreach)), (Work.take · (.report 1 true)),
      (fun w => Work.poseQuality .valid { w with state := { w.state with pose := { w.state.pose with
        pose := { w.state.pose.pose with quality := .invalid } } } })];
     inHold (w 65534).state = true ∧ (w 65534).state.intervention.lastSeq = 65535
       ∧ later.all (fun f => (f (w 65534)).state.intervention == (w 65534).state.intervention) = true
       ∧ inHold (w 65533).state = false
       ∧ later.all (fun f => (f (w 65533)).state.intervention != (w 65533).state.intervention) = true) := by
  decide +kernel

/-- The raise that gives 65,535 enters Hold with one advance of the demand sequence. -/
theorem test_last_sequence_holds :
    (let s := { clearList with
        limits := [limitEntry (wall .stop) .approach]
        intervention := { clearList.intervention with lastSeq := 65534 }
        pose := { base.pose with pose := { base.pose.pose with reach := 9000 } } }
     let t := consumePose .valid s
     t.intervention.supervision = .hold ∧ t.intervention.cutSet = 0xFF ∧ t.intervention.demandSeq = 1
       ∧ t.intervention.list.map (·.seq) = [65535]) := by decide +kernel

/-- Battery connect with KEYON asserted and nothing programmed: Limp, ImageBad. -/
theorem test_first_start :
    leaves (fun t => t.power == .limp && t.limpCause == some .imageBad && t.station == 17 && !t.pins.cutout)
      (exec (.batteryConnect true 17) State.reset) = true := by decide +kernel

end Sys2Proof.Tests
end

section
/-! PROOFS. The part at reset, and the lookup tables (R12, R14, R181, R183). -/

namespace Sys2Proof.Machine

/-! ## Arithmetic of the tables -/

/-- The magnitude that `roundDiv` gives, times the divisor, is off by half a divisor at most, and by a full half
upwards alone. -/
theorem roundDiv_magnitude (a d : Nat) (hd : 1 ≤ d) :
    2 * (((2 * a + d) / (2 * d)) * d) ≤ 2 * a + d ∧ 2 * a < 2 * (((2 * a + d) / (2 * d)) * d) + d := by
  generalize hk : (2 * a + d) / (2 * d) = k
  have hlo : 2 * d * k ≤ 2 * a + d := hk ▸ Nat.mul_div_le _ _
  have hhi : 2 * a + d < 2 * d * (k + 1) := hk ▸ Nat.lt_mul_div_succ _ (by omega)
  have e1 : 2 * d * k = 2 * (k * d) := by ring
  have e2 : 2 * d * (k + 1) = 2 * (k * d) + 2 * d := by ring
  omega

/-- `roundDiv` rounds to the nearest whole unit, halves away from zero. -/
theorem nearest_roundDiv (n : Int) (d : Nat) (hd : 1 ≤ d) : Nearest n d (roundDiv n d) := by
  obtain ⟨hlo, hhi⟩ := roundDiv_magnitude n.natAbs d hd
  unfold Nearest roundDiv
  dsimp only
  generalize (2 * n.natAbs + d) / (2 * d) = k at *
  have hk : (Int.ofNat k) * (d : Int) = ((k * d : Nat) : Int) := by simp
  split
  · rw [Int.neg_mul, hk]; omega
  · rw [hk]; omega

theorem lookup_below (pool : List Int) (c : DescConfig) (x : Int) (h : x - c.origin < 0) :
    lookup pool c x = (pool.getD (c.base + 0) 0, true) := by
  unfold lookup
  exact if_pos h

theorem lookup_above (pool : List Int) (c : DescConfig) (x : Int)
    (h : (((c.limit - 1) * c.step : Nat) : Int) < x - c.origin) :
    lookup pool c x = (pool.getD (c.base + (c.limit - 1)) 0, true) := by
  unfold lookup
  exact (if_neg (by omega)).trans (if_pos h)

/-- Inside the table an input is `i` steps and a rest from the origin. -/
theorem lookup_inside (pool : List Int) (c : DescConfig) (x : Int) (i r : Nat)
    (hx : x - c.origin = i * c.step + r) (hr : r < c.step) (hin : i * c.step + r ≤ (c.limit - 1) * c.step) :
    lookup pool c x = if r = 0 then (pool.getD (c.base + i) 0, false)
      else (pool.getD (c.base + i) 0
        + roundDiv ((pool.getD (c.base + (i + 1)) 0 - pool.getD (c.base + i) 0) * r) c.step, false) := by
  have hd : x - c.origin = ((i * c.step + r : Nat) : Int) := by rw [hx]; push_cast; rfl
  have hi : (i * c.step + r) / c.step = i := by
    rw [Nat.mul_comm, Nat.mul_add_div (by omega), Nat.div_eq_of_lt hr, Nat.add_zero]
  have hm : (i * c.step + r) % c.step = r := by
    rw [Nat.mul_comm, Nat.mul_add_mod, Nat.mod_eq_of_lt hr]
  unfold lookup
  dsimp only
  rw [hd, if_neg (by omega), if_neg (by omega), Int.toNat_natCast, hi, hm]
  simp only [beq_iff_eq]

/-- Settles O19, by the place of the input: below the table, above it, or `i` steps and a rest inside. -/
theorem lookupOutput : Obligations.LookupOutput := by
  intro pool c x _ hstep
  refine ⟨lookup_below pool c x, lookup_above pool c x, fun i r hx hr hin => ⟨fun h0 => ?_, fun h0 => ?_⟩⟩
  · rw [lookup_inside pool c x i r hx hr hin, if_pos h0]
  · exact ⟨_, nearest_roundDiv _ _ hstep, by rw [lookup_inside pool c x i r hx hr hin, if_neg h0]⟩

/-- Settles O3: every value is the one that `State.reset` gives by definition, and each law is evaluated there. -/
theorem resetValuesAndLaws : Obligations.ResetValuesAndLaws := by
  constructor
  · exact ⟨rfl, rfl, rfl, rfl, rfl, rfl, rfl, rfl, rfl, rfl, rfl, rfl, rfl⟩
  · decide

end Sys2Proof.Machine
end

section
/-! PROOFS. The grade of the pose, its latch and its timer (R8, R9). -/

namespace Sys2Proof.Machine

/-! ## The grade of the pose (R8, R9) -/

theorem gradeOf_eq_valid (s : State) (hf : (poseEntries s).all (fun e => e.state = .fresh) = true)
    (hc : poseClamped s = false) : gradeOf s = .valid := by
  refine if_pos ?_
  rw [hc]
  exact (Bool.and_true _).trans hf

/-- A pose that is not Valid is graded by its worst entry and the latch. -/
theorem gradeOf_not_valid (s : State)
    (h : (poseEntries s).all (fun e => e.state = .fresh) = false ∨ poseClamped s = true) :
    gradeOf s = if (poseEntries s).any (fun e => e.state = .lost ∨ e.state = .never) = true ∨ s.pose.latch = true
      then .invalid else .degraded := by
  have hv : ¬ ((poseEntries s).all (fun e => e.state == .fresh) && !poseClamped s) = true := by
    rcases h with hf | hc
    · have hf' : (poseEntries s).all (fun e => e.state == .fresh) = false := hf
      simp [hf']
    · simp [hc]
  unfold gradeOf
  rw [if_neg hv]
  simp only [Bool.or_eq_true, Bool.decide_or]
  rfl

/-- The pose unit after a grade: quality, latch and timer alone are written. -/
def gradedPose (s : State) : PoseUnit :=
  { s.pose with
    pose := { s.pose.pose with quality := gradeOf s }
    degradedTimer := if gradeOf s = .degraded then
        if s.pose.pose.quality = .degraded then s.pose.degradedTimer else some (s.now + 2000)
      else none
    latch := if gradeOf s = .valid then false else s.pose.latch }

/-- A grade writes the pose unit, and ends PoseTimeout when it clears the latch. -/
theorem applyGrade_eq (s : State) :
    applyGrade s = if gradeOf s = .valid ∧ s.pose.latch = true then
        endFault .poseTimeout poseBlock (setPoseUnit (gradedPose s) s)
      else setPoseUnit (gradedPose s) s := by
  unfold applyGrade gradedPose
  cases hq : gradeOf s <;> cases hl : s.pose.latch <;> simp [hl, degradedTime, beq_eq_decide]

theorem applyGrade_pose (s : State) : (applyGrade s).pose = gradedPose s := by
  rw [applyGrade_eq]
  split <;> rfl

/-- Settles O25, from the one equation of the pose unit after a grade and the three grades. -/
theorem poseQualityTable : Obligations.PoseQualityTable := by
  intro s
  dsimp only
  rw [applyGrade_pose]
  unfold gradedPose
  refine ⟨fun hf hc => ?_, fun hv hbad => ?_, fun hv hgood hlatch => ?_⟩
  · rw [gradeOf_eq_valid s hf hc]
    simp
  · rw [gradeOf_not_valid s hv, if_pos hbad]
    simp
  · rw [gradeOf_not_valid s hv, hgood, hlatch]
    simp

end Sys2Proof.Machine
end

section
/-! PROOFS. Accepted arrivals at the economy state machine, the idle speed and the fuel accounts (R15, R91, R94, R102). -/

namespace Sys2Proof.Machine

/-! ## Accepted arrivals -/

/-- An arrival that the Topic Map accepts is handed to its blocks from the graded state. -/
theorem finish_takeFrame (role : Role) (station : Option Nat) (f : Frame) (s : State)
    (x : Nat × SubEntry × SubEntry × Payload) (h : accepted role station f s = some x) :
    finish s (takeFrame role station f s)
      = .next (settle s (handArrival x.2.1.config.station x.2.2.2 (gradedBy x s))) := by
  rw [takeFrame_accepted role station f s x h]
  rfl

theorem frame_gradedBy (x : Nat × SubEntry × SubEntry × Payload) (s : State) :
    frame (gradedBy x s) = frame s := by
  unfold gradedBy
  dsimp only
  split
  · rw [frame_freshened, frame_setTopic]
  · exact frame_setTopic _ _ _

@[simp] theorem gradedBy_now (x : Nat × SubEntry × SubEntry × Payload) (s : State) :
    (gradedBy x s).now = s.now :=
  congrArg (·.1.1.1) (frame_gradedBy x s)

/-! ## The economy state machine (R91, R94) -/

theorem engineStopped_eq (s : State) :
    engineStopped s = if s.economy.state = .stopped ∨ s.economy.state = .forced then s
      else enterEconomy .stopped s := by
  unfold engineStopped
  cases s.economy.state <;> rfl

theorem economyEngineRun_not_running (speed : Nat) (s : State) :
    economyEngineRun false speed s = engineStopped s := rfl

theorem economyEngineRun_of_stopped (speed : Nat) (s : State) (h : s.economy.state = .stopped) :
    economyEngineRun true speed s = enterEconomy .working s := by
  simp [economyEngineRun, h]

theorem economyEngineRun_of_resuming (speed : Nat) (s : State) (h : s.economy.state = .resuming) :
    economyEngineRun true speed s
      = if ((speed : Int) - workingSpeed s (modeInForce s)).natAbs ≤ 50 then enterEconomy .working s else s := by
  simp [economyEngineRun, speedReached, h]

theorem economyEngineRun_elsewhere (speed : Nat) (s : State) (h1 : s.economy.state ≠ .stopped)
    (h2 : s.economy.state ≠ .resuming) : economyEngineRun true speed s = s := by
  unfold economyEngineRun
  revert h1 h2
  cases s.economy.state <;> simp

/-! ## Fuel (R102) -/

theorem satAdd_eq_min (top a n : Nat) : satAdd top a n = min top (a + n) := by
  unfold satAdd
  split <;> omega

theorem DayRecord.addFuel_eq (r : DayRecord) (n : Nat) (st : EconomyState) :
    r.addFuel n (st == .idling) = { r with
      fuel := min 99999999 (r.fuel + n)
      idleFuel := if st = .idling then min 99999999 (r.idleFuel + if st = .idling then n else 0) else r.idleFuel } := by
  unfold DayRecord.addFuel
  simp only [satAdd_eq_min, beq_iff_eq, maxAccount]
  split <;> rfl

theorem ShiftTotals.addFuel_eq (r : ShiftTotals) (n : Nat) (st : EconomyState) :
    r.addFuel n (st == .idling) = { r with
      fuel := min 99999999 (r.fuel + n)
      idleFuel := if st = .idling then min 99999999 (r.idleFuel + if st = .idling then n else 0) else r.idleFuel } := by
  unfold ShiftTotals.addFuel
  simp only [satAdd_eq_min, beq_iff_eq, maxAccount]
  split <;> rfl

/-- ENGINE_RUN, with the engine running or not. -/
theorem exec_engineRun (f : Frame) (s : State) (x : Nat × SubEntry × SubEntry × Payload) (running : Bool)
    (speed : Nat) (h : accepted .engineRun none f s = some x) (hp : x.2.2.2 = .engineRun running speed) :
    exec (.engineRun f) s = .next (settle s (economyEngineRun running speed (gradedBy x s))) :=
  (finish_takeFrame .engineRun none f s x h).trans (by rw [hp]; rfl)

theorem exec_coolant (f : Frame) (s : State) (x : Nat × SubEntry × SubEntry × Payload) (t : Int)
    (h : accepted .coolant none f s = some x) (hp : x.2.2.2 = .coolant t) :
    exec (.coolant f) s = .next (settle s (recallLookup 2 t (gradedBy x s))) :=
  (finish_takeFrame .coolant none f s x h).trans (by rw [hp]; rfl)

theorem exec_engineFuel (f : Frame) (s : State) (x : Nat × SubEntry × SubEntry × Payload) (rate : Nat)
    (h : accepted .engineFuel none f s = some x) (hp : x.2.2.2 = .engineFuel rate) :
    exec (.engineFuel f) s = .next (settle s (integrateFuel rate (gradedBy x s))) :=
  (finish_takeFrame .engineFuel none f s x h).trans (by rw [hp]; rfl)

/-- Settles O46: each arrival is handed on from the graded state, and its block's step has an equation per case. -/
theorem engineArrivals : Obligations.EngineArrivals := by
  refine ⟨fun f s x => ⟨fun running speed h hp => ?_, fun t h hp => exec_coolant f s x t h hp⟩,
    fun f s x rate h hp => ?_⟩
  · rw [exec_engineRun f s x running speed h hp]
    refine ⟨?_, ?_, ?_, ?_, ?_⟩
    · rintro rfl h1 h2
      rw [economyEngineRun_not_running, engineStopped_eq, if_neg (not_or.2 ⟨h1, h2⟩)]
      rfl
    · rintro rfl h0
      rw [economyEngineRun_not_running, engineStopped_eq, if_pos h0]
    · rintro rfl h0
      rw [economyEngineRun_of_stopped speed _ h0]
      rfl
    · rintro rfl h0
      rw [economyEngineRun_of_resuming speed _ h0]
      rfl
    · rintro rfl h1 h2
      rw [economyEngineRun_elsewhere speed _ h1 h2]
  · rw [exec_engineFuel f s x rate h hp]
    unfold integrateFuel
    simp only [DayRecord.addFuel_eq, ShiftTotals.addFuel_eq, satAdd_eq_min, gradedBy_now]
    rfl

end Sys2Proof.Machine
end

section
/-! PROOFS. POWER_MODE and TABLE_RECALL, the mode in force and its speeds (R16, R86 to R89, R99). -/

namespace Sys2Proof.Machine

/-! ## The mode in force and the idle speed (R87, R99) -/

theorem modeInForce_eq (s : State) :
    modeInForce s = if s.economy.state = .forced then .idle
      else if s.service.derate = true then .economy else s.economy.requested.inForce := by
  simp [modeInForce]

theorem idleSpeed_of_output (s : State) (v : Int) (e : SubEntry) (hv : heldOutput s 2 = some v)
    (he : entryOf s .coolant = some e) (hl : e.state ≠ .lost) : idleSpeed s = v.toNat := by
  simp [idleSpeed, hv, he, hl]

/-- The idle speed falls back without an output, and with COOLANT Lost. -/
theorem idleSpeed_fallback (s : State)
    (h : heldOutput s 2 = none ∨ ∃ e, entryOf s .coolant = some e ∧ e.state = .lost) :
    idleSpeed s = s.config.economy.idleFallback := by
  unfold idleSpeed
  rcases h with h | ⟨e, he, hl⟩
  · rw [h]
  · rw [he]
    cases heldOutput s 2 <;> simp [hl]

theorem inPointRange_iff (i : Nat) (v : Int) :
    inPointRange i v = true ↔ match i with
      | 0 => -18000 ≤ v ∧ v ≤ 18000
      | 1 => 0 ≤ v ∧ v ≤ 16383
      | 2 => 500 ≤ v ∧ v ≤ 4000
      | _ => False := by
  match i with
  | 0 | 1 | 2 => simp [inPointRange, pointRange, within]
  | n + 3 => simp [inPointRange, pointRange]

/-! ## POWER_MODE and TABLE_RECALL (R16, R88) -/

theorem noted_boundInput (r : Request) (s : State) (i : Nat) : boundInput (noted r s) i = boundInput s i := by
  unfold boundInput
  rw [noted_payloadOf r s .bucketLink (by decide), noted_payloadOf r s .slewPos (by decide),
    noted_payloadOf r s .coolant (by decide)]

/-- POWER_MODE's answer for a mode that exists: refused under the derate but for Economy. -/
theorem powerModeOwner_of_mode (t : Ticket) (a : List Byte) (s : State) (mode : PowerMode)
    (hlimp : limpOrHold s = false) (hm : powerModeOf (argNat a 0) = some mode) :
    powerModeOwner t a s = if s.service.derate = true ∧ mode ≠ .economy then .reply .refusedState [] s
      else
        let u := setEconomy { s.economy with requested := mode } s
        .reply .done [byte mode.num, byte (modeInForce u).num] u := by
  simp [powerModeOwner, hlimp, hm, refuse, accept]

theorem powerModeOwner_no_mode (t : Ticket) (a : List Byte) (s : State) (hlimp : limpOrHold s = false)
    (hm : powerModeOf (argNat a 0) = none) : powerModeOwner t a s = .reply .badArgument [] s := by
  simp [powerModeOwner, hlimp, hm, refuse]

theorem powerModeOf_eq_none (n : Nat) (h : 2 < n) : powerModeOf n = none := by
  match n with
  | n + 3 => rfl

/-- TABLE_RECALL's answer for a descriptor in use, by its option and its fixed value. -/
theorem tableRecallOwner_of_descriptor (t : Ticket) (a : List Byte) (s : State) (d : Descriptor)
    (hlimp : limpOrHold s = false) (hlevel : holds s t.station .technician = true)
    (hd : s.pose.descriptors[argNat a 0]? = some d) (hlimit : d.config.limit ≠ 0) :
    tableRecallOwner t a s =
      if argNat a 1 = 0 then
        doneRecall (argNat a 0) d (d.recalled s.config.pool (boundInput s (argNat a 0))) (renewGrant t.station s)
      else if argNat a 1 = 1 ∧ 4 ≤ a.length ∧ inPointRange (argNat a 0) (argS16 a 2) = true then
        doneRecall (argNat a 0) d (d.fixedTo (argS16 a 2)) (renewGrant t.station s)
      else .reply .badArgument [] (renewGrant t.station s) := by
  have hd' : (renewGrant t.station s).pose.descriptors[argNat a 0]? = some d := hd
  unfold tableRecallOwner
  dsimp only
  rw [if_neg (by simp [hlimp]), checkLevel_passed _ _ _ _ hlevel (by decide), hd']
  dsimp only
  rw [if_neg (by simpa using hlimit)]
  split
  next h0 => rw [if_pos h0]; rfl
  next h1 =>
    have hn : ¬ argNat a 1 = 0 := by omega
    rw [if_neg hn]
    by_cases hfix : 4 ≤ a.length ∧ inPointRange (argNat a 0) (argS16 a 2) = true
    · have hok : ¬ (a.length < 4 || !inPointRange (argNat a 0) (argS16 a 2)) = true := by simp [hfix]
      rw [if_neg hok, if_pos ⟨h1, hfix⟩]
    · have hbad : (a.length < 4 || !inPointRange (argNat a 0) (argS16 a 2)) = true := by
        by_contra h
        exact hfix (by simpa using h)
      rw [if_pos hbad, if_neg (fun h => hfix h.2)]
      rfl
  next h0 h1 => rw [if_neg h0, if_neg (fun h => h1 h.1)]; rfl

theorem tableRecallOwner_unknown (t : Ticket) (a : List Byte) (s : State) (hlimp : limpOrHold s = false)
    (hlevel : holds s t.station .technician = true)
    (hd : ∀ d, s.pose.descriptors[argNat a 0]? = some d → d.config.limit = 0) :
    tableRecallOwner t a s = .reply .unknownRecord [] (renewGrant t.station s) := by
  have hd' : ∀ d, (renewGrant t.station s).pose.descriptors[argNat a 0]? = some d → d.config.limit = 0 := hd
  unfold tableRecallOwner
  dsimp only
  rw [if_neg (by simp [hlimp]), checkLevel_passed _ _ _ _ hlevel (by decide)]
  split
  next => rfl
  next d h => rw [if_pos (by simpa using hd' d h)]; rfl

theorem tableRecallOwner_below (t : Ticket) (a : List Byte) (s : State) (hlimp : limpOrHold s = false)
    (hlevel : holds s t.station .technician = false) :
    tableRecallOwner t a s = .reply .refusedLevel [] s := by
  unfold tableRecallOwner
  dsimp only
  rw [if_neg (by simp [hlimp]), checkLevel_refused _ _ _ _ hlevel]

/-- POWER_MODE of a mode that exists is Done unless the derate stands against it. -/
theorem exec_powerMode_done (r : Request) (s : State) (mode : PowerMode) (hlimp : limpOrHold s = false)
    (ht : taken 16#8 r s = true) (hm : powerModeOf (argNat r.args 0) = some mode)
    (hderate : s.service.derate = true → mode = .economy) :
    let u := { noted r s with economy := { s.economy with requested := mode } }
    exec (.powerMode r) s = doneWith 16#8 [byte mode.num, byte (modeInForce u).num] r s u := by
  refine repliedWith_of_owner 16#8 powerModeOwner _ r s _ _ _ ht rfl ?_
  rw [powerModeOwner_of_mode _ _ _ mode (by simpa using hlimp) hm,
    if_neg (by rw [noted_service]; exact fun h => h.2 (hderate h.1)), noted_economy]
  rfl

theorem exec_powerMode_derated (r : Request) (s : State) (hlimp : limpOrHold s = false)
    (ht : taken 16#8 r s = true) (hm : argNat r.args 0 = 0 ∨ argNat r.args 0 = 1)
    (hderate : s.service.derate = true) :
    exec (.powerMode r) s = repliedWith 16#8 .refusedState [] r s (noted r s) := by
  have hmode : ∃ mode, powerModeOf (argNat r.args 0) = some mode ∧ mode ≠ .economy := by
    rcases hm with h | h <;> rw [h]
    · exact ⟨.heavy, rfl, by decide⟩
    · exact ⟨.standard, rfl, by decide⟩
  obtain ⟨mode, hm, hne⟩ := hmode
  refine repliedWith_of_owner 16#8 powerModeOwner _ r s _ _ _ ht rfl ?_
  rw [powerModeOwner_of_mode _ _ _ mode (by simpa using hlimp) hm,
    if_pos ⟨by rw [noted_service]; exact hderate, hne⟩]

theorem exec_powerMode_badArgument (r : Request) (s : State) (hlimp : limpOrHold s = false)
    (ht : taken 16#8 r s = true) (hm : 2 < argNat r.args 0) :
    exec (.powerMode r) s = repliedWith 16#8 .badArgument [] r s (noted r s) :=
  repliedWith_of_owner 16#8 powerModeOwner _ r s _ _ _ ht rfl
    (powerModeOwner_no_mode _ _ _ (by simpa using hlimp) (powerModeOf_eq_none _ hm))

section
variable (r : Request) (s : State) (d : Descriptor) (hlimp : limpOrHold s = false) (ht : taken 17#8 r s = true)
  (hlevel : holds s r.station .technician = true) (hd : s.pose.descriptors[argNat r.args 0]? = some d)
  (hlimit : d.config.limit ≠ 0)
include hlimp hlevel hd hlimit

/-- TABLE_RECALL's owner at a taken request for a descriptor in use. -/
theorem tableRecallOwner_noted :
    tableRecallOwner (ticketOf 17#8 r s) r.args (noted r s) =
      if argNat r.args 1 = 0 then
        doneRecall (argNat r.args 0) d (d.recalled s.config.pool (boundInput s (argNat r.args 0))) (leveled r s)
      else if argNat r.args 1 = 1 ∧ 4 ≤ r.args.length ∧ inPointRange (argNat r.args 0) (argS16 r.args 2) = true then
        doneRecall (argNat r.args 0) d (d.fixedTo (argS16 r.args 2)) (leveled r s)
      else .reply .badArgument [] (leveled r s) := by
  rw [tableRecallOwner_of_descriptor _ _ _ d (by simpa using hlimp)
    (by rw [noted_holds]; exact hlevel) (by rw [noted_pose]; exact hd) hlimit, noted_boundInput, noted_config]
  rfl

include ht

theorem exec_tableRecall_enabled (h0 : argNat r.args 1 = 0) :
    let new := d.recalled s.config.pool (boundInput s (argNat r.args 0))
    exec (.tableRecall r) s = doneWith 17#8
      ([byte (argNat r.args 0), if new.enabled then 0#8 else 1#8] ++ signed16 new.held ++ [flagByte new.clamped]) r s
      (recallPose (argNat r.args 0) (setDescriptor (argNat r.args 0) d new (leveled r s))) := by
  refine repliedWith_of_owner 17#8 tableRecallOwner _ r s _ _ _ ht rfl ?_
  rw [tableRecallOwner_noted r s d hlimp hlevel hd hlimit, if_pos h0]
  rfl

theorem exec_tableRecall_fixed (h1 : argNat r.args 1 = 1) (hlen : 4 ≤ r.args.length)
    (hrange : inPointRange (argNat r.args 0) (argS16 r.args 2) = true) :
    let new := d.fixedTo (argS16 r.args 2)
    exec (.tableRecall r) s = doneWith 17#8
      ([byte (argNat r.args 0), if new.enabled then 0#8 else 1#8] ++ signed16 new.held ++ [flagByte new.clamped]) r s
      (recallPose (argNat r.args 0) (setDescriptor (argNat r.args 0) d new (leveled r s))) := by
  refine repliedWith_of_owner 17#8 tableRecallOwner _ r s _ _ _ ht rfl ?_
  rw [tableRecallOwner_noted r s d hlimp hlevel hd hlimit, if_neg (by omega), if_pos ⟨h1, hlen, hrange⟩]
  rfl

theorem exec_tableRecall_badArgument
    (hbad : 1 < argNat r.args 1 ∨ (argNat r.args 1 = 1
      ∧ (r.args.length < 4 ∨ inPointRange (argNat r.args 0) (argS16 r.args 2) = false))) :
    exec (.tableRecall r) s = repliedWith 17#8 .badArgument [] r s (leveled r s) := by
  refine repliedWith_of_owner 17#8 tableRecallOwner _ r s _ _ _ ht rfl ?_
  rw [tableRecallOwner_noted r s d hlimp hlevel hd hlimit, if_neg (by omega), if_neg]
  rintro ⟨h1, hlen, hrange⟩
  rcases hbad with h | ⟨-, h | h⟩
  · omega
  · omega
  · exact absurd hrange (by simp [h])

end

theorem exec_tableRecall_unknown (r : Request) (s : State) (hlimp : limpOrHold s = false)
    (ht : taken 17#8 r s = true) (hlevel : holds s r.station .technician = true)
    (hd : ∀ d, s.pose.descriptors[argNat r.args 0]? = some d → d.config.limit = 0) :
    exec (.tableRecall r) s = repliedWith 17#8 .unknownRecord [] r s (leveled r s) :=
  repliedWith_of_owner 17#8 tableRecallOwner _ r s _ _ _ ht rfl
    (tableRecallOwner_unknown _ _ _ (by simpa using hlimp) (by rw [noted_holds]; exact hlevel)
      (by rw [noted_pose]; exact hd))

theorem refusedBelow_tableRecall : RefusedBelow .technician [(17#8, .tableRecall)] := by
  refine refusedBelow_of_owners _ _ fun x hx => ?_
  obtain rfl := List.mem_singleton.1 hx
  refine ⟨tableRecallOwner, fun _ _ => rfl, fun t a s hlimp _ hlevel => ?_⟩
  exact tableRecallOwner_below t a s (hlimp.resolve_left (by decide)) hlevel

/-- Settles O40: each answer is its owner's at a taken request; the rest are equations of the mode and the idle
speed. -/
theorem modeAndRecallRequests : Obligations.ModeAndRecallRequests := by
  refine ⟨fun r s hlimp => ⟨fun mode ht hm hderate => exec_powerMode_done r s mode hlimp ht hm hderate,
      fun d ht hlevel => ?_⟩,
    fun r s hlimp => ⟨exec_powerMode_badArgument r s hlimp, exec_powerMode_derated r s hlimp,
      exec_tableRecall_unknown r s hlimp⟩,
    refusedBelow_tableRecall, fun n => rfl, inPointRange_iff, fun s => ?_⟩
  · intro i finishes hd hlimit
    refine ⟨fun h0 hb => ?_, fun x h0 hb => ?_, fun h1 hlen hrange => ?_, fun hbad => ?_⟩
    · have h := exec_tableRecall_enabled r s d hlimp ht hlevel hd hlimit h0
      rw [hb] at h
      exact h
    · have h := exec_tableRecall_enabled r s d hlimp ht hlevel hd hlimit h0
      rw [hb] at h
      exact h
    · exact exec_tableRecall_fixed r s d hlimp ht hlevel hd hlimit h1 hlen hrange
    · exact exec_tableRecall_badArgument r s d hlimp ht hlevel hd hlimit hbad
  · refine ⟨?_, fun m => rfl, fun m => rfl, idleSpeed_of_output s, idleSpeed_fallback s, rfl⟩
    rw [modeInForce_eq]
    rfl

end Sys2Proof.Machine
end

section
/-! PROOFS. Topic clashes, the limits of an age, and what an entry that goes Lost makes (R158, R159, R166). -/

namespace Sys2Proof.Machine

/-! ## A topic clash (R166) -/

theorem clashHeard_foreign (topic : Nat) (s : State)
    (h : (publicationTopics s.bus.topics).contains topic = false) : clashHeard topic s = s := by
  unfold clashHeard
  rw [h]
  rfl

theorem clashHeard_listening (topic : Nat) (s : State)
    (h : (publicationTopics s.bus.topics).contains topic = true) (hl : listening s = true) :
    clashHeard topic s = endStart true (pulseFault .topicClash (.topic topic) s) := by
  unfold clashHeard
  rw [h, hl]
  rfl

theorem clashHeard_receiving (topic : Nat) (s : State)
    (h : (publicationTopics s.bus.topics).contains topic = true) (hl : listening s = false)
    (hr : receiving s = true) :
    clashHeard topic s = if s.power = .running ∧ s.bus.topics.cutDemand = some topic then
        enterHold (pulseFault .topicClash (.topic topic) s)
      else pulseFault .topicClash (.topic topic) s := by
  have hbus : (pulseFault .topicClash (.topic topic) s).bus = s.bus := rfl
  have hpower : (pulseFault .topicClash (.topic topic) s).power = s.power := rfl
  unfold clashHeard
  rw [h, hl, hr]
  simp [hbus, hpower]

/-! ## The limits of an age (R158) -/

theorem staleEntry_passed (i : Nat) (e : SubEntry) (s : State) (he : s.topics[i]? = some e)
    (hp : s.power = .running) (hr : e.config.role ≠ .request) (hf : e.state = .fresh)
    (hl : e.config.staleLimit ≤ s.now - e.ageFrom) :
    staleEntry i s = if isPoseRole e.config.role then gradeOnly (setTopic i { e with state := .stale } s)
      else setTopic i { e with state := .stale } s := by
  simp [staleEntry, he, hp, staleDue, graded, hr, hf, SubEntry.age, hl]

theorem lostEntry_passed (i : Nat) (e : SubEntry) (s : State) (he : s.topics[i]? = some e)
    (hp : s.power = .running) (hr : e.config.role ≠ .request)
    (hs : e.state = .never ∨ e.state = .recovering ∨ e.state = .stale)
    (hl : e.config.lostLimit ≤ s.now - e.ageFrom) :
    lostEntry i s
      = handLost e (report .topicLost (.topic e.config.topic) (setTopic i { e with state := .lost } s)) := by
  simp [lostEntry, he, hp, lostDue, graded, hr, or_assoc, hs, SubEntry.age, hl]

/-! ## The Lost event by role (R159) -/

theorem handLost_of_pose (e : SubEntry) (s : State) (h : isPoseRole e.config.role = true) :
    handLost e s = gradeOnly s := by
  unfold handLost
  revert h
  cases e.config.role <;> simp [isPoseRole, poseRoles]

/-- Grading without an arrival announces a change of quality alone (R8). -/
theorem gradeOnly_eq (s : State) :
    gradeOnly s = if (applyGrade s).pose.pose.quality = s.pose.pose.quality then applyGrade s
      else announcePose s.pose.pose.quality (applyGrade s) := by
  unfold gradeOnly
  by_cases h : (applyGrade s).pose.pose.quality = s.pose.pose.quality
  · simp [h]
  · simp [h]

@[simp] theorem activityPresent_guidance (s : State) : (activityPresent s).guidance = s.guidance := by
  unfold activityPresent
  split <;> rfl

theorem abandonCycle_eq (s : State) :
    abandonCycle s = setGuidance (if s.guidance.detector = .idle then s.guidance else
      { s.guidance with detector := .idle, digAngle := none, stageTimer := none, outcome := .abandoned }) s := by
  unfold abandonCycle
  by_cases h : s.guidance.detector = .idle
  · rw [if_pos h, if_pos (by simpa using h)]
    rfl
  · rw [if_neg h, if_neg (by simpa using h)]
    rfl

/-! ## The valve cut module falls silent (R62) -/

theorem cutMatters_iff (s : State) :
    cutMatters s = true ↔ (∃ l ∈ s.limits, l.config.action = .stop ∧ l.state ≠ .disabled)
      ∨ s.intervention.list ≠ [] := by
  simp [cutMatters]

theorem valveLost_supervised (s : State)
    (h : s.intervention.supervision = .settled ∨ s.intervention.supervision = .awaiting) :
    valveLost s = if cutMatters s = true then report .valveSilent (valveStation s)
        (setIntervention { s.intervention with supervision := .faulted, confirmed := false } s)
      else s := by
  rcases h with h | h <;> simp [valveLost, h]

theorem valveLost_of_faulted (s : State) (h : s.intervention.supervision = .faulted) :
    valveLost s = report .valveSilent (valveStation s) (enterHold s) := by
  simp [valveLost, h]

theorem valveLost_of_hold (s : State) (h : s.intervention.supervision = .hold) : valveLost s = s := by
  simp [valveLost, h]

/-! ## Steps of an event at the list (R50, R54) -/

/-- Notices join the event's notices in order, and nothing else changes. -/
theorem Work.foldl_notice (l : List Record) (f : Record → Record) (n : Record → Nat) (w : Work) :
    l.foldl (fun w r => w.notice (f r) (n r)) w
      = ⟨w.state, w.notices ++ l.map fun r => ((f r).seq, recordNoticeData (f r) (n r))⟩ := by
  induction l generalizing w with
  | nil => simp
  | cons r l ih => rw [List.foldl_cons, ih]; simp [Work.notice]

theorem Work.change_eq (p : Record → Bool) (f : Record → Record) (announce : Record → Bool) (w : Work) :
    w.change p f announce
      = ⟨setIntervention { w.state.intervention with list := mapWhere p f w.state.intervention.list } w.state,
          w.notices ++ (w.state.intervention.list.filter fun r => p r && announce r).map
            fun r => ((f r).seq, recordNoticeData (f r) (f r).state.num)⟩ :=
  Work.foldl_notice _ f (fun r => (f r).state.num) _

@[simp] theorem listEmpty_intervention (s : State) : (listEmpty s).intervention = s.intervention := by
  unfold listEmpty
  split <;> rfl

theorem Work.remove_list (p : Record → Bool) (w : Work) :
    (w.remove p).state.intervention.list = w.state.intervention.list.filter fun r => !p r := by
  refine (congrArg (·.state.intervention.list) (Work.foldl_notice _ id (fun _ => 4) _)).trans ?_
  dsimp only
  split
  · rw [listEmpty_intervention]; rfl
  · rfl

theorem Work.remove_notices (p : Record → Bool) (w : Work) :
    (w.remove p).notices = w.notices ++ (w.state.intervention.list.filter p).map
      fun r => (r.seq, recordNoticeData r 4) :=
  congrArg (·.notices) (Work.foldl_notice _ id (fun _ => 4) _)

/-! ## An EXT_CUT entry goes Lost (R49) -/

theorem ofStation_iff (st : Nat) (r : Record) :
    r.ofStation st = true ↔ r.kind = .externalStop ∧ r.source = some st := by
  simp [Record.ofStation]

theorem clear_silent_eq (r : Record) :
    { r.clear with cause := .externalSilent } = { r with
      cause := .externalSilent
      state := if r.state = .raised ∨ r.state = .confirmed then .clearable else r.state } := by
  unfold Record.clear RecordState.clearing
  cases hr : r.state <;> simp [hr, beq_eq_decide]

/-- The station's records become silent; those that were Raised or Confirmed become Clearable. -/
theorem Work.extLost_list (st : Nat) (w : Work) :
    (w.extLost st).state.intervention.list = w.state.intervention.list.map fun r =>
      if r.kind = .externalStop ∧ r.source = some st then
        { r with
          cause := .externalSilent
          state := if r.state = .raised ∨ r.state = .confirmed then .clearable else r.state }
      else r := by
  unfold Work.extLost
  rw [Work.change_eq]
  simp only [setIntervention_intervention, mapWhere, ofStation_iff, clear_silent_eq]

theorem Work.extLost_notices (st : Nat) (w : Work) :
    (w.extLost st).notices = w.notices ++ (w.state.intervention.list.filter fun r => r.ofStation st
        && (r.state == .raised || r.state == .confirmed)).map fun r =>
      (r.seq, recordNoticeData { r with cause := .externalSilent, state := .clearable } 2) := by
  unfold Work.extLost
  rw [Work.change_eq]
  refine congrArg (w.notices ++ ·) (List.map_congr_left fun r hr => ?_)
  have hc : r.state.clearing = true := (Bool.and_eq_true _ _ ▸ (List.mem_filter.1 hr).2).2
  unfold Record.clear
  rw [if_pos hc]
  rfl

theorem gradedBy_eq (x : Nat × SubEntry × SubEntry × Payload) (s : State) :
    gradedBy x s = if x.2.2.1.state = .fresh ∧ x.2.1.state ≠ .fresh then freshened x.2.2.1 (setTopic x.1 x.2.2.1 s)
      else setTopic x.1 x.2.2.1 s := by
  simp [gradedBy]

theorem freshened_eq (e : SubEntry) (s : State) :
    freshened e s = if e.config.role = .valveCut then
        endFault .valveSilent (.station e.config.station) (endFault .topicLost (.topic e.config.topic) s)
      else endFault .topicLost (.topic e.config.topic) s := by
  simp [freshened]

theorem handLost_of_engineRun (e : SubEntry) (s : State) (h : e.config.role = .engineRun) :
    handLost e s = engineStopped s := by
  simp only [handLost, h]

theorem handLost_of_extCut (e : SubEntry) (s : State) (h : e.config.role = .extCut) :
    handLost e s = interventionEvent (Work.extLost e.config.station) s := by
  simp only [handLost, h]

/-- No block takes these topics' Lost event. -/
theorem handLost_elsewhere (e : SubEntry) (s : State)
    (h : e.config.role ∈ [Role.engineFuel, .coolant, .pump, .timeSync]) : handLost e s = s := by
  unfold handLost
  revert h
  cases e.config.role <;> simp

theorem handLost_of_pilot (e : SubEntry) (s : State) (h : e.config.role = .pilot) :
    handLost e s = abandonCycle (activityPresent s) := by
  simp only [handLost, h]

theorem handLost_of_valveCut (e : SubEntry) (s : State) (h : e.config.role = .valveCut) :
    handLost e s = valveLost s := by
  simp only [handLost, h]

/-- Settles O51, with one equation for each command in effect and for each role of a Lost entry. -/
theorem clashesAndAges : Obligations.ClashesAndAges := by
  refine ⟨fun s => ⟨fun topic => ⟨fun h => ?_, fun h => ⟨fun hl => ?_, fun hl hr => ?_⟩⟩,
    fun i e he hp hr => ⟨fun hf hl => ?_, fun hs hl => ?_⟩⟩, fun e s => ⟨fun h => ?_, ?_, ?_, ?_, ?_, ?_⟩,
    fun x s => ?_⟩
  · show finish s (clashHeard topic s) = _
    rw [clashHeard_foreign topic s h]; rfl
  · show finish s (clashHeard topic s) = _
    rw [clashHeard_listening topic s h hl]; rfl
  · show finish s (clashHeard topic s) = _
    rw [clashHeard_receiving topic s h hl hr]; rfl
  · show finish s (staleEntry i s) = _
    rw [staleEntry_passed i e s he hp hr hf hl]; rfl
  · show finish s (lostEntry i s) = _
    rw [lostEntry_passed i e s he hp hr hs hl]; rfl
  · rw [handLost_of_pose e s h, gradeOnly_eq]
  · intro h
    rw [handLost_of_engineRun e s h, engineStopped_eq]
    rfl
  · intro h
    rw [handLost_of_pilot e s h, abandonCycle_eq, activityPresent_guidance]
    rfl
  · intro h
    rw [handLost_of_valveCut e s h]
    refine ⟨fun hs hm => ?_, fun hs hm => ?_, valveLost_of_faulted s, valveLost_of_hold s⟩
    · rw [valveLost_supervised s hs, if_pos ((cutMatters_iff s).2 hm)]
    · rw [valveLost_supervised s hs, if_neg (fun hc => hm ((cutMatters_iff s).1 hc))]
  · intro h
    exact ⟨handLost_of_extCut e s h, Work.extLost_list _ _, Work.extLost_notices _ _⟩
  · exact handLost_elsewhere e s
  · rw [gradedBy_eq]
    simp only [freshened_eq]

end Sys2Proof.Machine
end

section
/-! PROOFS. The timers at their expiry (R9, R60, R61, R68, R83, R92 to R94). -/

namespace Sys2Proof.Machine

/-! ## A timer that has fallen due (log 3) -/

theorem finish_whenDue (t : Option Nat) (f : State → State) (s : State) (h : due s.now t = true) :
    finish s (whenDue t f s) = .next (settle s (f s)) := by
  unfold whenDue
  rw [if_pos h]
  rfl

theorem confirmExpired_awaiting (s : State) (h : s.intervention.supervision = .awaiting) :
    confirmExpired s = report .cutUnconfirmed (valveStation s)
      (setIntervention { s.intervention with supervision := .faulted, confirmTimer := none } s) := by
  simp only [confirmExpired, h]

theorem confirmExpired_faulted (s : State) (h : s.intervention.supervision = .faulted) :
    confirmExpired s = report .cutUnconfirmed (valveStation s) (enterHold s) := by
  simp only [confirmExpired, h]

theorem stageExpired_in_cycle (s : State) (h : s.guidance.detector ≠ .idle) :
    stageExpired s = endCycle .timedOut s := by
  simp [stageExpired, h]

theorem waitExpired_idleWait (s : State) (h : s.economy.state = .idleWait) : waitExpired s = enterIdling s := by
  simp only [waitExpired, h]

theorem enterIdling_eq (s : State) :
    enterIdling s = setEconomy { s.economy with
      state := .idling, waitTimer := none, resumeTimer := none
      shutdownTimer := if s.config.economy.autoShutdown = 0 then none
        else some (s.now + 1000 * s.config.economy.autoShutdown) } s := by
  simp [enterIdling, EconomyUnit.enter]

theorem shutdownExpired_idling (s : State) (h : s.economy.state = .idling) :
    shutdownExpired s = enterEconomy .shutdownPending s := by
  simp only [shutdownExpired, h]

theorem resumeExpired_resuming (s : State) (h : s.economy.state = .resuming) :
    resumeExpired s = enterEconomy .working s := by
  simp only [resumeExpired, h]

/-! ## The end of an override (R68) -/

theorem exec_overrideTimerExpiry (n : Nat) (r : Record) (s : State) (hr : r ∈ s.intervention.list)
    (hn : r.seq = n) (hd : overrideDue s.now r = true) :
    exec (.overrideTimerExpiry n) s = .next (settle s (interventionEvent (Work.overrideExpired n) s)) := by
  have h : s.intervention.list.any (fun r => r.seq == n && overrideDue s.now r) = true :=
    List.any_eq_true.2 ⟨r, hr, by simp [hn, hd]⟩
  show finish s (ite _ _ _) = _
  rw [if_pos h]
  rfl

/-- The record whose breach is gone is removed; one whose breach stands is Raised again. -/
theorem Work.overrideExpired_list (n : Nat) (w : Work) :
    (w.overrideExpired n).state.intervention.list
      = (w.state.intervention.list.filter fun r => !(r.seq == n && r.breachGone)).map fun r =>
          if r.seq = n then { r with state := .raised, expiry := none, timerRuns := false } else r := by
  unfold Work.overrideExpired
  rw [Work.change_eq]
  simp only [setIntervention_intervention, mapWhere, Work.remove_list, beq_iff_eq]

/-- A removed record gives its Removed notice, and then one that is Raised again gives its own. -/
theorem Work.overrideExpired_notices (n : Nat) (w : Work) :
    (w.overrideExpired n).notices = w.notices
      ++ ((w.state.intervention.list.filter fun r => r.seq == n && r.breachGone).map fun r =>
          (r.seq, recordNoticeData r 4))
      ++ (w.state.intervention.list.filter fun r => r.seq == n && !r.breachGone).map fun r =>
          (r.seq, recordNoticeData { r with state := .raised, expiry := none, timerRuns := false } 0) := by
  have hfilter : ∀ r : Record, ((r.seq == n && true) && !(r.seq == n && r.breachGone))
      = (r.seq == n && !r.breachGone) := by
    intro r
    cases r.seq == n <;> simp
  unfold Work.overrideExpired
  rw [Work.change_eq]
  simp only [Work.remove_notices, Work.remove_list, List.filter_filter, hfilter, RecordState.num]

/-- Settles O52: a due timer runs its expiry, whose state says what it does. -/
theorem timersExpire : Obligations.TimersExpire := by
  refine ⟨fun s => ⟨finish_whenDue _ degradedExpired s, fun hd h => ?_, fun hd h => ?_,
    fun n r => exec_overrideTimerExpiry n r s,
    fun n => ⟨Work.overrideExpired_list n _, Work.overrideExpired_notices n _⟩⟩,
    fun s => ⟨fun hd h => ?_, fun hd h => ?_, fun hd h => ?_, fun hd h => ?_⟩⟩
  · exact (finish_whenDue _ confirmExpired s hd).trans (by rw [confirmExpired_awaiting s h])
  · exact (finish_whenDue _ confirmExpired s hd).trans (by rw [confirmExpired_faulted s h])
  · exact (finish_whenDue _ stageExpired s hd).trans (by rw [stageExpired_in_cycle s h]; rfl)
  · exact (finish_whenDue _ waitExpired s hd).trans (by rw [waitExpired_idleWait s h, enterIdling_eq])
  · exact (finish_whenDue _ shutdownExpired s hd).trans (by rw [shutdownExpired_idling s h]; rfl)
  · exact (finish_whenDue _ resumeExpired s hd).trans (by rw [resumeExpired_resuming s h]; rfl)

end Sys2Proof.Machine
end

section
/-! PROOFS. What the consumers of a pose update leave alone, and the pose inputs (R2 to R5, R11, R15). -/

namespace Sys2Proof.Machine

/-! ## What the consumers of a pose update only read -/

/-- The Topic Map, the pose, the clock, the waiting RESTART and the Access Table: no consumer of a pose update writes
them. -/
def sensed (s : State) : List SubEntry × PoseUnit × TimeBase × Option RestartWait × List Grant :=
  (s.topics, s.pose, s.time, s.restart, s.access)

theorem foldl_keeps {σ α β : Type} (g : σ → β) (f : σ → α → σ) (hf : ∀ s a, g (f s a) = g s) (l : List α) (s : σ) :
    g (l.foldl f s) = g s := by
  induction l generalizing s with
  | nil => rfl
  | cons a l ih => exact (ih (f s a)).trans (hf s a)

@[simp] theorem sensed_setEconomy (e : EconomyUnit) (s : State) : sensed (setEconomy e s) = sensed s := rfl
@[simp] theorem sensed_setService (u : ServiceUnit) (s : State) : sensed (setService u s) = sensed s := rfl
@[simp] theorem sensed_setMeterUnit (u : MeterUnit) (s : State) : sensed (setMeterUnit u s) = sensed s := rfl
@[simp] theorem sensed_setGuidance (g : GuidanceUnit) (s : State) : sensed (setGuidance g s) = sensed s := rfl
@[simp] theorem sensed_setIntervention (u : InterventionUnit) (s : State) :
    sensed (setIntervention u s) = sensed s := rfl
@[simp] theorem sensed_setLimit (i : Nat) (e : LimitEntry) (s : State) : sensed (setLimit i e s) = sensed s := rfl
@[simp] theorem sensed_setItem (i : Nat) (x : ServiceItem) (s : State) : sensed (setItem i x s) = sensed s := rfl
@[simp] theorem sensed_queueJob (j : Job) (s : State) : sensed (queueJob j s) = sensed s := rfl
@[simp] theorem sensed_placeContent (p : CyclicPub) (d : List Byte) (s : State) :
    sensed (placeContent p d s) = sensed s := rfl
@[simp] theorem sensed_report (c : FaultCode) (f : FaultSource) (s : State) :
    sensed (report c f s) = sensed s := rfl
@[simp] theorem sensed_useFree (s : State) : sensed (useFree s) = sensed s := rfl

/-! ### Notices -/

@[simp] theorem sensed_queueWarning (n : WarnNotice) (s : State) : sensed (queueWarning n s) = sensed s := by
  unfold queueWarning
  dsimp only
  split <;> rfl

@[simp] theorem sensed_queueRecordNotice (n : Nat) (d : List Byte) (s : State) :
    sensed (queueRecordNotice n d s) = sensed s := by
  unfold queueRecordNotice
  split <;> rfl

@[simp] theorem sensed_queueServiceNotice (i : Nat) (x : ServiceItem) (k : ServiceNoticeKind) (s : State) :
    sensed (queueServiceNotice i x k s) = sensed s := by
  unfold queueServiceNotice
  split <;> rfl

/-! ### The Service and Meter Units -/

@[simp] theorem sensed_wantServiceJob (s : State) : sensed (wantServiceJob s) = sensed s := by
  unfold wantServiceJob
  dsimp only
  split
  · rfl
  · split <;> rfl

@[simp] theorem sensed_formDerate (s : State) : sensed (formDerate s) = sensed s := rfl

@[simp] theorem sensed_restand (i : Nat) (x : ServiceItem) (m d : Standing) (s : State) :
    sensed (restand i x m d s) = sensed s := by
  unfold restand
  dsimp only
  repeat' split
  all_goals simp

theorem sensed_forItems (f : Nat → ServiceItem → State → State) (hf : ∀ i x s, sensed (f i x s) = sensed s)
    (s : State) : sensed (forItems f s) = sensed s := by
  refine foldl_keeps sensed _ (fun s i => ?_) _ s
  split
  · exact hf _ _ s
  · rfl

@[simp] theorem sensed_serviceMeter (n : Nat) (s : State) : sensed (serviceMeter n s) = sensed s := by
  refine sensed_forItems _ (fun i x s => ?_) s
  split
  · exact sensed_restand _ _ _ _ s
  · rfl

@[simp] theorem sensed_announceMeter (n : Nat) (s : State) : sensed (announceMeter n s) = sensed s := by
  unfold announceMeter
  split
  · exact sensed_serviceMeter n s
  · rfl

@[simp] theorem sensed_meterCycle (s : State) : sensed (meterCycle s) = sensed s := by
  unfold meterCycle
  split
  · rfl
  · exact sensed_announceMeter _ _

/-! ### The Economy and Guidance Units -/

@[simp] theorem sensed_listNonEmpty (s : State) : sensed (listNonEmpty s) = sensed s := by
  unfold listNonEmpty
  split <;> rfl

@[simp] theorem sensed_listEmpty (s : State) : sensed (listEmpty s) = sensed s := by
  unfold listEmpty
  split <;> rfl

@[simp] theorem sensed_economyForced (s : State) : sensed (economyForced s) = sensed s := rfl
@[simp] theorem sensed_economyRaise (s : State) : sensed (economyRaise s) = sensed s := rfl
@[simp] theorem sensed_economyCycle (s : State) : sensed (economyCycle s) = sensed s := rfl
@[simp] theorem sensed_scanAndForm (s : State) : sensed (scanAndForm s) = sensed s := rfl
@[simp] theorem sensed_enterStage (d : Detector) (s : State) : sensed (enterStage d s) = sensed s := rfl
@[simp] theorem sensed_endCycle (o : CycleOutcome) (s : State) : sensed (endCycle o s) = sensed s := rfl

@[simp] theorem sensed_abandonCycle (s : State) : sensed (abandonCycle s) = sensed s := by
  unfold abandonCycle
  split <;> rfl

@[simp] theorem sensed_completeCycle (s : State) : sensed (completeCycle s) = sensed s := by
  simp [completeCycle]

@[simp] theorem sensed_testReturn (s : State) : sensed (testReturn s) = sensed s := by
  unfold testReturn
  split
  · rfl
  · exact sensed_completeCycle s

@[simp] theorem sensed_detectorPose (s : State) : sensed (detectorPose s) = sensed s := by
  unfold detectorPose
  repeat' split
  all_goals simp

@[simp] theorem sensed_guidancePose (s : State) : sensed (guidancePose s) = sensed s := by
  simp [guidancePose]

/-! ### The Intervention Unit -/

@[simp] theorem sensed_formSets (s : State) : sensed (formSets s) = sensed s := by
  unfold formSets
  dsimp only
  repeat' split
  all_goals simp

@[simp] theorem sensed_enterHold (s : State) : sensed (enterHold s) = sensed s := by
  unfold enterHold
  split
  · rfl
  · simp

@[simp] theorem sensed_exhaustSequence (s : State) : sensed (exhaustSequence s) = sensed s := by
  simp [exhaustSequence]

@[simp] theorem sensed_notice (w : Work) (r : Record) (n : Nat) :
    sensed (w.notice r n).state = sensed w.state := rfl

@[simp] theorem sensed_change (p : Record → Bool) (f : Record → Record) (a : Record → Bool) (w : Work) :
    sensed (w.change p f a).state = sensed w.state := by
  rw [Work.change_eq]
  rfl

@[simp] theorem sensed_remove (p : Record → Bool) (w : Work) : sensed (w.remove p).state = sensed w.state := by
  refine (congrArg (fun w : Work => sensed w.state) (Work.foldl_notice _ id (fun _ => 4) _)).trans ?_
  dsimp only
  split <;> simp

@[simp] theorem sensed_raise (k : RecordKind) (src : Option Nat) (c : RecordCause) (b : MotionSet) (w : Work) :
    sensed (w.raise k src c b).state = sensed w.state := by
  unfold Work.raise
  dsimp only
  split
  · rfl
  · rw [sensed_notice]
    dsimp only
    repeat' split
    all_goals simp

theorem sensed_unlessHold (f : Work → Work) (w : Work) (hf : sensed (f w).state = sensed w.state) :
    sensed (w.unlessHold f).state = sensed w.state := by
  unfold Work.unlessHold
  split
  · rfl
  · exact hf

@[simp] theorem sensed_raiseRequest (i : Nat) (k : RecordKind) (c : BreachCause) (b : MotionSet) (w : Work) :
    sensed (w.raiseRequest i k c b).state = sensed w.state := by
  unfold Work.raiseRequest Work.setCause
  split <;> simp

@[simp] theorem sensed_breachReport (i : Nat) (gone : Bool) (w : Work) :
    sensed (w.breachReport i gone).state = sensed w.state := by
  unfold Work.breachReport
  split <;> simp

@[simp] theorem sensed_lossOfPose (w : Work) : sensed w.lossOfPose.state = sensed w.state := by
  unfold Work.lossOfPose
  repeat' split
  all_goals simp

@[simp] theorem sensed_poseQuality (before : PoseQuality) (w : Work) :
    sensed (w.poseQuality before).state = sensed w.state := by
  refine sensed_unlessHold _ w ?_
  repeat' split
  all_goals simp

@[simp] theorem sensed_take (w : Work) (h : Handed) : sensed (w.take h).state = sensed w.state := by
  refine sensed_unlessHold _ w ?_
  cases h <;> simp [Work.setCause]

@[simp] theorem sensed_takes (l : List Handed) (w : Work) :
    sensed (l.foldl Work.take w).state = sensed w.state :=
  foldl_keeps (fun w : Work => sensed w.state) Work.take sensed_take l w

@[simp] theorem sensed_close (w : Work) : sensed w.close = sensed w.state := by
  refine (foldl_keeps sensed _ (fun s n => sensed_queueRecordNotice _ _ s) _ _).trans ?_
  split
  · rfl
  · exact sensed_formSets _

theorem sensed_interventionEvent (f : Work → Work) (hf : ∀ w, sensed (f w).state = sensed w.state) (s : State) :
    sensed (interventionEvent f s) = sensed s :=
  (sensed_close _).trans (sensed_unlessHold f ⟨s, []⟩ (hf _))

/-! ### The Envelope Unit, and all the consumers together -/

@[simp] theorem sensed_evaluateEntry (i : Nat) (e : LimitEntry) (s : State) :
    sensed (evaluateEntry i e s).1 = sensed s := by
  unfold evaluateEntry
  dsimp only
  split <;> simp

@[simp] theorem sensed_evaluateAll (s : State) : sensed (evaluateAll s).1 = sensed s := by
  refine foldl_keeps (fun x : State × List Handed => sensed x.1) _ (fun x i => ?_) _ _
  dsimp only
  repeat' split
  all_goals simp

@[simp] theorem sensed_envelopePose (s : State) : sensed (envelopePose s).1 = sensed s := by
  unfold envelopePose
  split
  · rfl
  · exact sensed_evaluateAll s

/-- The consumers of a pose update leave alone what they only read. -/
theorem sensed_consumePose (before : PoseQuality) (s : State) : sensed (consumePose before s) = sensed s := by
  unfold consumePose
  dsimp only
  refine (sensed_interventionEvent _ (fun w => by simp) _).trans ?_
  rw [sensed_guidancePose]
  repeat' split
  all_goals simp

theorem consumePose_pose (before : PoseQuality) (s : State) : (consumePose before s).pose = s.pose :=
  congrArg (·.2.1) (sensed_consumePose before s)

/-! ## Recalls (R11, R15) -/

/-- A descriptor's change is its place's change alone, with TableClamped as its Clamped flag begins or ends. -/
theorem setDescriptor_eq (i : Nat) (old new : Descriptor) (s : State) :
    setDescriptor i old new s =
      if old.clamped = new.clamped then setPoseUnit { s.pose with descriptors := s.pose.descriptors.set i new } s
      else if new.clamped = true then
        report .tableClamped (.descriptor i) (setPoseUnit { s.pose with descriptors := s.pose.descriptors.set i new } s)
      else
        endFault .tableClamped (.descriptor i)
          (setPoseUnit { s.pose with descriptors := s.pose.descriptors.set i new } s) := by
  unfold setDescriptor
  cases old.clamped <;> cases new.clamped <;> rfl

theorem recallLookup_absent (i : Nat) (x : Int) (s : State) (h : s.pose.descriptors[i]? = none) :
    recallLookup i x s = s := by
  simp [recallLookup, h]

theorem recallLookup_of_descriptor (i : Nat) (x : Int) (s : State) (d : Descriptor)
    (h : s.pose.descriptors[i]? = some d) :
    recallLookup i x s = if d.enabled = true then setDescriptor i d (d.looked s.config.pool x) s else s := by
  unfold recallLookup
  rw [h]

/-! ## The solve (R4, R5) -/

theorem solvePose_of_payloads (s : State) (boom arm stroke rate pitch roll : Int) (slew : BinAngle)
    (hb : payloadOf s .boomPos = some (.boomPos boom)) (ha : payloadOf s .armPos = some (.armPos arm))
    (hl : payloadOf s .bucketLink = some (.bucketLink stroke))
    (hs : payloadOf s .slewPos = some (.slewPos slew rate))
    (ht : payloadOf s .chassisTilt = some (.chassisTilt pitch roll)) :
    solvePose s = some (solved s.pose.pose s.config.geometry boom arm ((heldOutput s 0).getD 0) pitch roll slew
      rate) := by
  unfold solvePose
  rw [hb, ha, hl, hs, ht]

/-- Without one of the five payloads there is no solve (R2). -/
theorem solvePose_none (s : State) (role : Role) (hr : isPoseRole role = true) (hp : payloadOf s role = none) :
    solvePose s = none := by
  have hmem : role ∈ poseRoles := List.contains_iff_mem.1 hr
  unfold solvePose
  split
  next hb ha hl hs ht =>
    simp only [poseRoles, List.mem_cons, List.not_mem_nil, or_false] at hmem
    rcases hmem with rfl | rfl | rfl | rfl | rfl <;> simp_all
  next => rfl

/-! ## Solving, grading and announcing (R2, R3) -/

theorem announcePose_pose (before : PoseQuality) (s : State) :
    (announcePose before s).pose = { s.pose with
      pose := { s.pose.pose with updates := s.pose.pose.updates + 1 } } :=
  consumePose_pose before _

theorem solveAndGrade_of_solve (s : State) (q : PoseRecord) (h : solvePose s = some q) :
    solveAndGrade s
      = announcePose s.pose.pose.quality (applyGrade (setPoseUnit { s.pose with pose := q } s)) := by
  unfold solveAndGrade
  rw [h]

/-- Without a solve the pose is graded alone. -/
theorem solveAndGrade_no_solve (s : State) (h : solvePose s = none) : solveAndGrade s = gradeOnly s := by
  unfold solveAndGrade gradeOnly
  rw [h]

/-! ## The arrival of a pose input (R2) -/

/-- The role whose frames carry a payload. -/
def Payload.role : Payload → Role
  | .boomPos _ => .boomPos
  | .armPos _ => .armPos
  | .bucketLink _ => .bucketLink
  | .slewPos _ _ => .slewPos
  | .chassisTilt _ _ => .chassisTilt
  | .engineRun _ _ => .engineRun
  | .engineFuel _ => .engineFuel
  | .coolant _ => .coolant
  | .pump _ => .pump
  | .pilot _ _ => .pilot
  | .valveCut _ _ => .valveCut
  | .extCut _ => .extCut
  | .timeSync _ => .timeSync

/-- A role's data bytes decode to that role's payload. -/
theorem decodePayload_role (role : Role) (data : List Byte) (y : Payload) (h : decodePayload role data = some y) :
    y.role = role := by
  unfold decodePayload at h
  split at h
  all_goals (repeat' split at h)
  all_goals cases h
  all_goals rfl

/-- An accepted frame carries the payload of its topic's role. -/
theorem accepted_payload_role (role : Role) (station : Option Nat) (f : Frame) (s : State)
    (x : Nat × SubEntry × SubEntry × Payload) (h : accepted role station f s = some x) : x.2.2.2.role = role := by
  unfold accepted at h
  split at h
  · split at h
    · rename_i i e y hi he hy
      obtain ⟨new, -, rfl⟩ := Option.map_eq_some_iff.1 h
      unfold framePayload at hy
      split at hy
      · exact decodePayload_role role _ _ hy
      · cases hy
    · cases h
  · cases h

theorem isPoseRole_role (p : PoseRole) : isPoseRole p.role = true := by
  cases p <;> rfl

/-- The Pose Unit takes the payloads of the pose-input roles. -/
theorem handArrival_of_pose (station : Nat) (y : Payload) (s : State) (h : isPoseRole y.role = true) :
    handArrival station y s = poseArrival y s := by
  cases y
  case boomPos | armPos | bucketLink | slewPos | chassisTilt => rfl
  all_goals simp [isPoseRole, poseRoles, Payload.role] at h

theorem exec_poseInputArrival (p : PoseRole) (f : Frame) (s : State) (x : Nat × SubEntry × SubEntry × Payload)
    (h : accepted p.role none f s = some x) :
    exec (.poseInputArrival p f) s = .next (settle s (poseArrival x.2.2.2 (gradedBy x s))) := by
  have hrole : isPoseRole x.2.2.2.role = true := by
    rw [accepted_payload_role _ _ _ _ _ h]
    exact isPoseRole_role p
  rw [← handArrival_of_pose x.2.1.config.station _ _ hrole]
  exact finish_takeFrame p.role none f s x h

/-- Settles O45: the arrival is handed to the Pose Unit, whose steps have one equation each; its
consumers keep the pose. -/
theorem poseInputSolves : Obligations.PoseInputSolves := by
  refine ⟨fun p f s x h => ?_, fun before s => ⟨rfl, announcePose_pose before s⟩,
    fun s => ⟨solveAndGrade_of_solve s, fun hn hq => ?_, fun hn hq => ?_⟩, fun s => ?_,
    fun s => ⟨solvePose_of_payloads s, solvePose_none s⟩,
    fun i x s => ⟨recallLookup_absent i x s, fun d hd => ⟨fun he => ?_, fun he => ?_⟩⟩,
    fun i old new s => ⟨fun hc => ?_, fun ho hn => ?_, fun ho hn => ?_⟩⟩
  · rw [exec_poseInputArrival p f s x h]
    refine ⟨fun q hq => ?_, fun hn => ?_⟩
    · exact congrArg (fun u => Host.Outcome.next (settle s u)) (solveAndGrade_of_solve _ q hq)
    · exact congrArg (fun u => Host.Outcome.next (settle s u))
        ((solveAndGrade_no_solve _ hn).trans (gradeOnly_eq _))
  · rw [solveAndGrade_no_solve s hn, gradeOnly_eq, if_pos hq]
  · rw [solveAndGrade_no_solve s hn, gradeOnly_eq, if_neg hq]
  · dsimp only
    rw [applyGrade_pose]
    exact ⟨rfl, fun hv hl => (applyGrade_eq s).trans (if_pos ⟨hv, hl⟩),
      fun hn => (applyGrade_eq s).trans (if_neg hn)⟩
  · rw [recallLookup_of_descriptor i x s d hd, if_neg (by simp [he])]
  · rw [recallLookup_of_descriptor i x s d hd, if_pos he]
    rfl
  · rw [setDescriptor_eq, if_pos hc.symm]
  · rw [setDescriptor_eq, if_neg (by simp [ho, hn]), if_pos hn]
  · rw [setDescriptor_eq, if_neg (by simp [ho, hn]), if_neg (by simp [hn])]

end Sys2Proof.Machine
end

section
/-! PROOFS. Clearances, the predicted stop angle, the scope sector and the state table of an envelope entry
(R20 to R26). -/

namespace Sys2Proof.Machine

/-! ## Binary angles -/

theorem signedDiff_bounds (a b : BinAngle) : -32768 ≤ signedDiff a b ∧ signedDiff a b ≤ 32767 := by
  have hlow := BitVec.le_toInt (a - b)
  have hhigh := BitVec.toInt_lt (x := a - b)
  unfold signedDiff
  omega

/-- The signed difference is congruent to the difference of the angles (R23). -/
theorem signedDiff_congruent (a b : BinAngle) : ((a.toNat : Int) - b.toNat - signedDiff a b) % 65536 = 0 := by
  unfold signedDiff
  rw [BitVec.toInt_eq_toNat_cond, BitVec.toNat_sub]
  have ha := a.isLt
  have hb := b.isLt
  split <;> omega

/-! ## Clearances (R21, R23) -/

/-- The clearance of an entry, by its kind. -/
theorem clearance_eq (s : State) (c : LimitConfig) : clearance s c = match c.kind with
    | .heightCeiling => c.value - s.pose.pose.top
    | .depthFloor => s.pose.pose.tip - c.value
    | .reachWall => c.value - s.pose.pose.reach
    | .slewCcwStop => signedDiff (BitVec.ofInt 16 c.value) (predictedStop s)
    | .slewCwStop => signedDiff (predictedStop s) (BitVec.ofInt 16 c.value) := rfl

theorem actualClearance_eq (s : State) (c : LimitConfig) : actualClearance s c = match c.kind with
    | .heightCeiling => c.value - s.pose.pose.top
    | .depthFloor => s.pose.pose.tip - c.value
    | .reachWall => c.value - s.pose.pose.reach
    | .slewCcwStop => signedDiff (BitVec.ofInt 16 c.value) s.pose.pose.slewAngle
    | .slewCwStop => signedDiff s.pose.pose.slewAngle (BitVec.ofInt 16 c.value) := rfl

/-- The clearance of a linear kind is the distance of its measured quantity from its line. -/
theorem clearance_linear (s : State) (c : LimitConfig) (h : c.kind.isSlew = false) :
    clearance s c = if c.kind = .depthFloor then measured s c.kind - c.value else c.value - measured s c.kind := by
  rw [clearance_eq]
  cases hk : c.kind <;> simp [hk, LimitKind.isSlew, measured] at h ⊢

theorem causeOf_eq (s : State) (c : LimitConfig) :
    causeOf s c = if c.kind.isSlew = true ∧ 0 < actualClearance s c then .predictedBreach else .breach := by
  simp [causeOf]

/-- Settles O20: each linear clearance is a difference, read off its kind. -/
theorem linearClearances : Obligations.LinearClearances := by
  intro s c
  refine ⟨fun hk => ?_, fun hk => ?_, fun hk => ?_, fun hk hv hv' hm hm' => ?_⟩
  · rw [clearance_eq, hk]
    exact ⟨rfl, sub_nonpos⟩
  · rw [clearance_eq, hk]
    exact ⟨rfl, sub_nonpos⟩
  · rw [clearance_eq, hk]
    exact ⟨rfl, sub_nonpos⟩
  · rw [clearance_linear s c hk]
    split <;> omega

/-- Settles O21: the wrap of a difference, and the two slew kinds with their cause. -/
theorem slewClearances : Obligations.SlewClearances := by
  intro s c
  refine ⟨fun a b => ⟨(signedDiff_bounds a b).1, (signedDiff_bounds a b).2, signedDiff_congruent a b⟩,
    fun hk => ?_, fun hk => ?_, fun hk ha => ?_, fun hk ha => ?_, fun hk => ?_⟩
  · rw [clearance_eq, actualClearance_eq, hk]
    exact ⟨rfl, rfl⟩
  · rw [clearance_eq, actualClearance_eq, hk]
    exact ⟨rfl, rfl⟩
  · rw [causeOf_eq, if_neg (fun h => absurd h.2 (by omega))]
  · rw [causeOf_eq, if_pos ⟨hk, ha⟩]
  · rw [causeOf_eq, if_neg (by simp [hk])]

/-! ## The predicted stop angle and the scope (R22, R24) -/

theorem stopDistance_toNat (s : State) (d : Nat) (h : heldOutput s 1 = some (d : Int)) (hd : d ≤ 16383) :
    (stopDistance s).toNat = d := by
  unfold stopDistance
  rw [h]
  simp only [BitVec.ofInt_natCast, BitVec.toNat_ofNat]
  omega

theorem predictedStop_eq (s : State) : predictedStop s =
    if 0 < s.pose.pose.slewRate then s.pose.pose.slewAngle + stopDistance s
    else if s.pose.pose.slewRate < 0 then s.pose.pose.slewAngle - stopDistance s
    else s.pose.pose.slewAngle := rfl

/-- Settles O22: addition and subtraction of binary angles, by the sign of the rate. -/
theorem predictedStopAngle : Obligations.PredictedStopAngle := by
  intro s d hheld hd
  have hstop := stopDistance_toNat s d hheld hd
  have hslew := s.pose.pose.slewAngle.isLt
  refine ⟨fun hpos => ?_, fun hneg => ?_, fun hzero => ?_⟩
  · rw [predictedStop_eq, if_pos hpos, BitVec.toNat_add, hstop]
    split <;> omega
  · rw [predictedStop_eq, if_neg (by omega), if_pos hneg, BitVec.toNat_sub, hstop]
    split <;> omega
  · rw [predictedStop_eq, if_neg (by omega), if_neg (by omega)]

/-- Settles O23: the scope test compares two differences of binary angles. -/
theorem scopeSector : Obligations.ScopeSector := by
  intro slew
  refine ⟨rfl, fun sc => ?_⟩
  have hstart := sc.start.isLt
  have hdiff : ∀ a : BinAngle, (a - sc.start).toNat = (a.toNat + 65536 - sc.start.toNat) % 65536 := by
    intro a
    rw [BitVec.toNat_sub]
    omega
  simp only [inScope, BitVec.ule, decide_eq_true_eq, hdiff]

/-! ## The state table (R20, R26) -/

theorem hysteresis_eq (kind : LimitKind) : kind.hysteresis = match kind with
    | .heightCeiling | .depthFloor | .reachWall => 50
    | .slewCcwStop | .slewCwStop => 182 := by
  cases kind <;> rfl

theorem limitNext_pending (c m h : Int) :
    limitNext .pending c m h = if h < c then (if m < c then .clear else .approach) else .pending := rfl

theorem limitNext_clear (c m h : Int) :
    limitNext .clear c m h = if c ≤ 0 then .breach else if c ≤ m then .approach else .clear := rfl

theorem limitNext_approach (c m h : Int) :
    limitNext .approach c m h = if c ≤ 0 then .breach else if m + h < c then .clear else .approach := rfl

theorem limitNext_breach (c m h : Int) :
    limitNext .breach c m h = if m + h < c then .clear else if h ≤ c then .approach else .breach := rfl

/-- Settles O24: each line of the table is a branch of its state's equation. -/
theorem limitStateTable : Obligations.LimitStateTable := by
  refine ⟨fun c m h hm hh => ?_, hysteresis_eq⟩
  simp only [limitNext_pending, limitNext_clear, limitNext_approach, limitNext_breach]
  refine ⟨fun h1 h2 => ?_, fun h1 h2 => ?_, fun h1 => ?_, fun h1 => ?_, fun h1 h2 => ?_, fun h1 => ?_, fun h1 => ?_,
    fun h1 => ?_, fun h1 h2 => ?_, fun h1 => ?_, fun h1 h2 => ?_, fun h1 => ?_⟩
  · rw [if_pos h1, if_pos h2]
  · rw [if_pos h1, if_neg (by omega)]
  · rw [if_neg (by omega)]
  · rw [if_pos h1]
  · rw [if_neg (by omega), if_pos h2]
  · rw [if_neg (by omega), if_neg (by omega)]
  · rw [if_pos h1]
  · rw [if_neg (by omega), if_pos h1]
  · rw [if_neg (by omega), if_neg (by omega)]
  · rw [if_pos h1]
  · rw [if_neg (by omega), if_pos h1]
  · rw [if_neg (by omega), if_neg (by omega)]

end Sys2Proof.Machine
end

section
/-! PROOFS. ACK_WARNING and ACK_REMINDER, of one entry and of all; when an entry is in warning (R31, R33, R63,
R147). -/

namespace Sys2Proof.Machine

/-! ## When an entry is in warning (R31, R33, R147) -/

theorem inWarning_iff (e : LimitEntry) : e.inWarning = true ↔ e.state = .approach ∨ e.state = .breach
    ∨ (e.state = .pending ∧ ∃ c, e.last = some c ∧ c ≤ e.config.margin) := by
  unfold LimitEntry.inWarning
  cases hstate : e.state with
  | pending => cases hlast : e.last <;> simp
  | _ => simp

theorem acknowledgeable_iff (e : LimitEntry) :
    e.acknowledgeable = true ↔ e.config.latch = .latched ∧ e.inWarning = false := by
  simp [LimitEntry.acknowledgeable]

theorem ackable_iff (o : Option ServiceItem) : ackable o = true ↔ ∃ item, o = some item ∧ item.state ≠ .ok := by
  cases o <;> simp [ackable]

/-! ## The owners of the two requests -/

/-- ACK_WARNING of one entry: refused to a Latched entry in warning; otherwise the flag of a Latched entry is
cleared and that of a Follow entry stands. -/
theorem ackWarningOwner_of_entry (t : Ticket) (a : List Byte) (s : State) (e : LimitEntry)
    (hlimp : limpOrHold s = false) (hi : argNat a 0 ≠ 255) (he : s.limits[argNat a 0]? = some e) :
    ackWarningOwner t a s = if e.config.latch = .latched ∧ e.inWarning = true then .reply .refusedState [] s
      else
        let flag := if e.config.latch = .latched then false else e.warning
        .reply .done [byte (argNat a 0), flagByte flag] (setLimit (argNat a 0) { e with warning := flag } s) := by
  simp only [ackWarningOwner, hlimp, he, beq_iff_eq, if_neg hi, Bool.false_eq_true, ↓reduceIte]
  cases e.config.latch <;> cases e.inWarning <;> simp [refuse, accept, beq_eq_decide]

theorem ackWarningOwner_all (t : Ticket) (a : List Byte) (s : State) (hlimp : limpOrHold s = false)
    (hi : argNat a 0 = 255) : ackWarningOwner t a s
      = .reply .done (le 2 (s.limits.filter fun e => e.acknowledgeable && e.warning).length)
          { s with limits := s.limits.map fun e => if e.acknowledgeable then { e with warning := false } else e } := by
  simp only [ackWarningOwner, hlimp, hi]
  rfl

theorem ackWarningOwner_unknown (t : Ticket) (a : List Byte) (s : State) (hlimp : limpOrHold s = false)
    (hi : argNat a 0 ≠ 255) (he : s.limits[argNat a 0]? = none) :
    ackWarningOwner t a s = .reply .unknownRecord [] s := by
  simp [ackWarningOwner, hlimp, hi, he, refuse]

/-- ACK_REMINDER of an item in use. -/
theorem ackReminderOwner_of_item (t : Ticket) (a : List Byte) (s : State) (item : ServiceItem)
    (hlimp : limpOrHold s = false) (hi : argNat a 0 ≠ 255)
    (hitem : s.service.items[argNat a 0]? = some (some item)) :
    ackReminderOwner t a s = if item.state = .ok then .reply .refusedState [] s
      else .reply .done [byte (argNat a 0), byte item.state.num, 1#8]
        (setItem (argNat a 0) { item with acknowledged := true } s) := by
  simp [ackReminderOwner, hlimp, hi, hitem, refuse, accept]

theorem ackReminderOwner_all (t : Ticket) (a : List Byte) (s : State) (hlimp : limpOrHold s = false)
    (hi : argNat a 0 = 255) : ackReminderOwner t a s
      = .reply .done (le 2 (s.service.items.filter ackable).length)
          (setService { s.service with
            items := mapWhere ackable (Option.map fun x => { x with acknowledged := true }) s.service.items } s) := by
  simp only [ackReminderOwner, hlimp, hi]
  rfl

theorem ackReminderOwner_unknown (t : Ticket) (a : List Byte) (s : State) (hlimp : limpOrHold s = false)
    (hi : argNat a 0 ≠ 255) (hitem : ∀ item, s.service.items[argNat a 0]? ≠ some (some item)) :
    ackReminderOwner t a s = .reply .unknownRecord [] s := by
  simp only [ackReminderOwner, hlimp, beq_iff_eq, if_neg hi, Bool.false_eq_true, ↓reduceIte]
  rfl

theorem refusedInHold_acknowledgements : RefusedInHold [(6#8, .ackWarning), (22#8, .ackReminder)] := by
  have hlimp : ∀ s, inHold s = true → limpOrHold s = true := fun s h => by simp [limpOrHold, h]
  refine refusedInHold_of_owners _ fun x hx => ?_
  rcases List.mem_cons.1 hx with rfl | hx
  · exact ⟨ackWarningOwner, fun _ _ => rfl, fun t a s h => if_pos (hlimp s h)⟩
  · obtain rfl := List.mem_singleton.1 hx
    exact ⟨ackReminderOwner, fun _ _ => rfl, fun t a s h => if_pos (hlimp s h)⟩

/-! ## The two requests, taken -/

section
variable (r : Request) (s : State) (hlimp : limpOrHold s = false)
include hlimp

/-- A taken ACK_WARNING is answered as its owner answers on the recorded state. -/
theorem exec_ackWarning_of_entry (e : LimitEntry) (ht : taken 6#8 r s = true) (hi : argNat r.args 0 ≠ 255)
    (he : s.limits[argNat r.args 0]? = some e) :
    exec (.ackWarning r) s = if e.config.latch = .latched ∧ e.inWarning = true then
        repliedWith 6#8 .refusedState [] r s (noted r s)
      else
        let flag := if e.config.latch = .latched then false else e.warning
        doneWith 6#8 [byte (argNat r.args 0), flagByte flag] r s
          { noted r s with limits := s.limits.set (argNat r.args 0) { e with warning := flag } } := by
  have ho := ackWarningOwner_of_entry (ticketOf 6#8 r s) r.args (noted r s) e (by simpa using hlimp) hi
    (by simpa using he)
  split
  next h =>
    rw [if_pos h] at ho
    exact repliedWith_of_owner 6#8 ackWarningOwner _ r s _ _ _ ht rfl ho
  next h =>
    simp only [if_neg h, setLimit, noted_limits] at ho
    exact repliedWith_of_owner 6#8 ackWarningOwner _ r s _ _ _ ht rfl ho

theorem exec_ackWarning_all (ht : taken 6#8 r s = true) (hi : argNat r.args 0 = 255) :
    exec (.ackWarning r) s = doneWith 6#8
      (le 2 (s.limits.filter fun e => e.acknowledgeable && e.warning).length) r s
      { noted r s with limits := s.limits.map fun e =>
          if e.acknowledgeable then { e with warning := false } else e } := by
  have ho := ackWarningOwner_all (ticketOf 6#8 r s) r.args (noted r s) (by simpa using hlimp) hi
  rw [noted_limits] at ho
  exact repliedWith_of_owner 6#8 ackWarningOwner _ r s _ _ _ ht rfl ho

theorem exec_ackWarning_unknown (ht : taken 6#8 r s = true) (hi : argNat r.args 0 ≠ 255)
    (he : s.limits[argNat r.args 0]? = none) :
    exec (.ackWarning r) s = repliedWith 6#8 .unknownRecord [] r s (noted r s) :=
  repliedWith_of_owner 6#8 ackWarningOwner _ r s _ _ _ ht rfl
    (ackWarningOwner_unknown _ _ _ (by simpa using hlimp) hi (by simpa using he))

theorem exec_ackReminder_of_item (item : ServiceItem) (ht : taken 22#8 r s = true) (hi : argNat r.args 0 ≠ 255)
    (hitem : s.service.items[argNat r.args 0]? = some (some item)) :
    exec (.ackReminder r) s = if item.state = .ok then repliedWith 22#8 .refusedState [] r s (noted r s)
      else doneWith 22#8 [byte (argNat r.args 0), byte item.state.num, 1#8] r s
        (setItem (argNat r.args 0) { item with acknowledged := true } (noted r s)) := by
  have ho := ackReminderOwner_of_item (ticketOf 22#8 r s) r.args (noted r s) item (by simpa using hlimp) hi
    (by simpa using hitem)
  split
  next h =>
    rw [if_pos h] at ho
    exact repliedWith_of_owner 22#8 ackReminderOwner _ r s _ _ _ ht rfl ho
  next h =>
    rw [if_neg h] at ho
    exact repliedWith_of_owner 22#8 ackReminderOwner _ r s _ _ _ ht rfl ho

theorem exec_ackReminder_all (ht : taken 22#8 r s = true) (hi : argNat r.args 0 = 255) :
    exec (.ackReminder r) s = doneWith 22#8 (le 2 (s.service.items.filter ackable).length) r s
      (setService { s.service with
        items := mapWhere ackable (Option.map (fun x => { x with acknowledged := true })) s.service.items }
        (noted r s)) := by
  have ho := ackReminderOwner_all (ticketOf 22#8 r s) r.args (noted r s) (by simpa using hlimp) hi
  rw [noted_service] at ho
  exact repliedWith_of_owner 22#8 ackReminderOwner _ r s _ _ _ ht rfl ho

theorem exec_ackReminder_unknown (ht : taken 22#8 r s = true) (hi : argNat r.args 0 ≠ 255)
    (hitem : ∀ item, s.service.items[argNat r.args 0]? ≠ some (some item)) :
    exec (.ackReminder r) s = repliedWith 22#8 .unknownRecord [] r s (noted r s) :=
  repliedWith_of_owner 22#8 ackReminderOwner _ r s _ _ _ ht rfl
    (ackReminderOwner_unknown _ _ _ (by simpa using hlimp) hi (by simpa using hitem))

end

/-- Settles O36: each answer is its owner's at a taken request. -/
theorem acknowledgements : Obligations.Acknowledgements := by
  refine ⟨fun r s hlimp => ⟨fun e ht hi he hw => ?_, fun e ht hi he hl hw => ?_, exec_ackWarning_all r s hlimp,
      fun item ht hi hitem hs => ?_, fun item ht hi hitem hs => ?_, exec_ackReminder_all r s hlimp,
      exec_ackWarning_unknown r s hlimp, exec_ackReminder_unknown r s hlimp⟩,
    refusedInHold_acknowledgements, fun e => ⟨inWarning_iff e, acknowledgeable_iff e⟩, ackable_iff⟩
  · exact (exec_ackWarning_of_entry r s hlimp e ht hi he).trans (if_neg hw)
  · exact (exec_ackWarning_of_entry r s hlimp e ht hi he).trans (if_pos ⟨hl, hw⟩)
  · exact (exec_ackReminder_of_item r s hlimp item ht hi hitem).trans (if_neg hs)
  · exact (exec_ackReminder_of_item r s hlimp item ht hi hitem).trans (if_pos hs)

end Sys2Proof.Machine
end

section
/-! PROOFS. TEACH_LIMIT, SET_LIMIT, ENABLE_LIMIT and DISABLE_LIMIT: the checks of R34, the change that each makes,
its arguments, and the limit-area job that carries it (R20, R30, R34 to R38, R40, R197). -/

namespace Sys2Proof.Machine

/-! ## Arguments (R36, R197) -/

theorem argS16_eq (a : List Byte) (i : Nat) :
    argS16 a i = if argU16 a i < 32768 then (argU16 a i : Int) else argU16 a i - 65536 := by
  have hlow := (arg8 a i).isLt
  have happend : (arg8 a (i + 1) ++ arg8 a i).toNat = argU16 a i := by
    rw [BitVec.toNat_append, ← Nat.shiftLeft_add_eq_or_of_lt hlow, Nat.shiftLeft_eq, argU16, u16]
    omega
  unfold argS16 s16
  rw [BitVec.toInt_eq_toNat_cond, happend]
  split <;> split <;> omega

theorem limitArgs_none (a : List Byte) (h : limitKindOf (argNat a 1) = none ∨ limitActionOf (argNat a 6) = none) :
    limitArgs a = none := by
  unfold limitArgs
  split
  next hkind haction => simp [hkind, haction] at h
  next => rfl

theorem limitArgs_some (a : List Byte) (k : LimitKind) (x : LimitAction) (hkind : limitKindOf (argNat a 1) = some k)
    (haction : limitActionOf (argNat a 6) = some x) : limitArgs a = some {
      kind := k
      value := if k.isSlew then argU16 a 2 else argS16 a 2
      margin := argU16 a 4
      action := x
      guarded := if (arg8 a 8).getLsbD 0 then k.defaultGuarded else arg8 a 7
      scope := if (arg8 a 8).getLsbD 1 then some ⟨BitVec.ofNat 16 (argU16 a 9), BitVec.ofNat 16 (argU16 a 11)⟩
        else none
      owner := if (arg8 a 8).getLsbD 2 then .technician else .supervisor
      latch := if (arg8 a 8).getLsbD 3 then .latched else .follow } := by
  simp only [limitArgs, hkind, haction]

theorem limitArgs_owner (a : List Byte) (c : LimitConfig) (h : limitArgs a = some c) :
    c.owner = .technician ↔ (arg8 a 8).getLsbD 2 = true := by
  cases hkind : limitKindOf (argNat a 1) with
  | none => simp [limitArgs_none a (.inl hkind)] at h
  | some k =>
    cases haction : limitActionOf (argNat a 6) with
    | none => simp [limitArgs_none a (.inr haction)] at h
    | some x =>
      rw [limitArgs_some a k x hkind haction] at h
      obtain rfl := Option.some.inj h
      cases (arg8 a 8).getLsbD 2 <;> simp

theorem isSlew_iff (k : LimitKind) : k.isSlew = true ↔ k = .slewCcwStop ∨ k = .slewCwStop := by
  cases k <;> simp [LimitKind.isSlew]

/-- The ranges of a limit entry's configured fields (R19, R20). -/
theorem limitConfig_ok_iff (c : LimitConfig) :
    let slew := c.kind = .slewCcwStop ∨ c.kind = .slewCwStop
    c.ok = true ↔ (slew → 0 ≤ c.value ∧ c.value ≤ 65535 ∧ c.margin ≤ 16383 ∧ c.scope = none)
      ∧ (¬ slew → -32767 ≤ c.value ∧ c.value ≤ 32767 ∧ c.margin ≤ 10000)
      ∧ 0 ≤ c.margin ∧ (c.action = .warn ∨ c.guarded ≠ MotionSet.none)
      ∧ ∀ x, c.scope = some x → x.start ≠ x.stop := by
  intro slew
  by_cases hslew : c.kind.isSlew = true
  · have hs : slew := (isSlew_iff _).1 hslew
    cases hscope : c.scope <;>
      simp [LimitConfig.ok, LimitKind.marginMax, within, hslew, hs, hscope, and_assoc, and_comm, and_left_comm]
  · have hs : ¬ slew := fun h => hslew ((isSlew_iff _).2 h)
    cases hscope : c.scope <;>
      simp [LimitConfig.ok, LimitKind.marginMax, within, hslew, hs, hscope, and_assoc, and_comm, and_left_comm]

/-! ## The change (R20, R30, R35, R38) -/

theorem ofEntry_iff (i : Nat) (x : Record) :
    x.ofEntry i = true ↔ x.source = some i ∧ (x.kind = .limitStop ∨ x.kind = .limitSlow) := by
  simp [Record.ofEntry, and_comm]

theorem disableRefused_iff (i : Nat) (e : LimitEntry) (s : State) : disableRefused i e s = true ↔
    (∃ x ∈ s.intervention.list, x.source = some i ∧ (x.kind = .limitStop ∨ x.kind = .limitSlow))
      ∨ (e.state = .breach ∧ e.config.action ≠ .warn) := by
  simp only [disableRefused, Bool.or_eq_true, List.any_eq_true, ofEntry_iff, Bool.and_eq_true, beq_iff_eq, bne_iff_ne]

theorem gone_iff (st : LimitState) : st.gone = true ↔ st = .clear ∨ st = .approach := by
  cases st <;> simp [LimitState.gone]

/-- A changed entry is Pending afresh; one whose breach was gone reports it gone no longer. -/
theorem makePending_eq (i : Nat) (old : LimitEntry) (c : LimitConfig) (s : State) :
    let changed := setLimit i { old with config := c, state := .pending, last := none, cause := none } s
    makePending i old c s = if old.state = .clear ∨ old.state = .approach then
        interventionEvent (Work.breachReport i false) changed
      else changed := by
  simp only [makePending, gone_iff]

/-- A taught kind keeps the entry's other fields; a new kind takes its standard ones (R35). -/
theorem taughtConfig_eq (c : LimitConfig) (kind : LimitKind) (v : Int) :
    taughtConfig c kind v = if kind = c.kind then { c with value := v }
      else { c with kind := kind, value := v, margin := kind.defaultMargin,
                    guarded := kind.defaultGuarded, scope := none } := by
  simp only [taughtConfig, beq_iff_eq]

/-! ## The job that carries a change (R40) -/

theorem isLimits_iff (j : Job) : j.isLimits = true ↔ ∃ l, j = .limitArea l := by
  cases j <;> simp [Job.isLimits]

theorem jobQueued_limits_iff (s : State) :
    jobQueued Job.isLimits s = true ↔ ∃ l, Job.limitArea l ∈ s.store.queue := by
  simp only [jobQueued, List.any_eq_true, isLimits_iff]
  constructor
  · rintro ⟨j, hj, l, rfl⟩
    exact ⟨l, hj⟩
  · rintro ⟨l, hl⟩
    exact ⟨_, hl, l, rfl⟩

theorem canCarry_limits_iff (s : State) : canCarry Job.isLimits s = true ↔
    (∃ l, Job.limitArea l ∈ s.store.queue) ∨ s.store.queue.length < 6 := by
  simp only [canCarry, placeFree, Bool.or_eq_true, jobQueued_limits_iff, decide_eq_true_eq]

theorem carry_limits_joins (t : Ticket) (s : State) (h : ∃ l, Job.limitArea l ∈ s.store.queue) :
    carry Job.isLimits .limitArea t s = { s with
      store := { s.store with queue := s.store.queue.map fun
        | .limitArea l => .limitArea (l ++ [t])
        | j => j } } := by
  have hjoin : mapWhere Job.isLimits (Job.join t) s.store.queue = s.store.queue.map fun
      | .limitArea l => .limitArea (l ++ [t])
      | j => j := List.map_congr_left fun j _ => by cases j <;> rfl
  rw [carry, if_pos ((jobQueued_limits_iff s).2 h), hjoin]
  rfl

theorem carry_limits_queues (t : Ticket) (s : State) (h : ∀ l, Job.limitArea l ∉ s.store.queue) :
    carry Job.isLimits .limitArea t s
      = { s with store := { s.store with queue := s.store.queue ++ [.limitArea [t]] } } := by
  rw [carry, if_neg (fun hq => (jobQueued_limits_iff s).1 hq |>.elim h)]
  rfl

/-! ## The checks of R34 -/

@[simp] theorem leveled_canCarry (r : Request) (s : State) (kind : Job → Bool) :
    canCarry kind (leveled r s) = canCarry kind s := by
  have hstore : (leveled r s).store = s.store := noted_store r s
  unfold canCarry jobQueued placeFree
  rw [hstore]

@[simp] theorem leveled_pose (r : Request) (s : State) : (leveled r s).pose = s.pose := noted_pose r s

@[simp] theorem leveled_disableRefused (r : Request) (s : State) (i : Nat) (e : LimitEntry) :
    disableRefused i e (leveled r s) = disableRefused i e s := by
  have hlist : (leveled r s).intervention = s.intervention := noted_intervention r s
  unfold disableRefused
  rw [hlist]

@[simp] theorem leveled_holds (r : Request) (s : State) (n : Nat) (need : Level) :
    holds (leveled r s) n need = holds s n need := by
  unfold leveled
  rw [holds_renewGrant, noted_holds]

theorem limitRequest_below (t : Ticket) (a : List Byte) (s : State) (rest : Nat → LimitEntry → State → Answer)
    (hlimp : limpOrHold s = false) (hlevel : holds s t.station .supervisor = false) :
    limitRequest t a s rest = .reply .refusedLevel [] s := by
  rw [limitRequest, if_neg (by simp [hlimp]), checkLevel_refused _ _ _ _ hlevel]

/-- Past the level check the entry is looked up, and a Technician-owned one needs Technician. -/
theorem limitRequest_leveled (t : Ticket) (a : List Byte) (s : State) (rest : Nat → LimitEntry → State → Answer)
    (hlimp : limpOrHold s = false) (hlevel : holds s t.station .supervisor = true) :
    limitRequest t a s rest = match s.limits[argNat a 0]? with
      | none => .reply .unknownRecord [] (renewGrant t.station s)
      | some e => if e.config.owner = .technician ∧ holds s t.station .technician = false then
          .reply .refusedLevel [] (renewGrant t.station s)
        else rest (argNat a 0) e (renewGrant t.station s) := by
  have hlimits : (renewGrant t.station s).limits = s.limits := rfl
  rw [limitRequest, if_neg (by simp [hlimp]), checkLevel_passed _ _ _ _ hlevel (by decide)]
  simp only [hlimits, holds_renewGrant, Bool.and_eq_true, Bool.not_eq_true', beq_iff_eq]
  rfl

/-- A request of a station at Supervisor's level, outside Limp and Hold, of an entry that its owner level opens to the
station: it has passed the checks 2 to 5 of R34. -/
structure LimitChecked (r : Request) (s : State) (e : LimitEntry) : Prop where
  outside : limpOrHold s = false
  level : holds s r.station .supervisor = true
  entry : s.limits[argNat r.args 0]? = some e
  owner : e.config.owner = .technician → holds s r.station .technician = true

/-- What a taken request that has passed the checks goes on with. -/
theorem LimitChecked.limitRequest_eq {r : Request} {s : State} {e : LimitEntry} (h : LimitChecked r s e) (code : Byte)
    (rest : Nat → LimitEntry → State → Answer) :
    limitRequest (ticketOf code r s) r.args (noted r s) rest = rest (argNat r.args 0) e (leveled r s) := by
  have howner : ¬ (e.config.owner = .technician ∧ holds s r.station .technician = false) :=
    fun hn => by simp [h.owner hn.1] at hn
  have hstation : (ticketOf code r s).station = r.station := rfl
  rw [limitRequest_leveled _ _ _ _ (by simpa using h.outside) (by simpa [hstation] using h.level), noted_limits, h.entry,
    noted_holds, hstation]
  exact if_neg howner

/-- A request that waits on the limit-area job with its change. -/
def limitWaits (code : Byte) (r : Request) (s u : State) : Host.Outcome State Fault Refusal :=
  inFlightWith r s (carry Job.isLimits .limitArea { ticketOf code r s with index := argNat r.args 0 } u)

/-- A taken request whose owner hands its change to the limit-area job waits on it. -/
theorem limitWaits_of_owner (code : Byte) (own : Owner) (c : Instr) (r : Request) (s u : State)
    (ht : taken code r s = true) (hc : exec c s = .next (settle s (takeRequest code (some own) r s)))
    (ho : own (ticketOf code r s) r.args (noted r s) = carryLimit (ticketOf code r s) (argNat r.args 0) u) :
    exec c s = limitWaits code r s u := by
  rw [hc, takeRequest_taken _ _ r s ht, ho]
  rfl

/-! ## The four owners, past the checks (R35 to R38) -/

section
variable {r : Request} {s : State} {e : LimitEntry} (h : LimitChecked r s e)
include h

theorem teachLimitOwner_checked : teachLimitOwner (ticketOf 7#8 r s) r.args (noted r s) =
    match limitKindOf (argNat r.args 1) with
    | none => .reply .badArgument [] (leveled r s)
    | some kind =>
      if s.pose.pose.quality ≠ .valid then .reply .refusedState [] (leveled r s)
      else if canCarry Job.isLimits s = false then .reply .busy [] (leveled r s)
      else carryLimit (ticketOf 7#8 r s) (argNat r.args 0) (makePending (argNat r.args 0) e
        (taughtConfig e.config kind (measured (leveled r s) kind)) (leveled r s)) := by
  rw [teachLimitOwner, h.limitRequest_eq]
  simp only [leveled_pose, leveled_canCarry, bne_iff_ne, Bool.not_eq_true']
  rfl

theorem setLimitOwner_checked : setLimitOwner (ticketOf 8#8 r s) r.args (noted r s) =
    if (arg8 r.args 8).getLsbD 2 = true ∧ holds s r.station .technician = false then
      .reply .refusedLevel [] (leveled r s)
    else match limitArgs r.args with
      | none => .reply .badArgument [] (leveled r s)
      | some c =>
        if c.ok = false then .reply .badArgument [] (leveled r s)
        else if canCarry Job.isLimits s = false then .reply .busy [] (leveled r s)
        else carryLimit (ticketOf 8#8 r s) (argNat r.args 0) (makePending (argNat r.args 0) e c (leveled r s)) := by
  rw [setLimitOwner, h.limitRequest_eq]
  simp only [leveled_holds, leveled_canCarry, Bool.and_eq_true, Bool.not_eq_true']
  rfl

theorem enableLimitOwner_checked : enableLimitOwner (ticketOf 9#8 r s) r.args (noted r s) =
    if e.state ≠ .disabled then .reply .done [byte (argNat r.args 0), byte e.state.num] (leveled r s)
    else if canCarry Job.isLimits s = false then .reply .busy [] (leveled r s)
    else carryLimit (ticketOf 9#8 r s) (argNat r.args 0)
      (makePending (argNat r.args 0) e e.config (leveled r s)) := by
  rw [enableLimitOwner, h.limitRequest_eq]
  simp only [leveled_canCarry, bne_iff_ne, Bool.not_eq_true']
  rfl

theorem disableLimitOwner_checked : disableLimitOwner (ticketOf 10#8 r s) r.args (noted r s) =
    if e.state = .disabled then .reply .done [byte (argNat r.args 0), byte e.state.num] (leveled r s)
    else if disableRefused (argNat r.args 0) e s = true then .reply .refusedState [] (leveled r s)
    else if canCarry Job.isLimits s = false then .reply .busy [] (leveled r s)
    else carryLimit (ticketOf 10#8 r s) (argNat r.args 0) (setLimit (argNat r.args 0)
      { e with state := .disabled, warning := false, last := none, cause := none, owed := none }
      (leveled r s)) := by
  rw [disableLimitOwner, h.limitRequest_eq]
  simp only [leveled_canCarry, leveled_disableRefused, beq_iff_eq, Bool.not_eq_true']
  rfl

end

/-! ## The four requests, taken -/

section
variable {r : Request} {s : State} {e : LimitEntry} (h : LimitChecked r s e)
include h

/-- A change that passes its own checks waits on the limit-area job. -/
theorem exec_teachLimit_waits (hcarry : canCarry Job.isLimits s = true) (kind : LimitKind)
    (ht : taken 7#8 r s = true) (hkind : limitKindOf (argNat r.args 1) = some kind)
    (hpose : s.pose.pose.quality = .valid) :
    exec (.teachLimit r) s = limitWaits 7#8 r s (makePending (argNat r.args 0) e
      (taughtConfig e.config kind (measured (leveled r s) kind)) (leveled r s)) :=
  limitWaits_of_owner 7#8 teachLimitOwner _ r s _ ht rfl
    ((teachLimitOwner_checked h).trans (by simp [hkind, hpose, hcarry]))

theorem exec_setLimit_waits (hcarry : canCarry Job.isLimits s = true) (c : LimitConfig)
    (ht : taken 8#8 r s = true) (hargs : limitArgs r.args = some c) (hok : c.ok = true)
    (howner : c.owner = .technician → holds s r.station .technician = true) :
    exec (.setLimit r) s = limitWaits 8#8 r s (makePending (argNat r.args 0) e c (leveled r s)) := by
  rw [limitArgs_owner r.args c hargs] at howner
  refine limitWaits_of_owner 8#8 setLimitOwner _ r s _ ht rfl ((setLimitOwner_checked h).trans ?_)
  rw [if_neg (fun hn => by simp [howner hn.1] at hn)]
  simp [hargs, hok, hcarry]

theorem exec_enableLimit_waits (hcarry : canCarry Job.isLimits s = true) (ht : taken 9#8 r s = true)
    (hstate : e.state = .disabled) :
    exec (.enableLimit r) s = limitWaits 9#8 r s
      (setLimit (argNat r.args 0) { e with state := .pending, last := none, cause := none } (leveled r s)) := by
  refine limitWaits_of_owner 9#8 enableLimitOwner _ r s _ ht rfl ((enableLimitOwner_checked h).trans ?_)
  rw [if_neg (by simp [hstate]), if_neg (by simp [hcarry]), makePending_eq, if_neg (by simp [hstate])]

theorem exec_disableLimit_waits (hcarry : canCarry Job.isLimits s = true) (ht : taken 10#8 r s = true)
    (hstate : e.state ≠ .disabled) (hfree : disableRefused (argNat r.args 0) e s = false) :
    exec (.disableLimit r) s = limitWaits 10#8 r s (setLimit (argNat r.args 0)
      { e with state := .disabled, warning := false, last := none, cause := none, owed := none } (leveled r s)) :=
  limitWaits_of_owner 10#8 disableLimitOwner _ r s _ ht rfl
    ((disableLimitOwner_checked h).trans (by simp [hstate, hfree, hcarry]))

/-- ENABLE_LIMIT's answers at once: of an enabled entry, and without a job or a place. -/
theorem exec_enableLimit_answered (ht : taken 9#8 r s = true) :
    (e.state ≠ .disabled →
        exec (.enableLimit r) s = doneWith 9#8 [byte (argNat r.args 0), byte e.state.num] r s (leveled r s))
      ∧ (e.state = .disabled → canCarry Job.isLimits s = false →
        exec (.enableLimit r) s = repliedWith 9#8 .busy [] r s (leveled r s)) := by
  refine ⟨fun hstate => ?_, fun hstate hcarry => ?_⟩ <;>
    refine repliedWith_of_owner 9#8 enableLimitOwner _ r s _ _ _ ht rfl ((enableLimitOwner_checked h).trans ?_)
  · rw [if_pos hstate]
  · rw [if_neg (by simp [hstate]), if_pos hcarry]

theorem exec_disableLimit_answered (ht : taken 10#8 r s = true) :
    (e.state = .disabled →
        exec (.disableLimit r) s = doneWith 10#8 [byte (argNat r.args 0), byte e.state.num] r s (leveled r s))
      ∧ (e.state ≠ .disabled → disableRefused (argNat r.args 0) e s = true →
        exec (.disableLimit r) s = repliedWith 10#8 .refusedState [] r s (leveled r s))
      ∧ (e.state ≠ .disabled → disableRefused (argNat r.args 0) e s = false → canCarry Job.isLimits s = false →
        exec (.disableLimit r) s = repliedWith 10#8 .busy [] r s (leveled r s)) := by
  refine ⟨fun hstate => ?_, fun hstate hrefused => ?_, fun hstate hfree hcarry => ?_⟩ <;>
    refine repliedWith_of_owner 10#8 disableLimitOwner _ r s _ _ _ ht rfl ((disableLimitOwner_checked h).trans ?_)
  · rw [if_pos hstate]
  · rw [if_neg hstate, if_pos hrefused]
  · rw [if_neg hstate, if_neg (by simp [hfree]), if_pos hcarry]

theorem exec_teachLimit_answered (ht : taken 7#8 r s = true) :
    (limitKindOf (argNat r.args 1) = none →
        exec (.teachLimit r) s = repliedWith 7#8 .badArgument [] r s (leveled r s))
      ∧ (limitKindOf (argNat r.args 1) ≠ none → s.pose.pose.quality ≠ .valid →
        exec (.teachLimit r) s = repliedWith 7#8 .refusedState [] r s (leveled r s))
      ∧ (limitKindOf (argNat r.args 1) ≠ none → s.pose.pose.quality = .valid → canCarry Job.isLimits s = false →
        exec (.teachLimit r) s = repliedWith 7#8 .busy [] r s (leveled r s)) := by
  refine ⟨fun hkind => ?_, fun hkind hpose => ?_, fun hkind hpose hcarry => ?_⟩ <;>
    refine repliedWith_of_owner 7#8 teachLimitOwner _ r s _ _ _ ht rfl ((teachLimitOwner_checked h).trans ?_)
  · rw [hkind]
  · obtain ⟨kind, hkind⟩ := Option.ne_none_iff_exists'.1 hkind
    simp [hkind, hpose]
  · obtain ⟨kind, hkind⟩ := Option.ne_none_iff_exists'.1 hkind
    simp [hkind, hpose, hcarry]

theorem exec_setLimit_answered (ht : taken 8#8 r s = true) :
    ((arg8 r.args 8).getLsbD 2 = true → holds s r.station .technician = false →
        exec (.setLimit r) s = repliedWith 8#8 .refusedLevel [] r s (leveled r s))
      ∧ (((arg8 r.args 8).getLsbD 2 = true → holds s r.station .technician = true) →
        (∀ c, limitArgs r.args = some c → c.ok = false) →
        exec (.setLimit r) s = repliedWith 8#8 .badArgument [] r s (leveled r s))
      ∧ ∀ c, limitArgs r.args = some c → c.ok = true →
        (c.owner = .technician → holds s r.station .technician = true) → canCarry Job.isLimits s = false →
        exec (.setLimit r) s = repliedWith 8#8 .busy [] r s (leveled r s) := by
  refine ⟨fun hflag hlevel => ?_, fun howner hbad => ?_, fun c hargs hok howner hcarry => ?_⟩ <;>
    refine repliedWith_of_owner 8#8 setLimitOwner _ r s _ _ _ ht rfl ((setLimitOwner_checked h).trans ?_)
  · rw [if_pos ⟨hflag, hlevel⟩]
  · rw [if_neg (fun hn => by simp [howner hn.1] at hn)]
    cases hargs : limitArgs r.args with
    | none => rfl
    | some c => simp [hbad c hargs]
  · rw [limitArgs_owner r.args c hargs] at howner
    rw [if_neg (fun hn => by simp [howner hn.1] at hn)]
    simp [hargs, hok, hcarry]

end

/-! ## The refusals that the four requests share (R34) -/

/-- The commands of the four limit requests. -/
def limitCommands : List (Byte × (Request → Instr)) :=
  [(7#8, .teachLimit), (8#8, .setLimit), (9#8, .enableLimit), (10#8, .disableLimit)]

/-- The owner of each of the four begins with the checks of R34, and none is taken in Limp. -/
theorem limitCommands_owner (x : Byte × (Request → Instr)) (hx : x ∈ limitCommands) :
    takenInLimp x.1 = false ∧ ∃ (own : Owner) (rest : Ticket → List Byte → Nat → LimitEntry → State → Answer),
      (∀ r s, exec (x.2 r) s = .next (settle s (takeRequest x.1 (some own) r s)))
        ∧ ∀ t a s, own t a s = limitRequest t a s (rest t a) := by
  simp only [limitCommands, List.mem_cons, List.not_mem_nil, or_false] at hx
  rcases hx with rfl | rfl | rfl | rfl
  · exact ⟨by decide, teachLimitOwner, _, fun _ _ => rfl, fun _ _ _ => rfl⟩
  · exact ⟨by decide, setLimitOwner, _, fun _ _ => rfl, fun _ _ _ => rfl⟩
  · exact ⟨by decide, enableLimitOwner, _, fun _ _ => rfl, fun _ _ _ => rfl⟩
  · exact ⟨by decide, disableLimitOwner, _, fun _ _ => rfl, fun _ _ _ => rfl⟩

theorem refusedBelow_limitCommands : RefusedBelow .supervisor limitCommands := by
  refine refusedBelow_of_owners _ _ fun x hx => ?_
  obtain ⟨hcode, own, rest, hexec, hown⟩ := limitCommands_owner x hx
  refine ⟨own, hexec, fun t a s hlimp _ hlevel => ?_⟩
  rw [hown, limitRequest_below _ _ _ _ (hlimp.resolve_left (by simp [hcode])) hlevel]

/-- Each of the four is refused for an index that names no entry, and for a Technician-owned one below Technician. -/
theorem limitCommands_refused (x : Byte × (Request → Instr)) (hx : x ∈ limitCommands) (r : Request) (s : State)
    (ht : taken x.1 r s = true) (hhold : inHold s = false) (hlevel : holds s r.station .supervisor = true) :
    (s.limits[argNat r.args 0]? = none →
        exec (x.2 r) s = repliedWith x.1 .unknownRecord [] r s (leveled r s))
      ∧ ∀ e, s.limits[argNat r.args 0]? = some e → e.config.owner = .technician →
        holds s r.station .technician = false →
        exec (x.2 r) s = repliedWith x.1 .refusedLevel [] r s (leveled r s) := by
  obtain ⟨hcode, own, rest, hexec, hown⟩ := limitCommands_owner x hx
  have hlimp := limpOrHold_of_taken x.1 r s ht hcode hhold
  have hstation : (ticketOf x.1 r s).station = r.station := rfl
  have ho := (hown (ticketOf x.1 r s) r.args (noted r s)).trans
    (limitRequest_leveled _ _ _ _ (by simpa using hlimp) (by simpa [hstation] using hlevel))
  rw [noted_limits, noted_holds, hstation] at ho
  refine ⟨fun he => ?_, fun e he howner htech => ?_⟩
  · exact repliedWith_of_owner x.1 own _ r s _ _ _ ht (hexec r s) (by rw [ho, he]; rfl)
  · exact repliedWith_of_owner x.1 own _ r s _ _ _ ht (hexec r s) (by
      rw [ho, he]
      exact if_pos ⟨howner, htech⟩)

/-- Settles O37: each change and each refusal is its owner's past the checks of R34; the rest are equations of the
arguments, the change and the job. -/
theorem limitRequestsTakeChange : Obligations.LimitRequestsTakeChange := by
  refine ⟨fun r s e hlimp hlevel => ?_, fun r s e hlimp hlevel => ?_, refusedBelow_limitCommands,
    limitCommands_refused, fun a => ?_, fun n => ⟨rfl, rfl⟩, fun a i => ⟨rfl, rfl, rfl, argS16_eq a i⟩,
    limitConfig_ok_iff, disableRefused_iff, fun i old c s => ?_, fun c kind v => ?_, fun s kind => ?_,
    fun t s => ⟨canCarry_limits_iff s, carry_limits_joins t s, carry_limits_queues t s⟩⟩
  · intro i waits hentry howner hcarry
    have h : LimitChecked r s e := ⟨hlimp, hlevel, hentry, howner⟩
    exact ⟨exec_teachLimit_waits h hcarry, exec_setLimit_waits h hcarry, exec_enableLimit_waits h hcarry,
      exec_disableLimit_waits h hcarry⟩
  · intro i shown u hentry howner
    have h : LimitChecked r s e := ⟨hlimp, hlevel, hentry, howner⟩
    exact ⟨fun ht => (exec_enableLimit_answered h ht).1, fun ht => (exec_enableLimit_answered h ht).2,
      fun ht => (exec_disableLimit_answered h ht).1, fun ht => (exec_disableLimit_answered h ht).2.1,
      fun ht => (exec_disableLimit_answered h ht).2.2, fun ht => (exec_teachLimit_answered h ht).1,
      fun ht => (exec_teachLimit_answered h ht).2.1, fun ht => (exec_setLimit_answered h ht).1,
      fun ht => (exec_setLimit_answered h ht).2.1, fun ht => (exec_teachLimit_answered h ht).2.2,
      fun c ht => (exec_setLimit_answered h ht).2.2 c⟩
  · refine ⟨fun h => limitArgs_none a h, fun k x hkind haction => ?_⟩
    refine (limitArgs_some a k x hkind haction).trans ?_
    cases k <;> rfl
  · intro changed
    exact ⟨fun h => (makePending_eq i old c s).trans (if_pos h), fun h => (makePending_eq i old c s).trans (if_neg h)⟩
  · refine ⟨fun h => (taughtConfig_eq c kind v).trans (if_pos h), fun h => ?_⟩
    refine ((taughtConfig_eq c kind v).trans (if_neg h)).trans ?_
    cases kind <;> rfl
  · cases kind <;> rfl

end Sys2Proof.Machine
end

section
/-! PROOFS. An event at the intervention list: a raise, a cause, breach reports, losses of pose, the record notices
behind the demand (R43, R44, R46, R47, R50 to R55, R84, R163, R164). -/

namespace Sys2Proof.Machine

/-! ## Notices in the event ring (R54, R163, R164) -/

/-- A notice joins a ring with a free place, displaces the oldest reply that has not begun, or finds no place. -/
theorem queueNotice_eq (b : Biu) (data : List Byte) (fence : Option Nat) :
    b.queueNotice data fence = if b.ring.length < 8 then some (b.join false data fence)
      else if b.ring.any b.displaceable = true then
        some ({ b with ring := eraseFirst b.displaceable b.ring,
                       repliesDropped := satAdd 255 b.repliesDropped 1 }.join false data fence)
      else none := rfl

theorem queueRecordNotice_eq (seq : Nat) (data : List Byte) (s : State) :
    queueRecordNotice seq data s = match s.bus.queueNotice data (s.bus.cutDemand.held.map (·.number)) with
      | some b => { s with bus := b }
      | none => setIntervention { s.intervention with
          list := s.intervention.list.map fun r => if r.seq = seq then { r with owed := true } else r } s := by
  unfold queueRecordNotice mapWhere
  simp only [beq_iff_eq]
  rfl

/-! ## Hold within an event (R63) -/

theorem inHold_enterHold (s : State) : inHold (enterHold s) = true := by
  unfold enterHold
  split
  next h => exact h
  next => rfl

theorem interventionEvent_of_hold (f : Work → Work) (s : State) (h : inHold s = true) :
    interventionEvent f s = s := by
  simp [interventionEvent, Work.unlessHold, Work.close, h]

theorem interventionEvent_outside (f : Work → Work) (s : State) (h : inHold s = false) :
    interventionEvent f s = (f ⟨s, []⟩).close := by
  simp [interventionEvent, Work.unlessHold, h]

theorem unlessHold_of_hold (f : Work → Work) (w : Work) (h : inHold w.state = true) : w.unlessHold f = w := by
  simp [Work.unlessHold, h]

theorem unlessHold_outside (f : Work → Work) (w : Work) (h : inHold w.state = false) : w.unlessHold f = f w := by
  simp [Work.unlessHold, h]

/-! ## A raise (R43, R44, R50, R84, R96, R104) -/

/-- The record that a raise lists. -/
def raisedRecord (kind : RecordKind) (source : Option Nat) (cause : RecordCause) (blocked : MotionSet) (s : State) :
    Record :=
  ⟨s.intervention.lastSeq + 1, kind, source, cause, blocked, snapshotPose s, .raised, false, false, none, false⟩

/-- No record is listed, and the economy state is one that no record may stand in (R96). -/
def leavesIdle (s : State) : Bool :=
  s.intervention.list.isEmpty
    && match s.economy.state with
      | .idleWait | .idling | .resuming | .shutdownPending => true
      | .stopped | .working | .held | .forced => false

theorem leavesIdle_iff (s : State) : leavesIdle s = true ↔ s.intervention.list = []
    ∧ s.economy.state ∈ [EconomyState.idleWait, .idling, .resuming, .shutdownPending] := by
  cases hstate : s.economy.state <;> simp [leavesIdle, hstate]

/-- The day's count of raises (R104). -/
def EconomyUnit.countRaise (e : EconomyUnit) : EconomyUnit :=
  { e with days := { e.days with opened := { e.days.opened with
      interventions := min 65535 (e.days.opened.interventions + 1) } } }

/-- A state in which a record is listed, before the sequence numbers are looked at: the cycle is abandoned, the raise
is counted and an idle economy state is held. -/
def listing (r : Record) (s : State) : State :=
  { s with
    intervention := { s.intervention with
      list := s.intervention.list ++ [r], lastSeq := s.intervention.lastSeq + 1 }
    guidance := if s.guidance.detector = .idle then s.guidance else
      { s.guidance with detector := .idle, digAngle := none, stageTimer := none, outcome := .abandoned }
    economy := if leavesIdle s then s.economy.countRaise.enter .held else s.economy.countRaise }

theorem economyRaise_eq (s : State) : economyRaise s = setEconomy s.economy.countRaise s := by
  unfold economyRaise modifyOpened setDays
  simp only [satAdd_eq_min]
  rfl

/-- Listing a record is what the Guidance and Economy Units make of the raise. -/
theorem listing_eq (r : Record) (s : State) :
    let t := economyRaise (abandonCycle (setIntervention { s.intervention with
      list := s.intervention.list ++ [r], lastSeq := s.intervention.lastSeq + 1 } s))
    listing r s = if s.intervention.list.isEmpty then listNonEmpty t else t := by
  simp only [abandonCycle_eq, economyRaise_eq]
  unfold listing leavesIdle
  cases s.intervention.list with
  | nil =>
    unfold listNonEmpty enterEconomy
    cases hstate : s.economy.state <;>
      simp [hstate, setEconomy, setIntervention, setGuidance, EconomyUnit.countRaise] <;> rfl
  | cons x l => rfl

theorem raise_of_exhausted (kind : RecordKind) (source : Option Nat) (cause : RecordCause) (blocked : MotionSet)
    (w : Work) (h : 65535 ≤ w.state.intervention.lastSeq) : w.raise kind source cause blocked = w := by
  simp [Work.raise, sequenceExhausted, h]

/-- A raise lists its record with its Raised notice; the one that gives 65,535 enters Hold. -/
theorem raise_eq (kind : RecordKind) (source : Option Nat) (cause : RecordCause) (blocked : MotionSet) (w : Work)
    (h : w.state.intervention.lastSeq < 65535) :
    let r := raisedRecord kind source cause blocked w.state
    w.raise kind source cause blocked
      = ⟨if w.state.intervention.lastSeq = 65534 then exhaustSequence (listing r w.state) else listing r w.state,
          w.notices ++ [(r.seq, recordNoticeData r 0)]⟩ := by
  intro r
  have hlast : sequenceExhausted (listing r w.state) = true ↔ w.state.intervention.lastSeq = 65534 := by
    simp only [sequenceExhausted, listing, decide_eq_true_eq]
    omega
  have hopen : ¬ sequenceExhausted w.state = true := by
    simp only [sequenceExhausted, decide_eq_true_eq]
    omega
  rw [Work.raise, if_neg hopen, ← if_congr hlast rfl rfl, listing_eq]
  rfl

theorem exhaustSequence_listing (r : Record) (s : State) : exhaustSequence (listing r s)
    = enterHold (report .sequenceExhausted interventionBlock (setIntervention { (listing r s).intervention with
        slowSet := slowSetOf (s.intervention.list ++ [r]) } (listing r s))) := rfl

theorem inHold_raise (kind : RecordKind) (source : Option Nat) (cause : RecordCause) (blocked : MotionSet) (w : Work)
    (h : w.state.intervention.lastSeq = 65534) : inHold (w.raise kind source cause blocked).state = true := by
  rw [raise_eq _ _ _ _ _ (by omega)]
  simp only [if_pos h]
  exact inHold_enterHold _

/-! ## A cause, a change and a removal (R46, R50, R54, R96) -/

theorem Work.setCause_eq (i : Nat) (c : BreachCause) (w : Work) :
    w.setCause i c = { w with
      state := setIntervention { w.state.intervention with
        list := w.state.intervention.list.map fun r =>
          if r.ofEntry i then { r with cause := c.record } else r } w.state } := by
  rw [Work.setCause, Work.change_eq]
  simp [never, mapWhere]

theorem listEmpty_eq (s : State) : listEmpty s = if s.economy.state = .held then
    setEconomy { s.economy with state := .working, waitTimer := none, shutdownTimer := none, resumeTimer := none } s
    else s := by
  unfold listEmpty
  cases s.economy.state <;> rfl

theorem Work.remove_eq (p : Record → Bool) (w : Work) :
    let u := w.state.intervention
    let kept := u.list.filter fun r => !p r
    let s := setIntervention { u with list := kept } w.state
    w.remove p = ⟨if kept = [] ∧ u.list ≠ [] ∧ s.economy.state = .held then setEconomy
          { s.economy with state := .working, waitTimer := none, shutdownTimer := none, resumeTimer := none } s
        else s,
      w.notices ++ (u.list.filter p).map fun r => (r.seq, recordNoticeData r 4)⟩ := by
  intro u kept s
  refine (Work.foldl_notice _ id (fun _ => 4) _).trans (congrArg (Work.mk · _) ?_)
  show (if kept.isEmpty && !u.list.isEmpty then listEmpty s else s) = _
  rw [listEmpty_eq, ← ite_and]
  simp [and_assoc]

end Sys2Proof.Machine
end

section
/-! PROOFS. Breach reports and losses of pose at the list, the evaluation of an envelope entry, and a pose update
(R3, R25 to R32, R47, R51 to R53, R84). -/

namespace Sys2Proof.Machine

/-! ## Breach reports (R51, R52) -/

theorem filter_mapWhere {α : Type} (p q : α → Bool) (f : α → α)
    (h : ∀ x, p x = true → q x = false ∧ q (f x) = false) (l : List α) : (mapWhere p f l).filter q = l.filter q := by
  unfold mapWhere
  induction l with
  | nil => rfl
  | cons x l ih =>
    rw [List.map_cons, List.filter_cons, List.filter_cons, ih]
    by_cases hp : p x = true
    · simp [hp, (h x hp).1, (h x hp).2]
    · rw [if_neg hp]

theorem clearing_iff (st : RecordState) : st.clearing = true ↔ st = .raised ∨ st = .confirmed := by
  simp [RecordState.clearing]

theorem clear_gone_eq (r : Record) : { r.clear with breachGone := true } = { r with
    breachGone := true
    state := if r.state == .raised || r.state == .confirmed then .clearable else r.state } := by
  unfold Record.clear RecordState.clearing
  split <;> rfl

theorem reRaise_back_eq (r : Record) : { r.reRaise with breachGone := false } = { r with
    breachGone := false, state := if r.state = .clearable then .raised else r.state } := by
  unfold Record.reRaise
  by_cases h : r.state = .clearable <;> simp [h]

/-- A breach that is gone: the LimitStop record becomes Clearable, the LimitSlow record goes (R51). -/
theorem breachReport_gone_list (i : Nat) (w : Work) :
    (w.breachReport i true).state.intervention.list = (w.state.intervention.list.map fun r =>
        if r.ofEntry i ∧ r.kind = .limitStop then { r with
          breachGone := true
          state := if r.state == .raised || r.state == .confirmed then .clearable else r.state } else r).filter
      fun r => !(r.ofEntry i && r.kind == .limitSlow) := by
  show (Work.remove _ (Work.change _ _ _ w)).state.intervention.list = _
  rw [Work.remove_list, Work.change_eq]
  simp only [setIntervention_intervention, mapWhere, clear_gone_eq, Bool.and_eq_true, beq_iff_eq]

theorem breachReport_gone_notices (i : Nat) (w : Work) :
    (w.breachReport i true).notices = w.notices ++ ((w.state.intervention.list.filter fun r =>
          r.ofEntry i && r.kind == .limitStop && (r.state == .raised || r.state == .confirmed)).map fun r =>
        (r.seq, recordNoticeData { r with breachGone := true, state := .clearable } 2))
      ++ (w.state.intervention.list.filter fun r => r.ofEntry i && r.kind == .limitSlow).map fun r =>
        (r.seq, recordNoticeData r 4) := by
  have hslow : ∀ r : Record, (r.ofEntry i && r.kind == .limitStop) = true →
      (r.ofEntry i && r.kind == .limitSlow) = false
        ∧ (Record.ofEntry i { r.clear with breachGone := true }
            && ({ r.clear with breachGone := true } : Record).kind == .limitSlow) = false := by
    intro r h
    simp only [Bool.and_eq_true, beq_iff_eq] at h
    have hkind : ({ r.clear with breachGone := true } : Record).kind = .limitStop := by rw [clear_gone_eq]; exact h.2
    rw [hkind, h.2]
    exact ⟨Bool.and_false _, Bool.and_false _⟩
  show (Work.remove _ (Work.change _ _ _ w)).notices = _
  rw [Work.remove_notices, Work.change_eq]
  refine congrArg₂ (fun a b => w.notices ++ a ++ b) (List.map_congr_left fun r hr => ?_)
    (congrArg (List.map _) (filter_mapWhere _ _ _ hslow _))
  have hclear : (r.state == .raised || r.state == .confirmed) = true :=
    (Bool.and_eq_true _ _ ▸ (List.mem_filter.1 hr).2).2
  rw [clear_gone_eq, if_pos hclear]
  rfl

/-- A breach that is back: a Clearable record of the entry is Raised again (R52). -/
theorem breachReport_back_list (i : Nat) (w : Work) :
    (w.breachReport i false).state.intervention.list = w.state.intervention.list.map fun r =>
      if r.ofEntry i then { r with
        breachGone := false, state := if r.state = .clearable then .raised else r.state } else r := by
  show (Work.change _ _ _ w).state.intervention.list = _
  rw [Work.change_eq]
  simp only [setIntervention_intervention, mapWhere, reRaise_back_eq]

theorem breachReport_back_notices (i : Nat) (w : Work) :
    (w.breachReport i false).notices = w.notices ++ (w.state.intervention.list.filter fun r =>
        r.ofEntry i && r.state == .clearable).map fun r =>
      (r.seq, recordNoticeData { r with breachGone := false, state := .raised } 0) := by
  show (Work.change _ _ _ w).notices = _
  rw [Work.change_eq]
  refine congrArg (w.notices ++ ·) (List.map_congr_left fun r hr => ?_)
  have hclear : r.state = .clearable := by
    have h := (List.mem_filter.1 hr).2
    simp only [Bool.and_eq_true, beq_iff_eq] at h
    exact h.2
  rw [reRaise_back_eq, if_pos hclear]
  rfl

/-! ## Losses of pose (R47, R53) -/

/-- The SensorLoss records in a state that `moves` names are put into the state `st`, each with its notice. -/
def sensorLossMoved (moves : RecordState → Bool) (st : RecordState) (w : Work) : Work :=
  ⟨setIntervention { w.state.intervention with
      list := w.state.intervention.list.map fun r =>
        if r.isSensorLoss ∧ moves r.state then { r with state := st } else r } w.state,
    w.notices ++ (w.state.intervention.list.filter fun r => r.isSensorLoss && moves r.state).map fun r =>
      (r.seq, recordNoticeData { r with state := st } st.num)⟩

/-- A change of SensorLoss records that only moves their state. -/
theorem change_sensorLoss (f : Record → Record) (moves : RecordState → Bool) (st : RecordState)
    (hf : ∀ r, f r = if moves r.state then { r with state := st } else r) (w : Work) :
    w.change Record.isSensorLoss f (fun r => moves r.state) = sensorLossMoved moves st w := by
  have hlist : mapWhere Record.isSensorLoss f w.state.intervention.list = w.state.intervention.list.map fun r =>
      if r.isSensorLoss ∧ moves r.state then { r with state := st } else r :=
    List.map_congr_left fun r _ => by rw [hf, ← ite_and]
  rw [Work.change_eq, hlist]
  refine congrArg (Work.mk _) (congrArg (w.notices ++ ·) (List.map_congr_left fun r hr => ?_))
  have hmoves : moves r.state = true := (Bool.and_eq_true _ _ ▸ (List.mem_filter.1 hr).2).2
  rw [hf, if_pos hmoves]

theorem poseQuality_valid (before : PoseQuality) (w : Work) (hold : inHold w.state = false)
    (hq : w.state.pose.pose.quality = .valid) :
    w.poseQuality before = sensorLossMoved (fun st => st == .raised || st == .confirmed) .clearable w := by
  rw [Work.poseQuality, unlessHold_outside _ _ hold]
  simp only [hq]
  exact change_sensorLoss Record.clear (fun st => st == .raised || st == .confirmed) .clearable (fun r => rfl) w

theorem poseQuality_unmoved (before : PoseQuality) (w : Work)
    (h : inHold w.state = true ∨ w.state.pose.pose.quality = .degraded
      ∨ (w.state.pose.pose.quality = .invalid ∧ before = .invalid)) : w.poseQuality before = w := by
  unfold Work.poseQuality Work.unlessHold
  rcases h with h | h | ⟨h, rfl⟩ <;> simp [h]

theorem poseQuality_lost (before : PoseQuality) (w : Work) (hold : inHold w.state = false)
    (hq : w.state.pose.pose.quality = .invalid) (hbefore : before ≠ .invalid) :
    w.poseQuality before = if w.state.intervention.list.any Record.isSensorLoss then
        sensorLossMoved (fun st => st == .clearable) .raised w
      else if w.state.limits.any armedStop then
        w.raise .sensorLoss none .poseInvalid (armedMotions w.state.limits)
      else w := by
  rw [Work.poseQuality, unlessHold_outside _ _ hold]
  simp only [hq, beq_iff_eq, hbefore, ↓reduceIte, Work.lossOfPose,
    change_sensorLoss Record.reRaise (fun st => st == .clearable) .raised (fun r => rfl) w]

/-! ## The evaluation of an entry (R25 to R32) -/

theorem limitNext_ne_disabled (st : LimitState) (c m h : Int) (hst : st ≠ .disabled) :
    limitNext st c m h ≠ .disabled := by
  cases st
  case disabled => exact absurd rfl hst
  case pending => rw [limitNext_pending]; repeat' split
                  all_goals decide
  case clear => rw [limitNext_clear]; repeat' split
                all_goals decide
  case approach => rw [limitNext_approach]; repeat' split
                   all_goals decide
  case breach => rw [limitNext_breach]; repeat' split
                 all_goals decide

theorem modify_set {α : Type} (f : α → α) (l : List α) (i : Nat) (x : α) :
    (l.set i x).modify i f = l.set i (f x) := by
  apply List.ext_getElem?
  intro j
  simp only [List.getElem?_modify, List.getElem?_set]
  by_cases hij : i = j
  · subst hij
    by_cases hi : i < l.length <;> simp [hi]
  · simp [hij]

/-- The state that an evaluation gives an entry. -/
def nextState (e : LimitEntry) (s : State) : LimitState :=
  if inScope e.config.scope s.pose.pose.slewAngle then
    limitNext e.state (clearance s e.config) e.config.margin e.config.kind.hysteresis
  else .clear

theorem nextState_ne_disabled (e : LimitEntry) (s : State) (h : e.state ≠ .disabled) :
    nextState e s ≠ .disabled := by
  unfold nextState
  split
  · exact limitNext_ne_disabled _ _ _ _ h
  · decide

/-- The entry that an evaluation leaves, before its notice is queued or owed. -/
def newEntry (e : LimitEntry) (s : State) : LimitEntry :=
  e.evaluated (nextState e s) (clearance s e.config) (causeOf s e.config)

/-- The notice of an event that an evaluation makes. -/
def noticeOf (i : Nat) (e : LimitEntry) (s : State) (ev : WarnEvent) : WarnNotice :=
  ⟨i, e.config.kind, ev, clearance s e.config, s.pose.pose.updates⟩

/-- The ring after the notice of an evaluation's event, where there is an event and a place for it. -/
def toldOf (i : Nat) (e : LimitEntry) (s : State) : Option Biu :=
  (warnEvent e (nextState e s) (clearance s e.config)).bind fun ev =>
    s.bus.queueNotice (warnNoticeData (noticeOf i e s ev)) none

/-- An evaluation sets its entry, and queues the notice of its event or has the entry owe it. -/
theorem evaluateEntry_eq (i : Nat) (e : LimitEntry) (s : State) :
    let event := warnEvent e (nextState e s) (clearance s e.config)
    evaluateEntry i e s = ({ s with
        bus := (toldOf i e s).getD s.bus
        limits := s.limits.set i { newEntry e s with
          owed := if event = none then e.owed else if (toldOf i e s).isSome then none
            else event.map (noticeOf i e s) } },
      breachHanded i e (newEntry e s) ++ goneHanded i e (newEntry e s)) := by
  intro event
  refine Prod.ext ?_ rfl
  show (match event with
    | some ev => queueWarning (noticeOf i e s ev) (setLimit i (newEntry e s) s)
    | none => setLimit i (newEntry e s) s) = _
  unfold toldOf
  cases hevent : event with
  | none =>
    have : warnEvent e (nextState e s) (clearance s e.config) = none := hevent
    simp only [this]
    rfl
  | some ev =>
    have : warnEvent e (nextState e s) (clearance s e.config) = some ev := hevent
    simp only [this, queueWarning, setLimit_bus, Option.bind_some]
    cases s.bus.queueNotice (warnNoticeData (noticeOf i e s ev)) none with
    | none => exact congrArg (fun l => { s with limits := l }) (modify_set _ _ _ _)
    | some b => exact congrArg (fun l => { s with bus := b, limits := l }) (modify_set _ _ _ _)

theorem warnEvent_eq (e : LimitEntry) (next : LimitState) (c : Int) :
    warnEvent e next c = if next = .approach ∧ e.state ≠ .approach then some .approach
      else if next = .breach ∧ e.state ≠ .breach ∧ e.config.action = .warn then some .breach
      else if next = .pending ∧ e.warning = false ∧ c ≤ e.config.margin then some .pending
      else none := by
  cases next <;> simp [warnEvent]

/-- What an evaluation that leaves the entry in `next` makes of its fields (R26, R31; log 16, 49). -/
theorem evaluated_eq (e : LimitEntry) (next : LimitState) (c : Int) (cause : BreachCause) (h : next ≠ .disabled) :
    e.evaluated next c cause = { e with
      state := next
      last := some c
      warning := if next = .approach ∨ next = .breach then true
        else if next = .clear then (if e.state ≠ .clear ∧ e.config.latch = .follow then false else e.warning)
        else e.warning || decide (c ≤ e.config.margin)
      cause := if next ≠ .breach then none
        else if e.state = .breach ∧ 0 < c then e.cause else some cause } := by
  unfold LimitEntry.evaluated
  cases next <;> simp at h ⊢

/-- An entry with action Warn, or whose new state is not Breach, hands on no raise and no cause. -/
theorem breachHanded_of_idle (i : Nat) (e new : LimitEntry)
    (h : ¬ (e.config.action ≠ .warn ∧ new.state = .breach)) : breachHanded i e new = [] := by
  unfold breachHanded
  cases haction : e.config.action <;> cases hstate : new.state <;> simp [haction, hstate] at h ⊢

/-- A guarding entry in Breach hands on a raise when it enters Breach, and a cause when the cause is new. -/
theorem breachHanded_of_breach (i : Nat) (e new : LimitEntry)
    (h : e.config.action ≠ .warn ∧ new.state = .breach) :
    breachHanded i e new = match new.cause with
      | none => []
      | some c =>
        if e.state ≠ .breach then
          [.raise i (if e.config.action = .stop then .limitStop else .limitSlow) c e.config.guarded]
        else if e.cause ≠ some c then [.cause i c]
        else [] := by
  obtain ⟨haction, hstate⟩ := h
  unfold breachHanded
  rw [hstate]
  cases hkind : e.config.action
  · exact absurd hkind haction
  all_goals cases new.cause <;> simp

/-- The raise request or the cause that an evaluation hands on (R29). -/
theorem breachHanded_eq (i : Nat) (e : LimitEntry) (next : LimitState) (c : Int) (cause : BreachCause) :
    let new := e.evaluated next c cause
    breachHanded i e new =
      if (e.config.action ≠ .warn ∧ next = .breach) ∧ e.state ≠ .breach then
        [.raise i (if e.config.action = .stop then .limitStop else .limitSlow) cause e.config.guarded]
      else if (e.config.action ≠ .warn ∧ next = .breach) ∧ new.cause ≠ e.cause then
        new.cause.toList.map (Handed.cause i)
      else [] := by
  intro new
  have hcause : new.cause = if next != .breach then none
    else if e.state == .breach && decide (0 < c) then e.cause else some cause := rfl
  by_cases hacts : e.config.action ≠ .warn ∧ next = .breach
  · rw [breachHanded_of_breach i e new hacts]
    by_cases hbreach : e.state = .breach
    · refine Eq.trans ?_ (if_neg fun h => h.2 hbreach).symm
      cases hnew : new.cause with
      | none => simp
      | some x => simp [hacts.1, hacts.2, hbreach, eq_comm]
    · have hentered : new.cause = some cause := by simp [hcause, hacts.2, hbreach]
      refine Eq.trans ?_ (if_pos ⟨hacts, hbreach⟩).symm
      rw [hentered]
      exact if_pos hbreach
  · refine (breachHanded_of_idle i e new hacts).trans ?_
    exact ((if_neg fun h => hacts h.1).trans (if_neg fun h => hacts h.1)).symm

theorem goneHanded_eq (i : Nat) (e new : LimitEntry) :
    goneHanded i e new = if decide (e.state = .clear ∨ e.state = .approach)
        = decide (new.state = .clear ∨ new.state = .approach) then []
      else [.report i (decide (new.state = .clear ∨ new.state = .approach))] := by
  have hgone : ∀ st : LimitState, decide (st = .clear ∨ st = .approach) = st.gone := fun st => by
    simp only [← gone_iff, Bool.decide_eq_true]
  simp only [hgone, goneHanded, beq_iff_eq]

/-! ## A pose update (R3, R25) -/

theorem envelopePose_invalid (s : State) (h : s.pose.pose.quality = .invalid) : envelopePose s = (s, []) := by
  simp [envelopePose, h]

/-- The armed entries are evaluated in index order, each over what the one before it left. -/
theorem envelopePose_evaluates (s : State) (h : s.pose.pose.quality ≠ .invalid) :
    envelopePose s = (List.range 12).foldl (fun p i =>
      match p.1.limits[i]? with
      | none => p
      | some e => if e.state = .disabled then p
        else ((evaluateEntry i e p.1).1, p.2 ++ (evaluateEntry i e p.1).2)) (s, []) := by
  have hpose : ¬ (s.pose.pose.quality == .invalid) = true := by simpa using h
  rw [envelopePose, if_neg hpose, evaluateAll]
  refine congrArg (fun f => (List.range 12).foldl f (s, [])) (funext fun p => funext fun i => ?_)
  obtain ⟨u, hs⟩ := p
  dsimp only
  cases u.limits[i]? with
  | none => rfl
  | some e => simp only [beq_iff_eq]

theorem consumePose_eq (before : PoseQuality) (s : State) :
    let p := envelopePose s
    consumePose before s = interventionEvent (fun w => (p.2.foldl Work.take w).poseQuality before)
      (guidancePose (if willRaise p.1 p.2 = true ∧ wouldComplete p.1 = true then
          useFree (if Config.announcementFirst p.1.freeCount then abandonCycle p.1 else p.1)
        else p.1)) := by
  simp only [consumePose, Bool.and_eq_true]

/-- The state, notice and hand-over of one evaluation, spelt out field by field. -/
theorem evaluateEntry_spelt (i : Nat) (e : LimitEntry) (s : State) (hstate : e.state ≠ .disabled) :
    let c := clearance s e.config
    let next := nextState e s
    let cause : Option BreachCause := if next ≠ .breach then none
      else if e.state = .breach ∧ 0 < c then e.cause else some (causeOf s e.config)
    let event := warnEvent e next c
    let acts := e.config.action ≠ .warn ∧ next = .breach
    let gone := fun st : LimitState => decide (st = .clear ∨ st = .approach)
    let t := evaluateEntry i e s
    t.1.limits = s.limits.set i { e with
        state := next
        last := some c
        warning := if next = .approach ∨ next = .breach then true
          else if next = .clear then (if e.state ≠ .clear ∧ e.config.latch = .follow then false else e.warning)
          else e.warning || decide (c ≤ e.config.margin)
        cause := cause
        owed := if event = none then e.owed else if (toldOf i e s).isSome then none
          else event.map (noticeOf i e s) }
      ∧ t.1.bus = (toldOf i e s).getD s.bus ∧ { t.1 with limits := s.limits, bus := s.bus } = s
      ∧ t.2 = (if acts ∧ e.state ≠ .breach then
            [.raise i (if e.config.action = .stop then .limitStop else .limitSlow) (causeOf s e.config)
              e.config.guarded]
          else if acts ∧ cause ≠ e.cause then cause.toList.map (Handed.cause i)
          else [])
        ++ if gone e.state = gone next then [] else [.report i (gone next)] := by
  intro c next cause event acts gone t
  have hnew : newEntry e s = _ := evaluated_eq e next c (causeOf s e.config) (nextState_ne_disabled e s hstate)
  have hcause : (newEntry e s).cause = cause := by rw [hnew]
  have ht : t = _ := evaluateEntry_eq i e s
  refine ⟨?_, ?_, ?_, ?_⟩
  · rw [ht, hnew]
  · rw [ht]
  · rw [ht]
  · have hraise := breachHanded_eq i e next c (causeOf s e.config)
    rw [← hcause]
    rw [ht]
    exact congrArg₂ (· ++ ·) hraise (goneHanded_eq i e (newEntry e s))

/-! ## The raise, spelt out (R43, R44, R50) -/

/-- What a listed record leaves of the economy state machine (R96). -/
theorem listing_economy (r : Record) (s : State) :
    (listing r s).economy.days = { s.economy.days with opened := { s.economy.days.opened with
        interventions := min 65535 (s.economy.days.opened.interventions + 1) } }
      ∧ (s.intervention.list = [] → s.economy.state ∈ [.idleWait, .idling, .resuming, .shutdownPending] →
        (listing r s).economy.state = .held ∧ (listing r s).economy.waitTimer = none
          ∧ (listing r s).economy.shutdownTimer = none ∧ (listing r s).economy.resumeTimer = none)
      ∧ (s.intervention.list ≠ [] ∨ s.economy.state ∉ [.idleWait, .idling, .resuming, .shutdownPending] →
        { (listing r s).economy with days := s.economy.days } = s.economy) := by
  have heconomy : (listing r s).economy
    = if leavesIdle s then s.economy.countRaise.enter .held else s.economy.countRaise := rfl
  rw [heconomy]
  refine ⟨?_, fun hlist hstate => ?_, fun h => ?_⟩
  · split <;> rfl
  · rw [if_pos ((leavesIdle_iff s).2 ⟨hlist, hstate⟩)]
    exact ⟨rfl, rfl, rfl, rfl⟩
  · have hstays : ¬ leavesIdle s = true := by
      rw [leavesIdle_iff]
      exact fun hn => h.elim (· hn.1) (· hn.2)
    rw [if_neg hstays]
    rfl

/-- Settles O60: each clause is the equation of one step of an evaluation, of a pose update, or of an event at the
list. -/
theorem evaluationsActOnRecords : Obligations.EvaluationsActOnRecords := by
  refine ⟨fun i e s hstate => ?_, fun s => ⟨envelopePose_invalid s, envelopePose_evaluates s⟩, consumePose_eq,
    fun f s => ⟨interventionEvent_of_hold f s, interventionEvent_outside f s⟩,
    fun h w => ⟨unlessHold_of_hold _ w, unlessHold_outside _ w⟩, fun kind source cause blocked w => ?_,
    fun i kind c blocked w => ⟨fun h => ?_, fun h => ?_, Work.setCause_eq i c w⟩, Work.change_eq, Work.remove_eq,
    fun i s => ⟨breachReport_gone_list i _, breachReport_gone_notices i _, breachReport_back_list i _,
      breachReport_back_notices i _⟩, fun before w => ?_, fun w => rfl, queueRecordNotice_eq, fun b data fence => ?_⟩
  · have h := evaluateEntry_spelt i e s hstate
    simp only [toldOf, warnEvent_eq] at h
    exact h
  · intro s u p r t
    refine ⟨raise_of_exhausted _ _ _ _ w, inHold_raise _ _ _ _ w, fun h => ?_⟩
    have ht : t = _ := raise_eq kind source cause blocked w h
    refine ⟨by rw [ht]; rfl, listing r s, fun hlast => ?_, fun hlast => ?_, rfl, rfl, listing_economy r s |>.1,
      (listing_economy r s).2.1, (listing_economy r s).2.2, rfl⟩
    · rw [ht]
      exact if_neg (Nat.ne_of_lt hlast)
    · rw [ht]
      exact if_pos hlast
  · rw [Work.raiseRequest, if_neg (by simp [h])]
  · rw [Work.raiseRequest, if_pos h]
  · intro u q changed acts
    refine ⟨poseQuality_valid before w, poseQuality_unmoved before w, fun hold hq hbefore => ?_⟩
    have hlost := poseQuality_lost before w hold hq hbefore
    refine ⟨fun hany => hlost.trans (if_pos hany), fun hnone harmed => ?_, fun hnone harmed => ?_⟩
    · exact hlost.trans ((if_neg (Bool.eq_false_iff.1 hnone)).trans (if_pos harmed))
    · exact hlost.trans ((if_neg (Bool.eq_false_iff.1 hnone)).trans (if_neg (Bool.eq_false_iff.1 harmed)))
  · intro mayGo join
    refine ⟨fun hroom => ?_, fun hfull hany => ?_, fun hfull hnone => ?_⟩
    · exact (queueNotice_eq b data fence).trans (if_pos hroom)
    · exact (queueNotice_eq b data fence).trans ((if_neg (by omega)).trans (if_pos hany))
    · exact (queueNotice_eq b data fence).trans ((if_neg (by omega)).trans (if_neg (Bool.eq_false_iff.1 hnone)))

end Sys2Proof.Machine
end

section
/-! PROOFS. The end of a store write, what it programs, answers and offers, and the beginning of the next (R40, R106,
R128, R131 to R134, R152, R187, R188). -/

namespace Sys2Proof.Machine

/-! ## Areas in two copies (R187) -/

section
variable {α : Type} {ok : α → Bool} {a : Area α}

theorem Copy.valid_iff (ok : α → Bool) (c : Copy α) : c.valid ok = true ↔ c.checksumOk = true ∧ ok c.content = true := by
  simp [Copy.valid]

/-- No copy is valid. -/
theorem Area.best_none (h0 : ¬ (a.copy0.checksumOk = true ∧ ok a.copy0.content = true))
    (h1 : ¬ (a.copy1.checksumOk = true ∧ ok a.copy1.content = true)) : a.best ok = none := by
  rw [← Copy.valid_iff, Bool.not_eq_true] at h0 h1
  simp [Area.best, h0, h1]

/-- Copy 0 is valid, and copy 1 is not or is no later. -/
theorem Area.best_copy0 (h0 : a.copy0.checksumOk = true ∧ ok a.copy0.content = true)
    (h1 : (a.copy1.checksumOk = true ∧ ok a.copy1.content = true) → a.copy1.generation ≤ a.copy0.generation) :
    a.best ok = some false := by
  rw [← Copy.valid_iff] at h0 h1
  cases hv : a.copy1.valid ok
  · simp [Area.best, h0, hv]
  · simpa [Area.best, h0, hv] using h1 hv

/-- Copy 1 is valid, and copy 0 is not or is earlier. -/
theorem Area.best_copy1 (h1 : a.copy1.checksumOk = true ∧ ok a.copy1.content = true)
    (h0 : (a.copy0.checksumOk = true ∧ ok a.copy0.content = true) → a.copy0.generation < a.copy1.generation) :
    a.best ok = some true := by
  rw [← Copy.valid_iff] at h0 h1
  cases hv : a.copy0.valid ok
  · simp [Area.best, h1, hv]
  · simpa [Area.best, h1, hv] using h0 hv

/-- A write goes to the copy that is not the best one, with the generation after the best one's. -/
theorem Area.write_of_best (x : α) (free : Nat) : a.write ok x free = match a.best ok with
    | none => { a with copy0 := ⟨true, 1, x⟩ }
    | some false => { a with copy1 := ⟨true, nextGeneration a.copy0.generation free, x⟩ }
    | some true => { a with copy0 := ⟨true, nextGeneration a.copy1.generation free, x⟩ } := by
  unfold Area.write Area.target Area.newGeneration
  cases a.best ok with
  | none => rfl
  | some b => cases b <;> rfl

end

/-! ## The jobs of the queue (R188) -/

theorem isCheckpoint_iff (j : Job) : j.isCheckpoint = true ↔ j = .checkpoint := by
  cases j <;> simp [Job.isCheckpoint]

theorem beginWrite_begins (s : State) (j : Job) (rest : List Job) (hwriting : s.store.writing = none)
    (hrestart : s.restart = none) (hqueue : s.store.queue = j :: rest) :
    beginWrite s = { s with
      store := { s.store with queue := rest, writing := some ⟨j, jobContent j s, s.now + j.time⟩ }
      meter := if j = .checkpoint then { s.meter with job := .inFlight } else s.meter } := by
  unfold beginWrite
  rw [hwriting, hrestart, hqueue]
  simp only [isCheckpoint_iff]

theorem beginWrite_waits (s : State) (h : s.store.writing ≠ none ∨ s.restart ≠ none ∨ s.store.queue = []) :
    beginWrite s = s := by
  unfold beginWrite
  split
  next hwriting hrestart hqueue => simp [hwriting, hrestart, hqueue] at h
  next => rfl

theorem mem_tickets_iff (j : Job) (t : Ticket) : t ∈ j.tickets ↔ ∃ l : List Ticket, t ∈ l
    ∧ (j = .gradeProfile l ∨ j = .limitArea l ∨ j = .history l ∨ j = .serviceState l
      ∨ ∃ b w, j = .imageBlock b w t) := by
  cases j with
  | imageBlock b w u =>
    simp only [Job.tickets, List.mem_singleton, reduceCtorEq, false_or, Job.imageBlock.injEq]
    constructor
    · rintro rfl
      exact ⟨[t], List.mem_singleton_self t, b, w, rfl, rfl, rfl⟩
    · rintro ⟨_, _, _, _, _, _, rfl⟩
      rfl
  | _ => simp [Job.tickets]

/-- What a job of the limit area writes. -/
theorem storedLimits_eq (s : State) :
    storedLimits s = s.limits.map fun e => ⟨e.config, decide (e.state ≠ .disabled)⟩ := by
  refine List.map_congr_left fun e _ => congrArg (StoredLimit.mk e.config) ?_
  cases e.state <;> rfl

theorem stillWaits_iff (s : State) (t : Ticket) : stillWaits s t = true ↔ ∃ j ∈ s.store.queue, ∃ l : List Ticket, t ∈ l
    ∧ (j = .gradeProfile l ∨ j = .limitArea l ∨ j = .history l ∨ j = .serviceState l
      ∨ ∃ b w, j = .imageBlock b w t) := by
  simp only [stillWaits, List.any_eq_true, List.contains_iff_mem, mem_tickets_iff]

/-! ## The replies of limit requests (R40; log 24, 76) -/

theorem limitReply_taught (i : Nat) (e : LimitEntry) :
    limitReply 7#8 i e = [byte i, byte e.config.kind.num] ++ le 2 e.config.value ++ [byte e.state.num] := rfl

theorem limitReply_elsewhere (code : Byte) (i : Nat) (e : LimitEntry) (h7 : code ≠ 7#8) (h8 : code ≠ 8#8) :
    limitReply code i e = [byte i, byte e.state.num] := by
  simp [limitReply, h7, h8]

/-- SET_LIMIT's reply is the entry's fields in order. -/
theorem limitReply_set (i : Nat) (e : LimitEntry) : limitReply 8#8 i e
    = [byte i, byte e.config.kind.num] ++ le 2 e.config.value ++ le 2 e.config.margin
      ++ [byte e.config.action.num, e.config.guarded] ++ scopeBytes e.config
      ++ [byte e.config.owner.num, byte e.config.latch.num, byte e.state.num, flagByte e.warning]
      ++ signed24 e.last ++ presence 1 (e.cause.map fun c => [byte c.num]) ++ presence 8 (e.owed.map noticeBytes) := by
  have h : limitReply 8#8 i e = (limitFields i e).flatten := rfl
  rw [h]
  simp [limitFields, valueBytes]

/-! ## The end of a write (R106, R131 to R134, R152, R188) -/

theorem exec_storeWriteComplete (s : State) (w : Writing) (hwriting : s.store.writing = some w)
    (hends : w.ends ≤ s.now) :
    exec .storeWriteComplete s = .next (settle s (offerServiceJob (offerDayJob (offerPendingCheckpoint
      (jobCompleted w { s with
        freeCount := s.freeCount + 1
        store := { s.store.programmed w.content s.freeCount with writing := none } }))))) := by
  have hdue : writeDue s = true := by simp [writeDue, hwriting, hends]
  show finish s (if writeDue s then writeCompleted s else s) = _
  rw [if_pos hdue, writeCompleted, hwriting]
  rfl

/-- A checkpoint queued in place of the pending one, on a queue that holds it. -/
def pendingQueued (q : List Job) (s : State) : State :=
  { s with
    store := { s.store with queue := q }
    meter := { s.meter with
      sequence := s.meter.sequence + 1, job := .queued, pending := .clear
      waiters := s.meter.waiters.map fun w => { w with onPending := false }
      snapshot := some ⟨s.meter.sequence + 1, s.meter.meters, s.economy.lifetime⟩ } }

theorem takeOverPending_queueCheckpoint (urgent : Bool) (s : State) :
    takeOverPending (queueCheckpoint urgent s)
      = pendingQueued (if urgent then .checkpoint :: s.store.queue else s.store.queue ++ [.checkpoint]) s := by
  cases urgent <;> rfl

/-- The pending checkpoint at a free place (R131 to R134). -/
theorem offerPendingCheckpoint_eq (s : State) :
    offerPendingCheckpoint s = if s.meter.job ≠ .none then s
      else match s.meter.pending with
        | .clear => s
        | .set => if 4294967295 ≤ s.meter.sequence then exhaustCheckpoints s
          else if s.store.queue.length < 6 then pendingQueued (s.store.queue ++ [.checkpoint]) s else s
        | .setUrgent => if 4294967295 ≤ s.meter.sequence then exhaustCheckpoints s
          else pendingQueued (.checkpoint :: s.store.queue) s := by
  unfold offerPendingCheckpoint checkpointExhausted placeFree max32
  simp only [takeOverPending_queueCheckpoint, bne_iff_ne, decide_eq_true_eq]
  rfl

theorem offerDayJob_eq (s : State) : offerDayJob s
    = if s.economy.writePending = true ∧ s.store.queue.length < 6 then wantDayJob s else s := by
  simp only [offerDayJob, placeFree, Bool.and_eq_true, decide_eq_true_eq]

theorem offerServiceJob_eq (s : State) : offerServiceJob s
    = if s.service.writePending = true ∧ s.store.queue.length < 6 then wantServiceJob s else s := by
  simp only [offerServiceJob, placeFree, Bool.and_eq_true, decide_eq_true_eq]

theorem answerLimit_of_entry (t : Ticket) (s : State) (e : LimitEntry) (h : s.limits[t.index]? = some e) :
    answerLimit t s = finishRequest t .done (limitReply t.code t.index e) s := by
  simp only [answerLimit, h]

theorem answerService_of_item (t : Ticket) (s : State) (item : ServiceItem)
    (h : s.service.items[t.index]? = some (some item)) :
    answerService t s = finishRequest t .done ([byte t.index] ++ lastMeterBytes item.lastMeter
      ++ dateBytes item.lastDate ++ [byte item.state.num]) s := by
  simp only [answerService, h]
  rfl

/-- Settles O55: each clause is the equation of one operation of the store or of the end of a write. -/
theorem storeWrites : Obligations.StoreWrites := by
  refine ⟨exec_storeWriteComplete, beginWrite_begins, beginWrite_waits, stillWaits_iff, fun code i e => ?_,
    fun s b w t l => ?_, fun s => ?_, fun p free => ?_, fun i b c w h => getBlock_setBlock c b w i.blocks h,
    fun α ok a x free => ?_, fun s ends content => ?_⟩
  · intro c scope cause owed last
    have hscope : scopeBytes e.config = scope := by
      simp only [scope, c, scopeBytes]
      cases e.config.scope <;> rfl
    have hcause : presence 1 (e.cause.map fun c => [byte c.num]) = cause := by
      simp only [cause]
      cases e.cause <;> rfl
    have howed : presence 8 (e.owed.map noticeBytes) = owed := by
      simp only [owed]
      cases e.owed <;> rfl
    have hlast : signed24 e.last = last := by
      simp only [last]
      cases e.last <;> rfl
    refine ⟨?_, ?_, limitReply_elsewhere code i e⟩
    · rintro rfl
      exact limitReply_taught i e
    · rintro rfl
      rw [← hscope, ← hcause, ← howed, ← hlast]
      exact limitReply_set i e
  · refine ⟨rfl, fun c hc => ?_, rfl, ?_, rfl, rfl, rfl, rfl, rfl, rfl, rfl, rfl, rfl, rfl⟩
    · simp [jobContent, hc]
    · exact congrArg Content.limitArea (storedLimits_eq s)
  · intro u q queued
    refine ⟨fun h => ?_, fun hjob hpending hlast => ?_, fun hjob hpending hlast => ?_,
      fun hjob hpending hlast => ?_, offerDayJob_eq s, offerServiceJob_eq s⟩ <;>
      refine (offerPendingCheckpoint_eq s).trans ?_
    · by_cases hjob : u.job = .none
      · rw [if_neg (not_not.2 hjob), show s.meter.pending = .clear from h.resolve_left (not_not.2 hjob)]
      · exact if_pos hjob
    · rw [if_neg (not_not.2 hjob)]
      cases hmark : s.meter.pending with
      | clear => exact absurd hmark hpending
      | set => exact if_pos hlast
      | setUrgent => exact if_pos hlast
    · rw [if_neg (not_not.2 hjob), show s.meter.pending = .set from hpending]
      exact if_neg (Nat.not_le_of_lt hlast)
    · rw [if_neg (not_not.2 hjob), show s.meter.pending = .setUrgent from hpending]
      exact if_neg (Nat.not_le_of_lt hlast)
  · exact ⟨fun _ _ => rfl, fun _ => rfl, fun _ => rfl, fun _ => rfl, fun _ => rfl, fun _ => rfl, fun _ => rfl⟩
  · refine ⟨fun h0 h1 => ?_, fun h0 h1 => ?_, fun h1 h0 => ?_⟩
    · rw [Area.write_of_best, Area.best_none h0 h1]
    · rw [Area.write_of_best, Area.best_copy0 h0 h1]
      rfl
    · rw [Area.write_of_best, Area.best_copy1 h1 h0]
      rfl
  · exact ⟨fun _ _ _ => rfl, fun _ => rfl, fun _ => rfl, fun _ => rfl, fun _ => rfl, fun _ => rfl, rfl,
      fun t e h => answerLimit_of_entry t s e h, fun t item h => answerService_of_item t s item h⟩

end Sys2Proof.Machine
end

section
/-! PROOFS. The checks of a configuration image, each given field by field (R6, R12, R13, R19, R20, R73, R81, R86,
R110, R118, R126, R138, R156, R160, R191). -/

namespace Sys2Proof.Machine

/-! ## Topics (R156, R160) -/

theorem distinct_iff (l : List Nat) : distinct l = true ↔ l.Nodup := by
  induction l with
  | nil => simp [distinct]
  | cons x l ih => simp [distinct, ih]

/-- The subscription entries of a role. -/
def entriesOfRole (f : ImageFields) (r : Role) : List SubConfig := f.subs.filter fun c => c.role == r

theorem subConfig_ok_iff (own : Nat) (c : SubConfig) : SubConfig.ok own c = true ↔
    c.topic ≤ 2047 ∧ 1 ≤ c.station ∧ c.station ≤ 31 ∧ c.station ≠ own
      ∧ (c.role = .request ∨ (10 ≤ c.staleLimit ∧ c.staleLimit ≤ 10000 ∧ c.staleLimit < c.lostLimit
        ∧ c.lostLimit ≤ 60000)) := by
  simp [SubConfig.ok, and_assoc]

theorem subsOk_iff (own : Nat) (f : ImageFields) : subsOk own f = true ↔
    f.subs.length ≤ 40
      ∧ (∀ c ∈ f.subs, c.topic ≤ 2047 ∧ 1 ≤ c.station ∧ c.station ≤ 31 ∧ c.station ≠ own
        ∧ (c.role = .request ∨ (10 ≤ c.staleLimit ∧ c.staleLimit ≤ 10000 ∧ c.staleLimit < c.lostLimit
          ∧ c.lostLimit ≤ 60000)))
      ∧ (∀ r ∈ [Role.boomPos, .armPos, .bucketLink, .slewPos, .chassisTilt, .engineRun, .engineFuel, .coolant,
          .pump, .pilot, .valveCut], (entriesOfRole f r).length = 1)
      ∧ (entriesOfRole f .extCut).length ≤ 3 ∧ ((entriesOfRole f .extCut).map (·.station)).Nodup
      ∧ (entriesOfRole f .timeSync).length ≤ 1
      ∧ 1 ≤ (entriesOfRole f .request).length ∧ ((entriesOfRole f .request).map (·.station)).Nodup
      ∧ (f.subs.map (·.topic)).Nodup ∧ (∀ c ∈ f.subs, c.topic ∉ publicationTopics f.pubs) := by
  have hcount : ∀ r, roleCount f.subs r = (entriesOfRole f r).length := fun _ => rfl
  have hstations : ∀ r, roleStations f.subs r = (entriesOfRole f r).map (·.station) := fun _ => rfl
  simp only [subsOk, hcount, hstations, Bool.and_eq_true, decide_eq_true_eq, List.all_eq_true, subConfig_ok_iff,
    distinct_iff, beq_iff_eq, Bool.not_eq_true', List.contains_eq_mem, decide_eq_false_iff_not, and_assoc]

theorem pubsOk_iff (p : PubTopics) : pubsOk p = true ↔
    (∀ x ∈ [p.cutDemand, p.guidance, p.engineReq, p.meters, p.status, p.notice, p.reply], x ≠ none)
      ∧ (∀ t ∈ publicationTopics p, t ≤ 2047) ∧ (publicationTopics p).Nodup := by
  simp only [pubsOk, Bool.and_eq_true, List.all_eq_true, decide_eq_true_eq, distinct_iff, List.forall_mem_cons,
    List.not_mem_nil, false_imp_iff, implies_true, and_true, Option.isSome_iff_ne_none, and_assoc]

/-! ## Geometry and descriptors (R6, R12, R13) -/

theorem within_iff (lo hi n : Int) : within lo hi n = true ↔ lo ≤ n ∧ n ≤ hi := by
  simp [within]

theorem geometryOk_iff (g : Geometry) : geometryOk g = true ↔
    500 ≤ g.lb ∧ g.lb ≤ 32767 ∧ 500 ≤ g.la ∧ g.la ≤ 32767 ∧ 500 ≤ g.lk ∧ g.lk ≤ 32767
      ∧ -32767 ≤ g.x0 ∧ g.x0 ≤ 32767 ∧ 0 ≤ g.h0 ∧ g.h0 ≤ 32767
      ∧ (g.x0.natAbs : Int) + g.lb + g.la + g.lk ≤ 32767 ∧ g.h0 + g.lb + g.la + g.lk ≤ 32767 := by
  simp only [geometryOk, Bool.and_eq_true, within_iff, decide_eq_true_eq, and_assoc]

theorem mem_indexed {α : Type} (l : List α) (i : Nat) (x : α) : (i, x) ∈ indexed l ↔ l[i]? = some x := by
  unfold indexed
  rw [List.mem_iff_getElem?]
  simp only [List.getElem?_zip_eq_some]
  constructor
  · rintro ⟨n, hn, hx⟩
    obtain ⟨_, rfl⟩ := List.getElem?_eq_some_iff.1 hn
    simpa using hx
  · intro hx
    obtain ⟨hi, -⟩ := List.getElem?_eq_some_iff.1 hx
    exact ⟨i, by simp [hi], hx⟩

/-- One descriptor: a spare is Unused; the others' table, origin and points lie in their ranges. -/
theorem descriptorOk_iff (pool : List Int) (i : Nat) (d : DescConfig) : descriptorOk pool i d = true ↔
    (3 ≤ i → d.limit = 0)
      ∧ (i < 3 → 2 ≤ d.limit ∧ d.limit ≤ 64 ∧ d.base ≤ 255 ∧ d.base + d.limit ≤ 256
        ∧ 1 ≤ d.step ∧ d.step ≤ 32767
        ∧ (i = 0 → 0 ≤ d.origin ∧ d.origin ≤ 6000) ∧ (i = 1 → 0 ≤ d.origin ∧ d.origin ≤ 1000)
        ∧ (i = 2 → -40 ≤ d.origin ∧ d.origin ≤ 150)
        ∧ ∀ v ∈ d.fixedValue :: (pool.drop d.base).take d.limit,
          (i = 0 → -18000 ≤ v ∧ v ≤ 18000) ∧ (i = 1 → 0 ≤ v ∧ v ≤ 16383)
            ∧ (i = 2 → 500 ≤ v ∧ v ≤ 4000)) := by
  match i with
  | 0 | 1 | 2 =>
    simp [descriptorOk, inputRange, inPointRange_iff, within_iff]
    tauto
  | n + 3 => simp [descriptorOk]

theorem descriptorsOk_iff (f : ImageFields) : descriptorsOk f = true ↔
    f.descriptors.length = 6 ∧ f.pool.length = 256 ∧ (∀ v ∈ f.pool, -32767 ≤ v ∧ v ≤ 32767)
      ∧ ∀ (i : Nat) (d : DescConfig), f.descriptors[i]? = some d → (3 ≤ i → d.limit = 0)
        ∧ (i < 3 → 2 ≤ d.limit ∧ d.limit ≤ 64 ∧ d.base ≤ 255 ∧ d.base + d.limit ≤ 256
          ∧ 1 ≤ d.step ∧ d.step ≤ 32767
          ∧ (i = 0 → 0 ≤ d.origin ∧ d.origin ≤ 6000) ∧ (i = 1 → 0 ≤ d.origin ∧ d.origin ≤ 1000)
          ∧ (i = 2 → -40 ≤ d.origin ∧ d.origin ≤ 150)
          ∧ ∀ v ∈ d.fixedValue :: (f.pool.drop d.base).take d.limit,
            (i = 0 → -18000 ≤ v ∧ v ≤ 18000) ∧ (i = 1 → 0 ≤ v ∧ v ≤ 16383)
              ∧ (i = 2 → 500 ≤ v ∧ v ≤ 4000)) := by
  have hall : ((indexed f.descriptors).all fun (i, d) => descriptorOk f.pool i d) = true
      ↔ ∀ (i : Nat) (d : DescConfig), f.descriptors[i]? = some d → descriptorOk f.pool i d = true := by
    rw [List.all_eq_true]
    exact ⟨fun h i d hd => h (i, d) ((mem_indexed _ i d).2 hd), fun h x hx => h x.1 x.2 ((mem_indexed _ _ _).1 hx)⟩
  simp only [descriptorsOk, Bool.and_eq_true, beq_iff_eq, List.all_eq_true (l := f.pool), within_iff, hall,
    descriptorOk_iff, and_assoc]

/-! ## Limits, economy, time matches and service items (R19, R20, R86, R118, R138) -/

theorem limitsOk_iff (l : List StoredLimit) :
    limitsOk l = true ↔ l.length = 12 ∧ ∀ x ∈ l, x.config.ok = true := by
  simp [limitsOk]

theorem inNat_iff (lo hi n : Nat) : inNat lo hi n = true ↔ lo ≤ n ∧ n ≤ hi := by
  simp [inNat]

theorem economyOk_iff (e : EconomyParams) : economyOk e = true ↔
    (∀ v ∈ [e.speedHeavy, e.speedStandard, e.speedEconomy], 800 ≤ v ∧ v ≤ 2400)
      ∧ (∀ v ∈ [e.pumpHeavy, e.pumpStandard, e.pumpEconomy], 50 ≤ v ∧ v ≤ 2000 ∧ e.minimumPump ≤ v)
      ∧ e.slowLimit ≤ 2000 ∧ e.minimumPump ≤ 2000 ∧ 500 ≤ e.idleFallback ∧ e.idleFallback ≤ 1500
      ∧ 2 ≤ e.idleWait ∧ e.idleWait ≤ 30
      ∧ (e.autoShutdown = 0 ∨ (60 ≤ e.autoShutdown ∧ e.autoShutdown ≤ 1800)) := by
  simp only [economyOk, Bool.and_eq_true, Bool.or_eq_true, inNat_iff, decide_eq_true_eq, beq_iff_eq,
    List.forall_mem_cons, List.not_mem_nil, false_imp_iff, implies_true, and_true, Nat.zero_le, true_and]
  tauto

theorem timeMatchesOk_iff (l : List TimeMatch) :
    timeMatchesOk l = true ↔ l.length = 6 ∧ ∀ m ∈ l, m.minute ≤ 59 ∧ m.hour ≤ 23 := by
  simp [timeMatchesOk]

theorem itemOk_iff (tm : List TimeMatch) (c : ItemConfig) : itemOk tm c = true ↔
    1 ≤ c.code ∧ c.code ≤ 65535
      ∧ (c.basis = none → c.meterInterval = 0)
      ∧ (∀ m, c.basis = some m → m ≤ 7 ∧ 1 ≤ c.meterInterval
        ∧ c.meterInterval ≤ if m = 7 then 100000000 else 100000)
      ∧ (c.meterInterval = 0 → c.meterLead = 0) ∧ (c.meterInterval ≠ 0 → c.meterLead < c.meterInterval)
      ∧ c.meterGrace ≤ c.meterInterval ∧ c.dayInterval ≤ 3650
      ∧ (c.dayInterval = 0 → c.dayLead = 0 ∧ c.dayGrace = 0)
      ∧ (c.dayInterval ≠ 0 → c.dayLead < c.dayInterval ∧ c.dayGrace ≤ 365)
      ∧ (c.meterInterval ≠ 0 ∨ c.dayInterval ≠ 0)
      ∧ ∀ k, c.reminder = some k → ∃ m, tm[k]? = some m ∧ k ≤ 5 ∧ m.purpose = .reminderTime := by
  cases hreminder : c.reminder with
  | none =>
    cases hbasis : c.basis <;>
      simp [itemOk, codeOk, hbasis, hreminder, ite_prop_iff_and, inNat_iff, and_assoc, or_iff_not_imp_left]
  | some k =>
    cases hbasis : c.basis <;> cases hmatch : tm[k]? <;>
      simp [itemOk, codeOk, hbasis, hreminder, hmatch, ite_prop_iff_and, inNat_iff, and_assoc, or_iff_not_imp_left]

theorem itemsOk_iff (f : ImageFields) : itemsOk f = true ↔
    f.items.length = 24 ∧ ∀ c, some c ∈ f.items → itemOk f.timeMatches c = true := by
  have hall : (f.items.filterMap id).all (itemOk f.timeMatches) = true
      ↔ ∀ c, some c ∈ f.items → itemOk f.timeMatches c = true := by
    simp only [List.all_eq_true, List.mem_filterMap, id_eq]
    exact ⟨fun h c hc => h c ⟨_, hc, rfl⟩, fun h c ⟨o, ho, hoc⟩ => h c (hoc ▸ ho)⟩
  rw [itemsOk, Bool.and_eq_true, beq_iff_eq, hall]

/-! ## The image (R183, R191) -/

theorem imageOk_iff (own : Nat) (f : ImageFields) : imageOk own f = true ↔
    subsOk own f = true ∧ pubsOk f.pubs = true ∧ geometryOk f.geometry = true ∧ descriptorsOk f = true
      ∧ limitsOk f.limits = true ∧ (10 ≤ f.fineBand ∧ f.fineBand ≤ 200 ∧ 10 ≤ f.digThreshold ∧ f.digThreshold ≤ 500)
      ∧ economyOk f.economy = true ∧ (-100 ≤ f.initialTrim ∧ f.initialTrim ≤ 100)
      ∧ timeMatchesOk f.timeMatches = true
      ∧ (10 ≤ f.workThreshold ∧ f.workThreshold ≤ 500 ∧ 10 ≤ f.heavyThreshold ∧ f.heavyThreshold ≤ 500)
      ∧ itemsOk f = true := by
  simp only [imageOk, Bool.and_eq_true, inNat_iff, within_iff, and_assoc]

end Sys2Proof.Machine
end

section
/-! PROOFS. The steps of a start, each given as what it leaves of the state: the faults that it reports, the jobs that
it queues, and what it restores (R42, R70, R75, R107, R110, R135, R153, R154, R183, R187). -/

namespace Sys2Proof.Machine

/-! ## Faults reported and jobs queued, where a condition holds -/

/-- The list after a report, if there is one. -/
def noteIn (b : Bool) (code : FaultCode) (source : FaultSource) (stamp : Option ClockTime) (d : DiagnosticList) :
    DiagnosticList :=
  if b then reportTo d stamp code source true else d

/-- A report, if there is one. -/
def noteFault (b : Bool) (code : FaultCode) (source : FaultSource) (s : State) : State :=
  { s with diag := noteIn b code source (stampNow s) s.diag }

theorem noteFault_eq (b : Bool) (code : FaultCode) (source : FaultSource) (s : State) :
    noteFault b code source s = if b then report code source s else s := by
  cases b <;> rfl

/-- The entry of a fault reported once at a start, if it is reported. -/
def entryIf (b : Bool) (code : FaultCode) (source : FaultSource) (stamp : Option ClockTime) : List FaultEntry :=
  if b then [⟨code, source, true, 1, stamp, stamp⟩] else []

/-- A list that a start has formed: nothing unentered, and no fault code but of these. -/
structure FreshList (codes : List FaultCode) (d : DiagnosticList) : Prop where
  entries : (d.entries.map (·.code)).Sublist codes
  unentered : d.unentered = []
  attention : d.attention = attentionOf d.entries

theorem freshList_empty : FreshList [] .empty := ⟨List.Sublist.refl _, rfl, rfl⟩

/-- A code that the list does not hold is entered at its end. -/
theorem reportTo_fresh (codes : List FaultCode) (d : DiagnosticList) (h : FreshList codes d) (code : FaultCode)
    (source : FaultSource) (stamp : Option ClockTime) (hcode : code ∉ codes) (hroom : codes.length < 20) :
    reportTo d stamp code source true
      = formDiag (d.entries ++ [⟨code, source, true, 1, stamp, stamp⟩]) [] := by
  have hnew : d.entries.any (FaultEntry.names code source) = false := by
    rw [List.any_eq_false]
    intro e he hname
    simp only [FaultEntry.names, Bool.and_eq_true, beq_iff_eq] at hname
    exact hcode (h.entries.mem (List.mem_map.2 ⟨e, he, hname.1⟩))
  have hlen : d.entries.length < 20 := by
    have := h.entries.length_le
    rw [List.length_map] at this
    omega
  have htake : takeReport d.entries code source stamp
      = some (d.entries ++ [⟨code, source, true, 1, stamp, stamp⟩]) := by
    simp [takeReport, hnew, hlen]
  unfold reportTo
  rw [htake, h.unentered]
  rfl

theorem noteIn_entries {codes : List FaultCode} {d : DiagnosticList} (h : FreshList codes d) (b : Bool)
    (code : FaultCode) (source : FaultSource) (stamp : Option ClockTime) (hcode : code ∉ codes)
    (hroom : codes.length < 20) :
    (noteIn b code source stamp d).entries = d.entries ++ entryIf b code source stamp := by
  cases b
  · exact (List.append_nil _).symm
  · show (reportTo d stamp code source true).entries = _
    rw [reportTo_fresh codes d h code source stamp hcode hroom]
    rfl

theorem FreshList.note {codes : List FaultCode} {d : DiagnosticList} (h : FreshList codes d) (b : Bool)
    (code : FaultCode) (source : FaultSource) (stamp : Option ClockTime) (hcode : code ∉ codes)
    (hroom : codes.length < 20) : FreshList (codes ++ [code]) (noteIn b code source stamp d) := by
  cases b
  · exact ⟨h.entries.trans (List.sublist_append_left _ _), h.unentered, h.attention⟩
  · show FreshList _ (reportTo d stamp code source true)
    rw [reportTo_fresh codes d h code source stamp hcode hroom]
    refine ⟨?_, rfl, rfl⟩
    show ((d.entries ++ [(⟨code, source, true, 1, stamp, stamp⟩ : FaultEntry)]).map (·.code)).Sublist _
    rw [List.map_append]
    exact h.entries.append (List.Sublist.refl _)

/-- A job, if there is one. -/
def jobIf (b : Bool) (j : Job) : List Job := if b then [j] else []

theorem length_jobIf (b : Bool) (j : Job) : (jobIf b j).length ≤ 1 := by
  cases b <;> simp [jobIf]

theorem any_jobIf (b : Bool) (j : Job) (kind : Job → Bool) (h : kind j = false) : (jobIf b j).any kind = false := by
  cases b <;> simp [jobIf, h]

/-- A job queued, if there is one. -/
def noteJob (b : Bool) (j : Job) (s : State) : State :=
  { s with store := { s.store with queue := s.store.queue ++ jobIf b j } }

theorem noteJob_eq (b : Bool) (j : Job) (s : State) : noteJob b j s = if b then queueJob j s else s := by
  cases b
  · show { s with store := { s.store with queue := s.store.queue ++ [] } } = s
    rw [List.append_nil]
  · rfl

/-! ## Straps, clock and image (R110, R183) -/

theorem readStraps_eq (s : State) : readStraps s
    = noteFault (s.pins.straps.toNat == 0) .strapFault startUpBlock { s with station := s.pins.straps.toNat } := by
  rw [noteFault_eq]
  rfl

@[simp] theorem clockRunning_report (code : FaultCode) (source : FaultSource) (s : State) :
    clockRunning (report code source s) = clockRunning s := rfl

theorem reportClock_eq (s : State) : reportClock s
    = noteFault (!clockRunning s) .clockUnset timeBlock (noteFault s.time.stopped .oscillatorStop timeBlock s) := by
  rw [noteFault_eq, noteFault_eq]
  unfold reportClock
  cases s.time.stopped <;> cases hrun : clockRunning s <;> simp [hrun]

theorem buildTime_eq (initialTrim : Int) (matches' : List TimeMatch) (t : TimeBase) :
    buildTime initialTrim matches' t = { t with
      timeMatches := matches', trimLoaded := true, trim := if t.trimLoaded then t.trim else initialTrim } := by
  unfold buildTime
  cases t.trimLoaded <;> rfl

/-! ## The limit area and the grade profile (R42, R70, R75) -/

/-- The envelope table of a good image: the stored area, or the image's limits, with its fault and its job. -/
def withLimits (s : State) : State :=
  let stored := s.store.limits.restored limitsOk
  noteFault stored.isNone .limitAreaLost envelopeBlock (noteJob stored.isNone (.limitArea [])
    { s with limits := (stored.getD s.config.limits).map restoredLimit })

theorem restoreLimits_eq (s : State) : restoreLimits s = withLimits s := by
  unfold restoreLimits withLimits
  simp only [noteFault_eq, noteJob_eq]
  cases s.store.limits.restored limitsOk <;> rfl

/-- The grade profile of a good image. -/
def withGrade (s : State) : State :=
  let stored := s.store.grade.restored profileOk
  noteFault stored.isNone .gradeAreaLost guidanceBlock (noteJob stored.isNone (.gradeProfile [])
    { s with guidance := match stored with
      | some p => s.guidance.over p
      | none => s.guidance })

theorem restoreGrade_eq (s : State) : restoreGrade s = withGrade s := by
  unfold restoreGrade withGrade
  simp only [noteFault_eq, noteJob_eq]
  cases s.store.grade.restored profileOk <;> rfl

/-! ## The checkpoint (R135) -/

/-- The Meter Unit over the newest slot, or over none. -/
def restoredMeter : Option Checkpoint → MeterUnit
  | some c => { MeterUnit.atStart with meters := c.meters, sequence := c.sequence }
  | none => { MeterUnit.atStart with sequence := 1, job := .queued, snapshot := some ⟨1, .zero, 0⟩ }

def withCheckpoint (s : State) : State :=
  let newest := newestSlot s.store.slots
  noteJob newest.isNone .checkpoint (noteFault newest.isNone .meterLoss meterBlock
    { s with
      meter := restoredMeter newest
      economy := { s.economy with lifetime := (newest.map (·.lifetime)).getD 0 } })

/-- The restore of a checkpoint over units at their start values. -/
theorem restoreCheckpoint_eq (s : State) (hmeter : s.meter = .atStart) (hlife : s.economy.lifetime = 0)
    (hroom : s.store.queue.length < 6) : restoreCheckpoint s = withCheckpoint s := by
  unfold restoreCheckpoint withCheckpoint
  cases hslot : newestSlot s.store.slots with
  | some c =>
    simp only [noteJob_eq, noteFault_eq, hmeter]
    rfl
  | none =>
    have heconomy : { s.economy with lifetime := 0 } = s.economy := by rw [← hlife]
    simp only [noteJob_eq, noteFault_eq, Option.map_none, Option.getD_none, heconomy]
    have hwant : wantCheckpoint (report .meterLoss meterBlock s)
        = queueCheckpoint false (report .meterLoss meterBlock s) := by
      unfold wantCheckpoint
      simp [checkpointExhausted, report, hmeter, MeterUnit.atStart, max32, placeFree, hroom]
    rw [hwant]
    unfold queueCheckpoint snapshotNow
    simp only [report, setMeterUnit, hmeter, hlife]
    rfl

/-! ## Day records (R107) -/

/-- The stored open record is of another date and closes. -/
def closesDay (today : Option Date) : Option DayArea → Bool
  | some a => !staysOpen a today
  | none => false

/-- The day-record area that a restore leaves. -/
def restoredDays (today : Option Date) : Option DayArea → DayArea
  | some a => if staysOpen a today then a else a.close today
  | none => ⟨[], .opened today, ⟨0, 0, 0⟩⟩

def withDays (s : State) : State :=
  let stored := s.store.days.restored dayAreaOk
  let area := restoredDays (datedNow s) stored
  noteJob (stored.isNone || closesDay (datedNow s) stored) .dayRecords
    (noteFault stored.isNone .dayAreaLost economyBlock { s with economy := { s.economy with
      days := area, lifetime := max s.economy.lifetime area.opened.fuel } })

/-- A wanted day-record job finds a place. -/
theorem wantDayJob_free (s : State) (hpending : s.economy.writePending = false)
    (hnone : s.store.queue.any Job.isDays = false) (hroom : s.store.queue.length < 6) :
    wantDayJob s = queueJob .dayRecords s := by
  have hplace : placeFree s = true := decide_eq_true hroom
  have heconomy : { s.economy with writePending := false } = s.economy := by rw [← hpending]
  unfold wantDayJob jobQueued
  simp only [hnone, hplace, Bool.false_eq_true, ↓reduceIte]
  exact congrArg (fun e => setEconomy e (queueJob .dayRecords s)) heconomy

theorem restoreDays_eq (s : State) (hpending : s.economy.writePending = false)
    (hnone : s.store.queue.any Job.isDays = false) (hroom : s.store.queue.length < 6) :
    restoreDays s = withDays s := by
  unfold restoreDays withDays
  simp only [noteJob_eq, noteFault_eq]
  cases hstored : s.store.days.restored dayAreaOk with
  | none =>
    have hwant := wantDayJob_free (report .dayAreaLost economyBlock
      (setDays (fun _ => ⟨[], .opened (datedNow s), ⟨0, 0, 0⟩⟩) s)) hpending hnone hroom
    simp only [hwant]
    rfl
  | some a =>
    have hwant := wantDayJob_free (setDays (fun _ => a.close (datedNow s)) s) hpending hnone hroom
    cases hstays : staysOpen a (datedNow s) <;> simp only [hwant, closesDay, restoredDays, hstays] <;> rfl

/-! ## The service areas (R153, R154; log 70) -/

/-- The service items that a start builds, and as the start evaluation leaves them. -/
def itemsBefore (s : State) : List (Option ServiceItem) :=
  restoredItems s.config.items (s.store.service.restored serviceAreaOk) s.meter.meters

def itemsAfter (s : State) : List (Option ServiceItem) :=
  (itemsBefore s).map (Option.map (startItem s.meter.meters (datedNow s)))

/-- The service-state area is lost; the history area is lost. -/
def serviceLost (s : State) : Bool := (s.store.service.restored serviceAreaOk).isNone
def historyLost (s : State) : Bool := (s.store.history.restored historyOk).isNone

/-- The Service Unit with its items, before the faults and the jobs. -/
def serviceBuilt (s : State) : State :=
  { s with service := { s.service with
    items := itemsAfter s
    history := (s.store.history.restored historyOk).getD []
    derate := derateWanted (itemsAfter s) } }

/-- The lost service-state area is told, then the lost history area. -/
def serviceTold (s : State) : State :=
  noteJob (serviceLost s) (.serviceState []) (noteFault (serviceLost s) .serviceAreaLost serviceBlock (serviceBuilt s))

def historyTold (s : State) : State :=
  noteJob (historyLost s) (.history []) (noteFault (historyLost s) .historyAreaLost serviceBlock (serviceTold s))

def withService (s : State) : State :=
  noteJob (!serviceLost s && standingsChanged (itemsBefore s) (itemsAfter s)) (.serviceState []) (historyTold s)

theorem wantServiceJob_free (s : State) (hpending : s.service.writePending = false)
    (hnone : s.store.queue.any Job.isService = false) (hroom : s.store.queue.length < 6) :
    wantServiceJob s = queueJob (.serviceState []) s := by
  have hplace : placeFree s = true := decide_eq_true hroom
  have hservice : { s.service with writePending := false } = s.service := by rw [← hpending]
  unfold wantServiceJob jobQueued
  simp only [hnone, hplace, Bool.false_eq_true, ↓reduceIte]
  exact congrArg (fun u => setService u (queueJob (.serviceState []) s)) hservice

theorem wantServiceJob_queued (s : State) (h : s.store.queue.any Job.isService = true) : wantServiceJob s = s :=
  if_pos h

theorem wantHistoryJob_free (s : State) (h : s.store.queue.any Job.isHistory = false) :
    wantHistoryJob s = queueJob (.history []) s :=
  if_neg (Bool.eq_false_iff.1 h)

/-- A lost service-state area reports its fault and queues its job. -/
theorem serviceLost_eq (b : Bool) (s : State) (hpending : s.service.writePending = false)
    (hnone : s.store.queue.any Job.isService = false) (hroom : s.store.queue.length < 6) :
    (if b then wantServiceJob (report .serviceAreaLost serviceBlock s) else s)
      = noteJob b (.serviceState []) (noteFault b .serviceAreaLost serviceBlock s) := by
  rw [noteJob_eq, noteFault_eq]
  cases b
  · rfl
  · exact wantServiceJob_free (report .serviceAreaLost serviceBlock s) hpending hnone hroom

theorem historyLost_eq (b : Bool) (s : State) (hnone : s.store.queue.any Job.isHistory = false) :
    (if b then wantHistoryJob (report .historyAreaLost serviceBlock s) else s)
      = noteJob b (.history []) (noteFault b .historyAreaLost serviceBlock s) := by
  rw [noteJob_eq, noteFault_eq]
  cases b
  · rfl
  · exact wantHistoryJob_free (report .historyAreaLost serviceBlock s) hnone

/-- A standing that moves queues a job, unless one is queued for a lost area. -/
theorem standingMoved_eq (lost moved : Bool) (s : State) (hpending : s.service.writePending = false)
    (hqueued : s.store.queue.any Job.isService = lost) (hroom : lost = false → s.store.queue.length < 6) :
    (if moved then wantServiceJob s else s) = noteJob (!lost && moved) (.serviceState []) s := by
  rw [noteJob_eq]
  cases moved
  · rw [Bool.and_false]
    rfl
  · cases lost
    · exact wantServiceJob_free s hpending hqueued (hroom rfl)
    · exact wantServiceJob_queued s hqueued

/-- What a restore does once the service-state area has been seen to. -/
def serviceTail (moved : Bool) (s : State) : State :=
  let told := if (s.store.history.restored historyOk).isNone then
    wantHistoryJob (report .historyAreaLost serviceBlock s) else s
  if moved then wantServiceJob told else told

theorem restoreService_eq (s : State) (hpending : s.service.writePending = false)
    (hservice : s.store.queue.any Job.isService = false) (hhistory : s.store.queue.any Job.isHistory = false)
    (hroom : s.store.queue.length < 5) : restoreService s = withService s := by
  have htold := serviceLost_eq (serviceLost s) (serviceBuilt s) hpending hservice (Nat.lt_succ_of_lt hroom)
  have hready := historyLost_eq (historyLost s) (serviceTold s) (by
    show (s.store.queue ++ jobIf (serviceLost s) (.serviceState [])).any Job.isHistory = false
    rw [List.any_append, hhistory, any_jobIf _ _ _ rfl]
    rfl)
  have hqueue : (historyTold s).store.queue
    = s.store.queue ++ jobIf (serviceLost s) (.serviceState []) ++ jobIf (historyLost s) (.history []) := rfl
  have hqueued : (historyTold s).store.queue.any Job.isService = serviceLost s := by
    rw [hqueue, List.any_append, List.any_append, hservice, any_jobIf (historyLost s) _ _ rfl]
    cases serviceLost s <;> rfl
  have hplace : serviceLost s = false → (historyTold s).store.queue.length < 6 := by
    intro hlost
    have := length_jobIf (historyLost s) (.history [])
    rw [hqueue, hlost, List.length_append, List.length_append]
    simp only [jobIf, Bool.false_eq_true, ↓reduceIte, List.length_nil] at this ⊢
    omega
  have hmoved := standingMoved_eq (serviceLost s) (standingsChanged (itemsBefore s) (itemsAfter s)) (historyTold s)
    hpending hqueued hplace
  calc restoreService s
      = serviceTail (standingsChanged (itemsBefore s) (itemsAfter s)) (if serviceLost s then
          wantServiceJob (report .serviceAreaLost serviceBlock (serviceBuilt s)) else serviceBuilt s) := rfl
    _ = serviceTail (standingsChanged (itemsBefore s) (itemsAfter s)) (serviceTold s) := congrArg _ htold
    _ = if standingsChanged (itemsBefore s) (itemsAfter s) then wantServiceJob (historyTold s) else historyTold s :=
      congrArg (fun u => if standingsChanged (itemsBefore s) (itemsAfter s) then wantServiceJob u else u) hready
    _ = withService s := hmoved

end Sys2Proof.Machine
end

section
/-! PROOFS. The image in force, what a start builds and restores with a good image and with a bad one, and how it ends
(R135, R156, R160, R183, R184, R187, R191). -/

namespace Sys2Proof.Machine

/-! ## The image in force (R187, R191) -/

theorem headerValid_iff (v : ImageView) : v.headerValid = true ↔
    16 ≤ v.length ∧ v.length ≤ 2048 ∧ v.format = 1 ∧ v.checksumOk = true := by
  simp [ImageView.headerValid, and_assoc]

/-- The reading of one of the two copies. -/
def ParameterStore.view (p : ParameterStore) (one : Bool) : ImageView := (if one then p.image1 else p.image0).view

/-- A copy with a valid header is in force when the other has none, or is not the later one; copy 0 of equal ones. -/
theorem imageInForce_iff (p : ParameterStore) (one : Bool) : p.imageInForce = some one ↔
    (p.view one).headerValid = true ∧ ((p.view !one).headerValid = true →
      if one then (p.view false).generation < (p.view true).generation
      else (p.view true).generation ≤ (p.view false).generation) := by
  have h0 : p.image0.view = p.view false := rfl
  have h1 : p.image1.view = p.view true := rfl
  unfold ParameterStore.imageInForce
  rw [h0, h1]
  cases hv0 : (p.view false).headerValid <;> cases hv1 : (p.view true).headerValid <;> cases one <;> simp [hv0, hv1]

theorem imageInForce_none (p : ParameterStore) (h0 : ¬ (p.view false).headerValid = true)
    (h1 : ¬ (p.view true).headerValid = true) : p.imageInForce = none := by
  rw [Bool.not_eq_true] at h0 h1
  unfold ParameterStore.imageInForce
  rw [show p.image0.view.headerValid = false from h0, show p.image1.view.headerValid = false from h1]

/-- The image is good when the copy in force has fields that pass every check. -/
theorem acceptedImage_iff (s : State) (f : ImageFields) : acceptedImage s = some f ↔
    ∃ one, s.store.imageInForce = some one ∧ (s.store.view one).fields = some f ∧ imageOk s.station f = true := by
  unfold acceptedImage
  cases hforce : s.store.imageInForce with
  | none => simp
  | some one =>
    have hview : (if one then s.store.image1 else s.store.image0).view = s.store.view one := rfl
    simp only [hview]
    cases hfields : (s.store.view one).fields with
    | none => simp [hfields]
    | some g =>
      by_cases hok : imageOk s.station g = true
      · simp only [hok, ↓reduceIte, Option.some.injEq, exists_eq_left', hfields]
        constructor
        · rintro rfl
          exact ⟨rfl, hok⟩
        · exact fun h => h.1
      · simp only [hok, Option.some.injEq, exists_eq_left', hfields]
        simp only [Bool.false_eq_true, ↓reduceIte, reduceCtorEq, false_iff]
        rintro ⟨rfl, h⟩
        exact hok h

/-! ## What a start builds (R183) -/

/-- A start that has read the straps and chosen the image in force. -/
def startBase (s : State) : State :=
  { noteFault (s.pins.straps.toNat == 0) .strapFault startUpBlock
      { giveUp s with power := .startUp, detectorArmed := true, station := s.pins.straps.toNat } with
    store := { s.store with queue := [], writing := none, staging := stagingCopy s.store } }

/-- What a start has built and restored before it listens or goes to Limp. -/
def startBuilt (s : State) : State :=
  buildAndRestore (readStraps { giveUp s with power := .startUp, detectorArmed := true })

theorem beginStart_eq (s : State) : beginStart s =
    if (startBuilt s).imageGood = true ∧ (startBuilt s).station ≠ 0 then
      { startBuilt s with listenEnds := some ((startBuilt s).now + 500) }
    else endStart false (startBuilt s) := by
  have h : beginStart s = if (startBuilt s).imageGood && (startBuilt s).station != 0 then
      { startBuilt s with listenEnds := some ((startBuilt s).now + 500) }
    else endStart false (startBuilt s) := rfl
  rw [h]
  simp only [Bool.and_eq_true, bne_iff_ne]

/-- What is built from a good image. -/
def imageBuilt (f : ImageFields) (s : State) : State :=
  { s with
    imageGood := true
    config := f
    topics := f.subs.map .atStart
    bus := { s.bus with topics := f.pubs }
    pose := { s.pose with descriptors := f.descriptors.map .atStart }
    time := { s.time with
      timeMatches := f.timeMatches, trimLoaded := true
      trim := if s.time.trimLoaded then s.time.trim else f.initialTrim } }

theorem buildGood_eq (f : ImageFields) (s : State) : buildGood f s = imageBuilt f s := by
  unfold buildGood imageBuilt
  rw [buildTime_eq]

theorem startBuilt_eq (s : State) : startBuilt s = match acceptedImage (startBase s) with
    | some f => restoreAll (reportClock (imageBuilt f (startBase s)))
    | none => restoreCheckpoint (reportClock (buildBad (report .imageBad storeBlock (startBase s)))) := by
  simp only [← buildGood_eq]
  unfold startBuilt
  rw [readStraps_eq]
  rfl

/-! ## What a start restores (R42, R75, R107, R135, R153, R154) -/

/-- A state with what a restore moves put in place: the blocks' items, the Diagnostic List and the job queue. -/
def staged (b : State) (l : List LimitEntry) (g : GuidanceUnit) (m : MeterUnit) (e : EconomyUnit) (v : ServiceUnit)
    (d : DiagnosticList) (q : List Job) : State :=
  { b with
    limits := l, guidance := g, meter := m, economy := e, service := v, diag := d
    store := { b.store with queue := q } }

/-- The areas that a start finds lost, and the day that it finds over. -/
def limitsLost (s : State) : Bool := (s.store.limits.restored limitsOk).isNone
def gradeLost (s : State) : Bool := (s.store.grade.restored profileOk).isNone
def ringLost (s : State) : Bool := (newestSlot s.store.slots).isNone
def daysLost (s : State) : Bool := (s.store.days.restored dayAreaOk).isNone
def dayCloses (s : State) : Bool := closesDay (datedNow s) (s.store.days.restored dayAreaOk)

/-- The day-record area, and the lifetime fuel, that a start leaves. -/
def startDays (s : State) : DayArea := restoredDays (datedNow s) (s.store.days.restored dayAreaOk)
def startFuel (s : State) : Nat := ((newestSlot s.store.slots).map (·.lifetime)).getD 0

/-- The envelope table and the Guidance Unit over what the store holds. -/
def startLimits (s : State) : List LimitEntry :=
  ((s.store.limits.restored limitsOk).getD s.config.limits).map restoredLimit

def startGuidance (g : GuidanceUnit) (s : State) : GuidanceUnit :=
  match s.store.grade.restored profileOk with
  | some p => g.over p
  | none => g

def startMeter (s : State) : MeterUnit := restoredMeter (newestSlot s.store.slots)

/-- The service items over these meters, as the store gives them and as the start evaluation leaves them. -/
def itemsFound (m : Meters) (s : State) : List (Option ServiceItem) :=
  restoredItems s.config.items (s.store.service.restored serviceAreaOk) m

def itemsJudged (m : Meters) (s : State) : List (Option ServiceItem) :=
  (itemsFound m s).map (Option.map (startItem m (datedNow s)))

def startService (m : Meters) (v : ServiceUnit) (s : State) : ServiceUnit :=
  { v with
    items := itemsJudged m s
    history := (s.store.history.restored historyOk).getD []
    derate := derateWanted (itemsJudged m s) }

def standingMoves (m : Meters) (s : State) : Bool :=
  !serviceLost s && standingsChanged (itemsFound m s) (itemsJudged m s)

section
variable (b : State) (l : List LimitEntry) (g : GuidanceUnit) (m : MeterUnit) (e : EconomyUnit) (v : ServiceUnit)
  (d : DiagnosticList) (q : List Job)

theorem reportClock_staged : reportClock (staged b l g m e v d q) = staged b l g m e v
    (noteIn (!clockRunning b) .clockUnset timeBlock (stampNow b)
      (noteIn b.time.stopped .oscillatorStop timeBlock (stampNow b) d)) q :=
  reportClock_eq _

theorem restoreLimits_staged : restoreLimits (staged b l g m e v d q) = staged b (startLimits b) g m e v
    (noteIn (limitsLost b) .limitAreaLost envelopeBlock (stampNow b) d)
    (q ++ jobIf (limitsLost b) (.limitArea [])) :=
  restoreLimits_eq _

theorem restoreGrade_staged : restoreGrade (staged b l g m e v d q) = staged b l (startGuidance g b) m e v
    (noteIn (gradeLost b) .gradeAreaLost guidanceBlock (stampNow b) d)
    (q ++ jobIf (gradeLost b) (.gradeProfile [])) :=
  restoreGrade_eq _

theorem restoreCheckpoint_staged (hlife : e.lifetime = 0) (hroom : q.length < 6) :
    restoreCheckpoint (staged b l g .atStart e v d q) = staged b l g (startMeter b)
      { e with lifetime := startFuel b } v
      (noteIn (ringLost b) .meterLoss meterBlock (stampNow b) d) (q ++ jobIf (ringLost b) .checkpoint) :=
  restoreCheckpoint_eq _ rfl hlife hroom

theorem restoreDays_staged (hpending : e.writePending = false) (hnone : q.any Job.isDays = false)
    (hroom : q.length < 6) :
    restoreDays (staged b l g m e v d q) = staged b l g m
      { e with days := startDays b, lifetime := max e.lifetime (startDays b).opened.fuel } v
      (noteIn (daysLost b) .dayAreaLost economyBlock (stampNow b) d)
      (q ++ jobIf (daysLost b || dayCloses b) .dayRecords) :=
  restoreDays_eq _ hpending hnone hroom

theorem noteFault_staged (x : Bool) (code : FaultCode) (source : FaultSource) :
    noteFault x code source (staged b l g m e v d q) = staged b l g m e v (noteIn x code source (stampNow b) d) q := rfl

theorem noteJob_staged (x : Bool) (j : Job) :
    noteJob x j (staged b l g m e v d q) = staged b l g m e v d (q ++ jobIf x j) := rfl

theorem serviceLost_staged : serviceLost (staged b l g m e v d q) = serviceLost b := rfl

theorem historyLost_staged : historyLost (staged b l g m e v d q) = historyLost b := rfl

theorem itemsBefore_staged : itemsBefore (staged b l g m e v d q) = itemsFound m.meters b := rfl

theorem itemsAfter_staged : itemsAfter (staged b l g m e v d q) = itemsJudged m.meters b := rfl

theorem serviceBuilt_staged :
    serviceBuilt (staged b l g m e v d q) = staged b l g m e (startService m.meters v b) d q := rfl

theorem restoreService_staged (hpending : v.writePending = false) (hservice : q.any Job.isService = false)
    (hhistory : q.any Job.isHistory = false) (hroom : q.length < 5) :
    restoreService (staged b l g m e v d q) = staged b l g m e (startService m.meters v b)
      (noteIn (historyLost b) .historyAreaLost serviceBlock (stampNow b)
        (noteIn (serviceLost b) .serviceAreaLost serviceBlock (stampNow b) d))
      (q ++ jobIf (serviceLost b) (.serviceState []) ++ jobIf (historyLost b) (.history [])
        ++ jobIf (standingMoves m.meters b) (.serviceState [])) := by
  rw [restoreService_eq (staged b l g m e v d q) hpending hservice hhistory hroom]
  unfold withService historyTold serviceTold standingMoves
  simp only [serviceLost_staged, historyLost_staged, itemsBefore_staged, itemsAfter_staged, serviceBuilt_staged,
    noteFault_staged, noteJob_staged]

end

/-- The queue that a start has filled before the service areas. -/
def areaJobs (b : State) : List Job :=
  [] ++ jobIf (limitsLost b) (.limitArea []) ++ jobIf (gradeLost b) (.gradeProfile [])
    ++ jobIf (ringLost b) .checkpoint ++ jobIf (daysLost b || dayCloses b) .dayRecords

/-- A start with a good image, over units at their start values and an empty queue, restores every area in turn. -/
theorem restoreAll_eq (b : State) (l : List LimitEntry) (g : GuidanceUnit) (d : DiagnosticList) :
    restoreAll (reportClock (staged b l g .atStart .atStart .atStart d [])) = staged b (startLimits b) (startGuidance g b)
      (startMeter b)
      { EconomyUnit.atStart with days := startDays b, lifetime := max (startFuel b) (startDays b).opened.fuel }
      (startService (startMeter b).meters .atStart b)
      (noteIn (historyLost b) .historyAreaLost serviceBlock (stampNow b)
        (noteIn (serviceLost b) .serviceAreaLost serviceBlock (stampNow b)
        (noteIn (daysLost b) .dayAreaLost economyBlock (stampNow b)
        (noteIn (ringLost b) .meterLoss meterBlock (stampNow b)
        (noteIn (gradeLost b) .gradeAreaLost guidanceBlock (stampNow b)
        (noteIn (limitsLost b) .limitAreaLost envelopeBlock (stampNow b)
        (noteIn (!clockRunning b) .clockUnset timeBlock (stampNow b)
        (noteIn b.time.stopped .oscillatorStop timeBlock (stampNow b) d))))))))
      (areaJobs b ++ jobIf (serviceLost b) (.serviceState []) ++ jobIf (historyLost b) (.history [])
        ++ jobIf (standingMoves (startMeter b).meters b) (.serviceState [])) := by
  have hl := length_jobIf (limitsLost b) (.limitArea [])
  have hg := length_jobIf (gradeLost b) (.gradeProfile [])
  have hc := length_jobIf (ringLost b) .checkpoint
  have hd := length_jobIf (daysLost b || dayCloses b) .dayRecords
  have hany : ∀ kind : Job → Bool, kind (.limitArea []) = false → kind (.gradeProfile []) = false →
      kind .checkpoint = false → kind .dayRecords = false → (areaJobs b).any kind = false := by
    intro kind h1 h2 h3 h4
    unfold areaJobs
    simp only [List.any_append, any_jobIf _ _ _ h1, any_jobIf _ _ _ h2, any_jobIf _ _ _ h3, any_jobIf _ _ _ h4]
    rfl
  have hroom : (areaJobs b).length < 5 := by
    simp only [areaJobs, List.length_append, List.length_nil]
    omega
  unfold restoreAll
  rw [reportClock_staged, restoreLimits_staged, restoreGrade_staged, restoreCheckpoint_staged _ _ _ _ _ _ _ rfl,
    restoreDays_staged _ _ _ _ _ _ _ _ rfl]
  · exact restoreService_staged _ _ _ _ _ _ _ (areaJobs b) rfl (hany _ rfl rfl rfl rfl) (hany _ rfl rfl rfl rfl) hroom
  · simp only [List.any_append, any_jobIf _ (.limitArea []) Job.isDays rfl,
      any_jobIf _ (.gradeProfile []) Job.isDays rfl, any_jobIf _ .checkpoint Job.isDays rfl]
    rfl
  · simp only [List.length_append, List.length_nil]
    omega
  · simp only [List.length_append, List.length_nil]
    omega

end Sys2Proof.Machine
end

section
/-! PROOFS. What the start's restores give, read off the areas of the store: the newest slot, the grade profile, the
service items, the days and the faults (R70, R75, R107, R135, R153, R154, R175). -/

namespace Sys2Proof.Machine

/-! ## The newest slot (R135) -/

theorem newestSlot_isNone (l : List Slot) : (newestSlot l).isNone = !l.any Slot.valid := by
  induction l with
  | nil => rfl
  | cons x xs ih =>
    unfold newestSlot
    rw [List.any_cons]
    cases hrest : newestSlot xs <;> rw [hrest] at ih <;> cases hx : x.valid <;>
      simp_all [apply_ite Option.isNone]

/-- The newest slot is a valid one, and no valid one has a higher sequence. -/
theorem newestSlot_spec (l : List Slot) (c : Checkpoint) (h : newestSlot l = some c) :
    (∃ x ∈ l, x.valid = true ∧ x.content = c)
      ∧ ∀ x ∈ l, x.valid = true → x.content.sequence ≤ c.sequence := by
  induction l generalizing c with
  | nil => cases h
  | cons x xs ih =>
    unfold newestSlot at h
    cases hrest : newestSlot xs with
    | none =>
      have hnone : ∀ y ∈ xs, ¬ y.valid = true := by
        have hany := newestSlot_isNone xs
        rw [hrest] at hany
        simpa using hany
      simp only [hrest, Option.ite_none_right_eq_some, Option.some.injEq] at h
      obtain ⟨hx, rfl⟩ := h
      refine ⟨⟨x, List.mem_cons_self, hx, rfl⟩, ?_⟩
      intro y hy hvalid
      rcases List.mem_cons.1 hy with rfl | hy
      · exact le_rfl
      · exact absurd hvalid (hnone y hy)
    | some d =>
      obtain ⟨⟨w, hw, hvalid, hcontent⟩, hmax⟩ := ih d hrest
      simp only [hrest, Bool.and_eq_true, decide_eq_true_eq] at h
      by_cases hnew : x.valid = true ∧ d.sequence ≤ x.content.sequence
      · rw [if_pos hnew, Option.some.injEq] at h
        subst h
        refine ⟨⟨x, List.mem_cons_self, hnew.1, rfl⟩, ?_⟩
        intro y hy hy'
        rcases List.mem_cons.1 hy with rfl | hy
        · exact le_rfl
        · exact (hmax y hy hy').trans hnew.2
      · rw [if_neg hnew, Option.some.injEq] at h
        subst h
        refine ⟨⟨w, List.mem_cons_of_mem _ hw, hvalid, hcontent⟩, ?_⟩
        intro y hy hy'
        rcases List.mem_cons.1 hy with rfl | hy
        · by_contra hlt
          exact hnew ⟨hy', by omega⟩
        · exact hmax y hy hy'

/-- A valid slot that no other content reaches in sequence is the newest. -/
theorem newestSlot_eq (l : List Slot) (x : Slot) (hx : x ∈ l) (hvalid : x.valid = true)
    (htop : ∀ y ∈ l, y.valid = true → y.content = x.content ∨ y.content.sequence < x.content.sequence) :
    newestSlot l = some x.content := by
  cases hnew : newestSlot l with
  | none =>
    have hany := newestSlot_isNone l
    rw [hnew, eq_comm, Option.isNone_none, Bool.not_eq_true', List.any_eq_false] at hany
    exact absurd hvalid (hany x hx)
  | some c =>
    obtain ⟨⟨y, hy, hy', rfl⟩, hmax⟩ := newestSlot_spec l c hnew
    rcases htop y hy hy' with heq | hlt
    · rw [heq]
    · exact absurd (hmax x hx hvalid) (by omega)

/-! ## The grade profile (R70, R75) -/

theorem presentPlaces_isEmpty (p : List (Option Segment)) : (presentPlaces p).isEmpty = !p.any Option.isSome := by
  rw [Bool.eq_iff_iff, List.isEmpty_iff, List.eq_nil_iff_forall_not_mem, Bool.not_eq_true', List.any_eq_false]
  constructor
  · intro h o ho hsome
    obtain ⟨x, rfl⟩ := Option.isSome_iff_exists.1 hsome
    obtain ⟨i, hi⟩ := List.mem_iff_getElem?.1 ho
    exact h (i, x) ((mem_presentPlaces p i x).2 hi)
  · rintro h ⟨i, x⟩ hmem
    exact h (some x) (List.mem_of_getElem? ((mem_presentPlaces p i x).1 hmem)) rfl

/-- The lowest place that holds a segment. -/
theorem lowestPresent_eq (p : List (Option Segment)) (i : Nat) (hi : ∃ x, p[i]? = some (some x))
    (hlow : ∀ j < i, ∀ x, p[j]? ≠ some (some x)) : lowestPresent p = i := by
  obtain ⟨x, hx⟩ := hi
  have hmem := (mem_presentPlaces p i x).2 hx
  have hsorted := presentPlaces_sorted p
  unfold lowestPresent
  cases hplaces : presentPlaces p with
  | nil => rw [hplaces] at hmem; cases hmem
  | cons a rest =>
    obtain ⟨k, y⟩ := a
    rw [hplaces] at hmem hsorted
    have hk : p[k]? = some (some y) := (mem_presentPlaces p k y).1 (hplaces ▸ List.mem_cons_self)
    rcases List.mem_cons.1 hmem with heq | hlater
    · exact (Prod.mk.inj heq).1.symm
    · exact absurd hk (hlow k ((List.pairwise_cons.1 hsorted).1 _ hlater) y)

/-- The profile of a start: the stored one, or eight cleared places. -/
def startProfile (s : State) : List (Option Segment) :=
  (s.store.grade.restored profileOk).getD (List.replicate 8 none)

/-- The copy that an area is read from is a valid one. -/
theorem best_valid {α : Type} (ok : α → Bool) (a : Area α) (one : Bool) (h : a.best ok = some one) :
    (a.copy one).valid ok = true := by
  unfold Area.best at h
  cases h0 : a.copy0.valid ok <;> cases h1 : a.copy1.valid ok <;> cases one <;> simp_all [Area.copy]

/-- A restored content passes its area's check. -/
theorem restored_ok {α : Type} (ok : α → Bool) (a : Area α) (x : α) (h : a.restored ok = some x) : ok x = true := by
  obtain ⟨one, hbest, rfl⟩ := Option.map_eq_some_iff.1 h
  have hvalid := best_valid ok a one hbest
  rw [Copy.valid, Bool.and_eq_true] at hvalid
  exact hvalid.2

theorem startProfile_length (s : State) : (startProfile s).length = 8 := by
  unfold startProfile
  cases hstored : s.store.grade.restored profileOk with
  | none => rfl
  | some p =>
    have hok := restored_ok _ _ _ hstored
    simp only [profileOk, Bool.and_eq_true, beq_iff_eq] at hok
    exact hok.1.1

/-- The Guidance Unit of a start with a good image scans over its profile. -/
theorem startGuidance_eq (s : State) : startGuidance .atStart s = { GuidanceUnit.atStart with
    profile := startProfile s
    scanIndex := lowestPresent (startProfile s)
    scan := if (startProfile s).any Option.isSome then .offProfile else .noProfile } := by
  unfold startGuidance startProfile
  cases s.store.grade.restored profileOk with
  | none => rfl
  | some p =>
    show GuidanceUnit.atStart.over p = _
    unfold GuidanceUnit.over
    rw [presentPlaces_isEmpty]
    cases hsome : p.any Option.isSome <;> simp [hsome]

/-- Over cleared places the Guidance Unit stands at its start values. -/
theorem startGuidance_cleared (s : State) (h : (startProfile s).any Option.isSome = false) :
    startGuidance .atStart s = .atStart := by
  have hprofile : startProfile s = List.replicate 8 none := by
    rw [List.eq_replicate_iff]
    refine ⟨startProfile_length s, fun o ho => ?_⟩
    simpa using List.any_eq_false.1 h o ho
  rw [startGuidance_eq, hprofile]
  rfl

/-! ## The days (R107) -/

theorem closesDay_iff (today : Option Date) (stored : Option DayArea) : closesDay today stored = true ↔
    ∃ a, stored = some a ∧ a.opened.date ≠ none ∧ a.opened.date ≠ today := by
  cases stored with
  | none => simp [closesDay]
  | some a =>
    cases hdate : a.opened.date with
    | none => simp [closesDay, staysOpen, hdate]
    | some d =>
      simp only [closesDay, staysOpen, hdate, Option.some.injEq, exists_eq_left', ne_eq, reduceCtorEq,
        not_false_eq_true, true_and, Bool.not_eq_true', beq_eq_false_iff_ne]
      exact ⟨Ne.symm, Ne.symm⟩

/-- The restored area is kept, or closed into its ring where the open record is of another day. -/
theorem restoredDays_some (today : Option Date) (a : DayArea) : restoredDays today (some a)
    = if closesDay today (some a) then
        ⟨(a.ring ++ [a.opened]).drop ((a.ring ++ [a.opened]).length - 14), .opened today, a.shift⟩
      else a := by
  have hkept : restoredDays today (some a) = if staysOpen a today then a else a.close today := rfl
  have hcloses : closesDay today (some a) = !staysOpen a today := rfl
  rw [hkept, hcloses]
  cases staysOpen a today <;> rfl

/-! ## The service items (R153, R154) -/

theorem restoredItems_length (configs : List (Option ItemConfig)) (stored : Option (List (Option StoredItem)))
    (m : Meters) : (restoredItems configs stored m).length = configs.length := by
  simp [restoredItems, indexed]

theorem getElem?_indexed {α : Type} (l : List α) (i : Nat) : (indexed l)[i]? = l[i]?.map fun x => (i, x) := by
  unfold indexed
  by_cases hi : i < l.length
  · simp [hi]
  · simp [Nat.le_of_not_lt hi]

/-- One place's item as the store gives it back, or afresh. -/
def itemBack (stored : List (Option StoredItem)) (m : Meters) (i : Nat) (c : ItemConfig) : ServiceItem :=
  match stored[i]? with
  | some (some x) =>
    if x.code = c.code ∧ x.basis = c.basis then
      ⟨c, x.lastMeter, x.lastDate, x.meterStanding, x.dayStanding, false, none⟩
    else freshItem c m
  | _ => freshItem c m

theorem restoredItem_eq (stored : List (Option StoredItem)) (m : Meters) (i : Nat) (c : ItemConfig) :
    restoredItem c m (stored[i]?).join = itemBack stored m i c := by
  unfold itemBack restoredItem
  rcases stored[i]? with _ | _ | x
  · rfl
  · rfl
  · simp

theorem restoredItems_getElem? (configs : List (Option ItemConfig)) (stored : Option (List (Option StoredItem)))
    (m : Meters) (i : Nat) : (restoredItems configs stored m)[i]?
      = configs[i]?.map (Option.map (itemBack (stored.getD []) m i)) := by
  unfold restoredItems
  rw [List.getElem?_map, getElem?_indexed, Option.map_map]
  cases configs[i]? with
  | none => rfl
  | some o =>
    refine congrArg some (Option.map_congr fun c _ => Eq.trans ?_ (restoredItem_eq (stored.getD []) m i c))
    cases stored <;> rfl

/-- What the start evaluation moves is a standing of some item in use. -/
theorem standingsChanged_iff (l : List (Option ServiceItem)) (judge : ServiceItem → ServiceItem) :
    standingsChanged l (l.map (Option.map judge)) = true ↔ ∃ (i : Nat) (x : ServiceItem), l[i]? = some (some x)
      ∧ ((judge x).meterStanding ≠ x.meterStanding ∨ (judge x).dayStanding ≠ x.dayStanding) := by
  unfold standingsChanged
  rw [bne_iff_ne, List.map_map, ne_eq, List.map_inj_left]
  constructor
  · intro h
    push Not at h
    obtain ⟨o, ho, hne⟩ := h
    obtain ⟨i, hi⟩ := List.mem_iff_getElem?.1 ho
    cases o with
    | none => exact absurd rfl hne
    | some x =>
      refine ⟨i, x, hi, ?_⟩
      by_contra hsame
      push Not at hsame
      exact hne (by simp [hsame])
  · rintro ⟨i, x, hi, hmoved⟩ hsame
    have hx := hsame (some x) (List.mem_of_getElem? hi)
    simp only [Option.map_some, Function.comp_apply, Option.some.injEq, Prod.mk.injEq] at hx
    exact hmoved.elim (fun h => h hx.1.symm) (fun h => h hx.2.symm)

/-! ## The clock's stamps -/

theorem stampNow_eq (s : State) : stampNow s = if s.time.unsetCause = none then some s.time.clock else none := by
  unfold stampNow clockRunning
  cases s.time.unsetCause <;> rfl

theorem datedNow_eq (s : State) : datedNow s = if s.time.unsetCause = none then some s.time.clock.day else none := by
  unfold datedNow clockRunning
  cases s.time.unsetCause <;> rfl

/-! ## Faults reported in order (R174, R175) -/

/-- The reports of these faults in order, each if its condition holds. -/
def noteAll (stamp : Option ClockTime) : List (Bool × FaultCode × FaultSource) → DiagnosticList → DiagnosticList
  | [], d => d
  | (b, code, source) :: rest, d => noteAll stamp rest (noteIn b code source stamp d)

/-- Faults of different codes over an empty list are entered one after the other. -/
theorem noteAll_fresh (stamp : Option ClockTime) (fs : List (Bool × FaultCode × FaultSource)) (codes : List FaultCode)
    (d : DiagnosticList) (h : FreshList codes d) (hdistinct : (codes ++ fs.map (·.2.1)).Nodup)
    (hroom : codes.length + fs.length ≤ 20) :
    FreshList (codes ++ fs.map (·.2.1)) (noteAll stamp fs d)
      ∧ (noteAll stamp fs d).entries = d.entries ++ fs.flatMap fun f => entryIf f.1 f.2.1 f.2.2 stamp := by
  induction fs generalizing codes d with
  | nil => exact ⟨(List.append_nil codes).symm ▸ h, (List.append_nil _).symm⟩
  | cons f rest ih =>
    obtain ⟨b, code, source⟩ := f
    rw [List.length_cons] at hroom
    have hsplit : codes ++ ((b, code, source) :: rest).map (·.2.1) = codes ++ [code] ++ rest.map (·.2.1) := by simp
    rw [hsplit] at hdistinct ⊢
    have hcode : code ∉ codes := by
      intro hmem
      have hpair := (List.nodup_append.1 (List.nodup_append.1 hdistinct).1).2.2
      exact hpair code hmem code (List.mem_singleton_self _) rfl
    have hnote := h.note b code source stamp hcode (by omega)
    obtain ⟨hfresh, hentries⟩ := ih _ _ hnote hdistinct (by rw [List.length_append, List.length_singleton]; omega)
    refine ⟨hfresh, hentries.trans ?_⟩
    rw [noteIn_entries h b code source stamp hcode (by omega), List.append_assoc]
    rfl

end Sys2Proof.Machine
end

section
/-! PROOFS. What a start has built and restored when it listens or goes to Limp, and how it ends (R156, R160, R183,
R184). -/

namespace Sys2Proof.Machine

/-! ## The faults and the jobs of a start -/

/-- The faults that a start can report, in order, each with its condition. -/
def startFaults (good : Bool) (s : State) : List (Bool × FaultCode × FaultSource) :=
  [(s.pins.straps.toNat == 0, .strapFault, startUpBlock), (!good, .imageBad, storeBlock),
    (s.time.stopped, .oscillatorStop, timeBlock), (!clockRunning s, .clockUnset, timeBlock),
    (good && limitsLost s, .limitAreaLost, envelopeBlock), (good && gradeLost s, .gradeAreaLost, guidanceBlock),
    (ringLost s, .meterLoss, meterBlock), (good && daysLost s, .dayAreaLost, economyBlock),
    (good && serviceLost s, .serviceAreaLost, serviceBlock), (good && historyLost s, .historyAreaLost, serviceBlock)]

def startDiag (good : Bool) (s : State) : DiagnosticList := noteAll (stampNow s) (startFaults good s) .empty

/-- The jobs that a start queues, in order. -/
def startJobs (good moved : Bool) (s : State) : List Job :=
  jobIf (good && limitsLost s) (.limitArea []) ++ jobIf (good && gradeLost s) (.gradeProfile [])
    ++ jobIf (ringLost s) .checkpoint ++ jobIf (good && (daysLost s || dayCloses s)) .dayRecords
    ++ jobIf (good && serviceLost s) (.serviceState []) ++ jobIf (good && historyLost s) (.history [])
    ++ jobIf (good && (!serviceLost s && moved)) (.serviceState [])

theorem startDiag_fresh (good : Bool) (s : State) :
    FreshList ((startFaults good s).map (·.2.1)) (startDiag good s)
      ∧ (startDiag good s).entries = (startFaults good s).flatMap fun f => entryIf f.1 f.2.1 f.2.2 (stampNow s) :=
  noteAll_fresh _ (startFaults good s) [] .empty freshList_empty
    (show [FaultCode.strapFault, .imageBad, .oscillatorStop, .clockUnset, .limitAreaLost, .gradeAreaLost, .meterLoss,
      .dayAreaLost, .serviceAreaLost, .historyAreaLost].Nodup by decide)
    (show 0 + 10 ≤ 20 by decide)

/-! ## Good image and bad image -/

/-- The units as a good image, or a bad one, has them built over a start. -/
def startGood (f : ImageFields) (s : State) : State := imageBuilt f (startBase s)

def startBad (s : State) : State := buildBad (startBase s)

theorem startBuilt_good (s : State) (f : ImageFields) (h : acceptedImage (startBase s) = some f) :
    startBuilt s = staged (startGood f s) (startLimits (startGood f s)) (startGuidance .atStart s) (startMeter s)
      { EconomyUnit.atStart with days := startDays s, lifetime := max (startFuel s) (startDays s).opened.fuel }
      (startService (startMeter s).meters .atStart (startGood f s)) (startDiag true s)
      (startJobs true (standingsChanged (itemsFound (startMeter s).meters (startGood f s))
        (itemsJudged (startMeter s).meters (startGood f s))) s) := by
  rw [startBuilt_eq, h]
  exact restoreAll_eq (startGood f s) [] .atStart _

theorem startBuilt_bad (s : State) (h : acceptedImage (startBase s) = none) :
    startBuilt s = staged (startBad s) (startBad s).limits .atStart (startMeter s)
      { EconomyUnit.atStart with lifetime := startFuel s } .atStart (startDiag false s)
      (jobIf (ringLost s) .checkpoint) := by
  rw [startBuilt_eq, h]
  show restoreCheckpoint (reportClock (staged (startBad s) (startBad s).limits .atStart .atStart .atStart .atStart
    (report .imageBad storeBlock (startBase s)).diag [])) = _
  rw [reportClock_staged, restoreCheckpoint_staged _ _ _ _ _ _ _ rfl (by decide)]
  rfl

theorem startJobs_bad (moved : Bool) (s : State) : startJobs false moved s = jobIf (ringLost s) .checkpoint := by
  simp [startJobs, jobIf]

/-! ## The end of a start (R181, R184, R185) -/

/-- A state with what the end of a start moves put in place. -/
def leftAs (u : State) (p : PowerState) (c : Option LimpCause) (ends : Option Nat) (cut : Bool) (bus : Biu)
    (m : MeterUnit) (d : DiagnosticList) (q : List Job) : State :=
  { u with
    power := p, limpCause := c, listenEnds := ends, pins := { u.pins with cutout := cut }, bus := bus, meter := m
    diag := d, store := { u.store with queue := q } }

/-- The Biu with every period begun. -/
def periodsBegun (now : Nat) (bus : Biu) : Biu :=
  cyclicPubs.foldl (fun b p => b.setPlace { b.place p with due := now + p.period } p) bus

theorem setDue_foldl (l : List CyclicPub) (s : State) : l.foldl (fun s p => setDue p (s.now + p.period) s) s
    = { s with bus := l.foldl (fun b p => b.setPlace { b.place p with due := s.now + p.period } p) s.bus } := by
  induction l generalizing s with
  | nil => rfl
  | cons p rest ih => exact ih (setDue p (s.now + p.period) s)

theorem startPeriods_eq (s : State) : startPeriods s = { s with bus := periodsBegun s.now s.bus } :=
  setDue_foldl cyclicPubs s

theorem topics_periodsBegun (now : Nat) (bus : Biu) : (periodsBegun now bus).topics = bus.topics := by
  unfold periodsBegun
  induction cyclicPubs generalizing bus with
  | nil => rfl
  | cons p rest ih => cases p <;> exact ih _

/-- A checkpoint wanted with no request waiting moves the meter, the queue and the Diagnostic List only. -/
theorem wantCheckpoint_noWaiters (s : State) (h : s.meter.waiters = []) :
    ∃ m d q, wantCheckpoint s = { s with meter := m, diag := d, store := { s.store with queue := q } } := by
  unfold wantCheckpoint
  split
  · unfold exhaustCheckpoints answerWaiters
    rw [h]
    exact ⟨_, _, s.store.queue, rfl⟩
  · split
    · split
      · exact ⟨_, s.diag, _, rfl⟩
      · exact ⟨_, s.diag, s.store.queue, rfl⟩
    · exact ⟨_, s.diag, s.store.queue, rfl⟩
    · exact ⟨_, s.diag, s.store.queue, rfl⟩

theorem limpCauseOf_start (u : State) (h : ¬ (u.imageGood = true ∧ u.station ≠ 0)) :
    limpCauseOf u false = some (if u.imageGood then .strapFault else .imageBad) := by
  unfold limpCauseOf
  cases hgood : u.imageGood
  · rfl
  · have hstation : u.station = 0 := by
      by_contra hne
      exact h ⟨hgood, hne⟩
    simp [hstation]

/-- A state as it enters Limp without a listen. -/
def limped (u : State) : State :=
  leftAs u .limp (some (if u.imageGood then .strapFault else .imageBad)) none (limpCutout u) (periodsBegun u.now u.bus)
    u.meter u.diag u.store.queue

/-- A start that cannot listen ends in Limp, with a held key-off taken. -/
theorem endStart_limp (u : State) (h : ¬ (u.imageGood = true ∧ u.station ≠ 0)) (hheld : u.keyOffHeld = false)
    (hwaiters : u.meter.waiters = []) : ∃ m d q, endStart false u = leftAs u .limp
      (some (if u.imageGood then .strapFault else .imageBad)) none (limpCutout u) (periodsBegun u.now u.bus) m d q := by
  have hcause : limpCauseOf { u with listenEnds := none, bus := periodsBegun u.now u.bus } false
      = some (if u.imageGood then .strapFault else .imageBad) := limpCauseOf_start u h
  have hfree : { limped u with keyOffHeld := false } = limped u := by
    rw [← show (limped u).keyOffHeld = false from hheld]
  have hend : endStart false u
      = if (limped u).keyOffHeld || !(limped u).pins.keyOn then takeKeyOff { limped u with keyOffHeld := false }
        else limped u := by
    unfold endStart
    rw [startPeriods_eq]
    simp only [hcause]
    rfl
  rw [hend, hfree]
  split
  · obtain ⟨m, d, q, hwant⟩ :=
      wantCheckpoint_noWaiters (setMeterUnit { u.meter with keyOffTaken := true } (limped u)) hwaiters
    refine ⟨m, d, q, ?_⟩
    unfold takeKeyOff
    rw [show (limped u).meter = u.meter from rfl, hwant]
    rfl
  · exact ⟨u.meter, u.diag, u.store.queue, rfl⟩

end Sys2Proof.Machine
end

section
/-! PROOFS. What a start leaves (R6, R12, R13, R42, R43, R57, R70, R75, R86, R90, R107, R110, R112, R118, R135, R138,
R153, R154, R156, R160, R175, R183, R184, R187, R191). -/

namespace Sys2Proof.Machine

/-! ## The image in force, and what is built -/

/-- A copy's header passes its checks. -/
def ValidHeader (v : ImageView) : Prop := 16 ≤ v.length ∧ v.length ≤ 2048 ∧ v.format = 1 ∧ v.checksumOk = true

/-- A copy is in force. -/
def InForce (p : ParameterStore) (one : Bool) : Prop :=
  ValidHeader (p.view one) ∧ (ValidHeader (p.view !one) →
    if one then (p.view false).generation < (p.view true).generation
    else (p.view true).generation ≤ (p.view false).generation)

theorem inForce_iff (p : ParameterStore) (one : Bool) : InForce p one ↔ p.imageInForce = some one := by
  rw [imageInForce_iff, headerValid_iff, headerValid_iff]
  rfl

theorem stagingCopy_inForce (p : ParameterStore) (one : Bool) (h : InForce p one) : stagingCopy p = !one := by
  rw [inForce_iff] at h
  unfold stagingCopy
  rw [h]

theorem stagingCopy_none (p : ParameterStore) (h0 : ¬ ValidHeader (p.view false)) (h1 : ¬ ValidHeader (p.view true)) :
    stagingCopy p = false := by
  unfold stagingCopy
  rw [imageInForce_none p (fun h => h0 ((headerValid_iff _).1 h)) (fun h => h1 ((headerValid_iff _).1 h))]

theorem acceptedImage_startBase_iff (s : State) (f : ImageFields) : acceptedImage (startBase s) = some f ↔
    ∃ one, InForce s.store one ∧ (s.store.view one).fields = some f ∧ imageOk s.pins.straps.toNat f = true := by
  simp only [inForce_iff]
  exact acceptedImage_iff (startBase s) f

/-- What a start has built from a good image. -/
structure BuiltGood (s : State) (f : ImageFields) (u : State) : Prop where
  imageGood : u.imageGood = true
  config : u.config = f
  pubs : u.bus.topics = f.pubs
  topics : u.topics = f.subs.map .atStart
  time : u.time = { s.time with
    timeMatches := f.timeMatches, trimLoaded := true, trim := if s.time.trimLoaded then s.time.trim else f.initialTrim }
  descriptors : u.pose.descriptors = f.descriptors.map .atStart

/-- What a start has built with a bad image. -/
structure BuiltBad (s u : State) : Prop where
  imageGood : u.imageGood = false
  config : u.config = .blank
  pubs : u.bus.topics = fallbackTopics s.pins.straps.toNat
  topics : u.topics = [fallbackEntry s.pins.straps.toNat]
  time : u.time = { s.time with timeMatches := [] }
  descriptors : u.pose.descriptors = List.replicate 6 (.atStart .unused)

theorem startBuilt_builtGood (s : State) (f : ImageFields) (h : acceptedImage (startBase s) = some f) :
    BuiltGood s f (startBuilt s) := by
  rw [startBuilt_good s f h]
  exact ⟨rfl, rfl, rfl, rfl, rfl, rfl⟩

theorem startBuilt_builtBad (s : State) (h : acceptedImage (startBase s) = none) : BuiltBad s (startBuilt s) := by
  rw [startBuilt_bad s h]
  exact ⟨rfl, rfl, rfl, rfl, rfl, rfl⟩

/-- The image is good exactly if one is accepted. -/
theorem startBuilt_imageGood_iff (s : State) :
    (startBuilt s).imageGood = true ↔ ∃ f, acceptedImage (startBase s) = some f := by
  cases himage : acceptedImage (startBase s) with
  | none => simp [(startBuilt_builtBad s himage).imageGood]
  | some f => simp [(startBuilt_builtGood s f himage).imageGood]

theorem startBuilt_bad_of (s : State) (h : (startBuilt s).imageGood = false) : BuiltBad s (startBuilt s) := by
  refine startBuilt_builtBad s (Option.eq_none_iff_forall_ne_some.2 fun f himage => ?_)
  rw [(startBuilt_builtGood s f himage).imageGood] at h
  cases h

/-! ## What a start keeps, and what it restores -/

/-- What every start has set or kept when it listens or goes to Limp. -/
structure StartSet (s u : State) : Prop where
  station : u.station = s.pins.straps.toNat
  now : u.now = s.now
  pending : u.pending = s.pending
  power : u.power = .startUp
  cutout : u.pins.cutout = false
  keyOffHeld : u.keyOffHeld = false
  restart : u.restart = none
  intervention : u.intervention = .atStart
  pose : u.pose.pose = PoseUnit.atStart.pose
  access : u.access = List.replicate 4 .empty
  detectorArmed : u.detectorArmed = true
  clock : u.time.clock = s.time.clock
  unsetCause : u.time.unsetCause = s.time.unsetCause

theorem startBuilt_set (s : State) : StartSet s (startBuilt s) := by
  cases himage : acceptedImage (startBase s) with
  | none =>
    rw [startBuilt_bad s himage]
    exact ⟨rfl, rfl, rfl, rfl, rfl, rfl, rfl, rfl, rfl, rfl, rfl, rfl, rfl⟩
  | some f =>
    rw [startBuilt_good s f himage]
    exact ⟨rfl, rfl, rfl, rfl, rfl, rfl, rfl, rfl, rfl, rfl, rfl, rfl, rfl⟩

/-- The items that the store gives back over what is built, and as the start evaluation leaves them. -/
def itemsGiven (s u : State) : List (Option ServiceItem) :=
  restoredItems u.config.items (s.store.service.restored serviceAreaOk) u.meter.meters

def itemsLeft (s u : State) : List (Option ServiceItem) :=
  (itemsGiven s u).map (Option.map (startItem u.meter.meters (datedNow s)))

/-- What a start has restored from the store. -/
structure StartRestored (s u : State) : Prop where
  limits : u.imageGood = true →
    u.limits = ((s.store.limits.restored limitsOk).getD u.config.limits).map restoredLimit
  guidance : u.guidance = if u.imageGood then startGuidance .atStart s else .atStart
  meter : u.meter = startMeter s
  economy : u.economy = { EconomyUnit.atStart with
    days := u.economy.days, lifetime := max (startFuel s) u.economy.days.opened.fuel }
  days : u.economy.days = if u.imageGood then startDays s else .blank
  service : u.service = if u.imageGood then { ServiceUnit.atStart with
      items := itemsLeft s u
      history := (s.store.history.restored historyOk).getD []
      derate := derateWanted (itemsLeft s u) }
    else .atStart
  store : u.store = { s.store with staging := u.store.staging, queue := u.store.queue, writing := none }
  staging : u.store.staging = stagingCopy s.store
  queue : u.store.queue = startJobs u.imageGood (standingsChanged (itemsGiven s u) (itemsLeft s u)) s
  diag : u.diag = startDiag u.imageGood s

theorem startBuilt_restored (s : State) : StartRestored s (startBuilt s) := by
  cases himage : acceptedImage (startBase s) with
  | none =>
    rw [startBuilt_bad s himage]
    exact ⟨nofun, rfl, rfl, congrArg (fun n => { EconomyUnit.atStart with lifetime := n }) (Nat.max_zero _).symm, rfl,
      rfl, rfl, rfl, (startJobs_bad _ s).symm, rfl⟩
  | some f =>
    rw [startBuilt_good s f himage]
    exact ⟨fun _ => rfl, rfl, rfl, rfl, rfl, rfl, rfl, rfl, rfl, rfl⟩

end Sys2Proof.Machine
end

section
/-! PROOFS. The start's statement, clause by clause (R42, R43, R70, R75, R107, R110, R135, R153, R154, R175, R183, R184,
R187, R191). -/

namespace Sys2Proof.Machine

/-! ## How the start ends -/

/-- How a start leaves the state that it has built: it listens, or it is in Limp. -/
structure StartEnd (u : State) (p : PowerState) (c : Option LimpCause) (ends : Option Nat) (cut : Bool) : Prop where
  listens : u.imageGood = true ∧ u.station ≠ 0 → p = u.power ∧ ends = some (u.now + 500) ∧ cut = u.pins.cutout
  limps : ¬ (u.imageGood = true ∧ u.station ≠ 0) → p = .limp ∧ ends = none
    ∧ c = some (if u.imageGood then .strapFault else .imageBad) ∧ cut = limpCutout u

theorem beginStart_left (s : State) : ∃ p c ends cut bus m d q,
    beginStart s = leftAs (startBuilt s) p c ends cut bus m d q ∧ bus.topics = (startBuilt s).bus.topics
      ∧ StartEnd (startBuilt s) p c ends cut := by
  have hwaiters : (startBuilt s).meter.waiters = [] := by
    rw [(startBuilt_restored s).meter]
    unfold startMeter
    cases newestSlot s.store.slots <;> rfl
  rw [beginStart_eq]
  split
  case isTrue hlistens =>
    exact ⟨_, (startBuilt s).limpCause, _, _, (startBuilt s).bus, (startBuilt s).meter, (startBuilt s).diag,
      (startBuilt s).store.queue, rfl, rfl, fun _ => ⟨rfl, rfl, rfl⟩, fun h => absurd hlistens h⟩
  case isFalse hlimps =>
    obtain ⟨m, d, q, hend⟩ := endStart_limp (startBuilt s) hlimps (startBuilt_set s).keyOffHeld hwaiters
    exact ⟨_, _, _, _, _, m, d, q, hend, topics_periodsBegun _ _, fun h => absurd h hlimps,
      fun _ => ⟨rfl, rfl, rfl, rfl⟩⟩

/-- CUTOUT on entry to Limp: no enabled Technician-owned Stop entry, of the table or of a stored area. -/
theorem limpCutout_iff (u : State) : limpCutout u = true ↔ if u.imageGood = true then
      ∀ e ∈ u.limits, ¬ (e.state ≠ .disabled ∧ e.config.action = .stop ∧ e.config.owner = .technician)
    else ∃ l, u.store.limits.restored limitsOk = some l
      ∧ ∀ e ∈ l, ¬ (e.enabled = true ∧ e.config.action = .stop ∧ e.config.owner = .technician) := by
  have hany (l : List StoredLimit) : (!l.any withholds) = true ↔
      ∀ e ∈ l, ¬ (e.enabled = true ∧ e.config.action = .stop ∧ e.config.owner = .technician) := by
    simp only [Bool.not_eq_true', List.any_eq_false, withholds, Bool.and_eq_true, beq_iff_eq, and_assoc]
  unfold limpCutout
  cases u.imageGood
  · cases u.store.limits.restored limitsOk with
    | none => simp
    | some l => simpa using hany l
  · simp only [↓reduceIte, hany, storedLimits_eq, List.forall_mem_map, decide_eq_true_eq]

/-! ## What is built -/

/-- The descriptors of the image, each at its fixed value; Unused with a bad image. -/
theorem startBuilt_descriptors (s : State) : (startBuilt s).pose.descriptors
    = if (startBuilt s).imageGood = true then
        (startBuilt s).config.descriptors.map fun c => ⟨c, true, c.fixedValue, none, false⟩
      else List.replicate 6 ⟨.unused, true, 0, none, false⟩ := by
  split
  case isTrue hgood =>
    obtain ⟨f, himage⟩ := (startBuilt_imageGood_iff s).1 hgood
    have hbuilt := startBuilt_builtGood s f himage
    rw [hbuilt.descriptors, hbuilt.config]
    rfl
  case isFalse hbad => exact (startBuilt_bad_of s (Bool.eq_false_iff.2 hbad)).descriptors

/-- The topics of the image, each Never heard and at rest. -/
theorem builtTopics (l : List SubConfig) : (l.map SubEntry.atStart).map (·.config) = l
    ∧ ∀ e ∈ l.map SubEntry.atStart, e.payload = none ∧ e.counter = none ∧ e.state = .never ∧ e.run = 0 ∧ e.gaps = 0
      ∧ e.inFlight = none ∧ e.stored = none ∧ e.assembly = none := by
  constructor
  · rw [List.map_map]
    exact List.map_id l
  · rw [List.forall_mem_map]
    exact fun c _ => ⟨rfl, rfl, rfl, rfl, rfl, rfl, rfl, rfl⟩

/-! ## The guidance and the meters -/

theorem startBuilt_guidance (s : State) (h : (startBuilt s).imageGood = true) :
    (startBuilt s).guidance = { GuidanceUnit.atStart with
    profile := startProfile s
    scanIndex := (startBuilt s).guidance.scanIndex
    scan := if (startProfile s).any Option.isSome then .offProfile else .noProfile } := by
  have hguidance : (startBuilt s).guidance = startGuidance .atStart s :=
    (startBuilt_restored s).guidance.trans (if_pos h)
  rw [hguidance, startGuidance_eq]

theorem startBuilt_scanIndex (s : State) (h : (startBuilt s).imageGood = true) (i : Nat)
    (hi : ∃ x, (startProfile s)[i]? = some (some x)) (hlow : ∀ j < i, ∀ x, (startProfile s)[j]? ≠ some (some x)) :
    (startBuilt s).guidance.scanIndex = i := by
  rw [(startBuilt_restored s).guidance, if_pos h, startGuidance_eq]
  exact lowestPresent_eq _ i hi hlow

theorem startBuilt_guidance_atStart (s : State)
    (h : ¬ (startBuilt s).imageGood = true ∨ (startProfile s).any Option.isSome = false) :
    (startBuilt s).guidance = .atStart := by
  rw [(startBuilt_restored s).guidance]
  rcases h with hbad | hcleared
  · exact if_neg hbad
  · rw [startGuidance_cleared s hcleared, ite_self]

/-- The newest slot gives the meters, the sequence and the lifetime fuel, which is at least the open record's. -/
theorem startBuilt_newest (s : State) (x : Slot) (hx : x ∈ s.store.slots) (hvalid : x.valid = true)
    (htop : ∀ y ∈ s.store.slots, y.valid = true →
      y.content = x.content ∨ y.content.sequence < x.content.sequence) :
    (startBuilt s).meter = { MeterUnit.atStart with meters := x.content.meters, sequence := x.content.sequence }
      ∧ (startBuilt s).economy.lifetime = max x.content.lifetime (startBuilt s).economy.days.opened.fuel := by
  have hnew := newestSlot_eq _ x hx hvalid htop
  rw [(startBuilt_restored s).meter, congrArg EconomyUnit.lifetime (startBuilt_restored s).economy]
  unfold startMeter startFuel
  rw [hnew]
  exact ⟨rfl, rfl⟩

theorem ringLost_eq (s : State) : ringLost s = decide (s.store.slots.any Slot.valid = false) := by
  unfold ringLost
  rw [newestSlot_isNone]
  cases s.store.slots.any Slot.valid <;> rfl

/-- With no valid slot a first checkpoint is queued. -/
theorem startBuilt_ringLost (s : State) (h : s.store.slots.any Slot.valid = false) :
    (startBuilt s).meter = { MeterUnit.atStart with sequence := 1, job := .queued, snapshot := some ⟨1, .zero, 0⟩ }
      ∧ (startBuilt s).economy.lifetime = (startBuilt s).economy.days.opened.fuel := by
  have hnone : newestSlot s.store.slots = none := by
    rw [← Option.isNone_iff_eq_none, newestSlot_isNone, h]
    rfl
  rw [(startBuilt_restored s).meter, congrArg EconomyUnit.lifetime (startBuilt_restored s).economy]
  unfold startMeter startFuel
  rw [hnone]
  exact ⟨rfl, Nat.zero_max _⟩

theorem startBuilt_economy (s : State) : (startBuilt s).economy = { EconomyUnit.atStart with
    days := (startBuilt s).economy.days, lifetime := (startBuilt s).economy.lifetime } := by
  rw [congrArg EconomyUnit.lifetime (startBuilt_restored s).economy]
  exact (startBuilt_restored s).economy

/-! ## The days -/

theorem dayCloses_iff (s : State) : dayCloses s = true ↔ ∃ a, s.store.days.restored dayAreaOk = some a
    ∧ a.opened.date ≠ none ∧ a.opened.date ≠ if s.time.unsetCause = none then some s.time.clock.day else none := by
  unfold dayCloses
  rw [closesDay_iff, datedNow_eq]

theorem startDays_lost (s : State) (h : s.store.days.restored dayAreaOk = none) : startDays s
    = ⟨[], .opened (if s.time.unsetCause = none then some s.time.clock.day else none), ⟨0, 0, 0⟩⟩ := by
  unfold startDays
  rw [h, datedNow_eq]
  rfl

theorem startDays_stored (s : State) (a : DayArea) (h : s.store.days.restored dayAreaOk = some a) : startDays s
    = if dayCloses s then ⟨(a.ring ++ [a.opened]).drop ((a.ring ++ [a.opened]).length - 14),
        .opened (if s.time.unsetCause = none then some s.time.clock.day else none), a.shift⟩
      else a := by
  unfold startDays dayCloses
  rw [h, restoredDays_some, datedNow_eq]

/-! ## The service items -/

/-- The judgement of one item, before a notice is owed. -/
def judgedItem (m : Meters) (today : Option Date) (item : ServiceItem) : ServiceItem := { item with
  meterStanding := meterStandingOf item m
  dayStanding := match today with
    | some d => dayStandingOf item d
    | none => item.dayStanding }

theorem itemsGiven_getElem? (s u : State) (i : Nat) : (itemsGiven s u)[i]? = u.config.items[i]?.map
    (Option.map (itemBack ((s.store.service.restored serviceAreaOk).getD []) u.meter.meters i)) :=
  restoredItems_getElem? _ _ _ i

theorem itemsLeft_getElem? (s u : State) (i : Nat) : (itemsLeft s u)[i]? = u.config.items[i]?.map
    (Option.map fun c => startItem u.meter.meters (datedNow s)
      (itemBack ((s.store.service.restored serviceAreaOk).getD []) u.meter.meters i c)) := by
  unfold itemsLeft
  rw [List.getElem?_map, itemsGiven_getElem?, Option.map_map]
  rcases u.config.items[i]? with _ | _ | c <;> rfl

theorem itemsLeft_length (s u : State) : (itemsLeft s u).length = u.config.items.length := by
  unfold itemsLeft
  rw [List.length_map]
  exact restoredItems_length _ _ _

/-- A standing moves at a start. -/
theorem startMoves_iff (s u : State) : standingsChanged (itemsGiven s u) (itemsLeft s u) = true ↔
    ∃ (i : Nat) (c : ItemConfig), u.config.items[i]? = some (some c) ∧
      let given := itemBack ((s.store.service.restored serviceAreaOk).getD []) u.meter.meters i c
      ((judgedItem u.meter.meters (datedNow s) given).meterStanding ≠ given.meterStanding
        ∨ (judgedItem u.meter.meters (datedNow s) given).dayStanding ≠ given.dayStanding) := by
  unfold itemsLeft
  rw [standingsChanged_iff]
  simp only [itemsGiven_getElem?]
  constructor
  · rintro ⟨i, x, hx, hmoved⟩
    simp only [Option.map_eq_some_iff] at hx
    obtain ⟨_, hitem, c, rfl, rfl⟩ := hx
    exact ⟨i, c, hitem, hmoved⟩
  · rintro ⟨i, c, hitem, hmoved⟩
    exact ⟨i, _, by rw [hitem]; rfl, hmoved⟩

/-! ## The jobs and the faults -/

theorem decide_eq_none {α : Type} (o : Option α) [Decidable (o = none)] : decide (o = none) = o.isNone := by
  cases o <;> simp

theorem startJobs_eq (good moved : Bool) (s : State) : startJobs good moved s
    = jobIf (good = true ∧ s.store.limits.restored limitsOk = none) (.limitArea [])
      ++ jobIf (good = true ∧ s.store.grade.restored profileOk = none) (.gradeProfile [])
      ++ jobIf (s.store.slots.any Slot.valid = false) .checkpoint
      ++ jobIf (good = true ∧ (s.store.days.restored dayAreaOk = none ∨ dayCloses s = true)) .dayRecords
      ++ jobIf (good = true ∧ s.store.service.restored serviceAreaOk = none) (.serviceState [])
      ++ jobIf (good = true ∧ s.store.history.restored historyOk = none) (.history [])
      ++ jobIf (good = true ∧ s.store.service.restored serviceAreaOk ≠ none ∧ moved = true) (.serviceState []) := by
  simp only [Bool.decide_and, Bool.decide_or, decide_not, decide_eq_none, Bool.decide_eq_true, ne_eq, ← ringLost_eq]
  rfl

theorem startDiag_entries (good : Bool) (s : State) : (startDiag good s).entries
    = let stamp := if s.time.unsetCause = none then some s.time.clock else none
      entryIf (s.pins.straps.toNat = 0) .strapFault startUpBlock stamp
      ++ entryIf (¬ good = true) .imageBad storeBlock stamp
      ++ entryIf (s.time.stopped = true) .oscillatorStop timeBlock stamp
      ++ entryIf (s.time.unsetCause ≠ none) .clockUnset timeBlock stamp
      ++ entryIf (good = true ∧ s.store.limits.restored limitsOk = none) .limitAreaLost envelopeBlock stamp
      ++ entryIf (good = true ∧ s.store.grade.restored profileOk = none) .gradeAreaLost guidanceBlock stamp
      ++ entryIf (s.store.slots.any Slot.valid = false) .meterLoss meterBlock stamp
      ++ entryIf (good = true ∧ s.store.days.restored dayAreaOk = none) .dayAreaLost economyBlock stamp
      ++ entryIf (good = true ∧ s.store.service.restored serviceAreaOk = none) .serviceAreaLost serviceBlock stamp
      ++ entryIf (good = true ∧ s.store.history.restored historyOk = none) .historyAreaLost serviceBlock stamp := by
  simp only [Bool.decide_and, decide_not, decide_eq_none, Bool.decide_eq_true, ne_eq, ← ringLost_eq, ← stampNow_eq]
  rw [(startDiag_fresh good s).2]
  simp only [startFaults, List.flatMap_cons, List.flatMap_nil, List.append_nil, List.append_assoc]
  rfl

end Sys2Proof.Machine
end

section
/-! PROOFS. What a start leaves, and which images are good: the statement put together (R183, R190, R192). -/

namespace Sys2Proof.Machine

theorem beginStart_eq_listen (s : State) : beginStart s =
    if (startBuilt s).imageGood = true ∧ (startBuilt s).station ≠ 0 then
      { startBuilt s with listenEnds := some (s.now + 500) }
    else endStart false (startBuilt s) := by
  rw [beginStart_eq, (startBuilt_set s).now]

theorem startBuilt_detector (s : State) :
    (startBuilt s).guidance.detector = .idle ∧ (startBuilt s).guidance.benchmark = none := by
  rw [(startBuilt_restored s).guidance, startGuidance_eq]
  split <;> exact ⟨rfl, rfl⟩

theorem startBuilt_imageGood_inForce (s : State) : (startBuilt s).imageGood = true ↔ ∃ one f,
    InForce s.store one ∧ (s.store.view one).fields = some f ∧ imageOk (startBuilt s).station f = true := by
  rw [(startBuilt_set s).station, startBuilt_imageGood_iff, exists_comm]
  exact exists_congr (acceptedImage_startBase_iff s)

theorem startBuilt_inForce (s : State) (one : Bool) (f : ImageFields) (hforce : InForce s.store one)
    (hfields : (s.store.view one).fields = some f) (hok : imageOk (startBuilt s).station f = true) :
    BuiltGood s f (startBuilt s) :=
  startBuilt_builtGood s f
    ((acceptedImage_startBase_iff s f).2 ⟨one, hforce, hfields, (startBuilt_set s).station ▸ hok⟩)

/-- CUTOUT in Limp, by the table that is built or by the stored area. -/
theorem limpCutout_startBuilt_iff (s : State) : limpCutout (startBuilt s) = true ↔
    if (startBuilt s).imageGood = true then
      ∀ e ∈ (startBuilt s).limits, ¬ (e.state ≠ .disabled ∧ e.config.action = .stop ∧ e.config.owner = .technician)
    else ∃ l, s.store.limits.restored limitsOk = some l
      ∧ ∀ e ∈ l, ¬ (e.enabled = true ∧ e.config.action = .stop ∧ e.config.owner = .technician) := by
  have hlimits : (startBuilt s).store.limits = s.store.limits := by rw [(startBuilt_restored s).store]
  rw [limpCutout_iff, hlimits]

/-- The Service Unit of a start with a good image. -/
theorem startBuilt_service (s : State) (h : (startBuilt s).imageGood = true) :
    (startBuilt s).service = { ServiceUnit.atStart with
      items := itemsLeft s (startBuilt s)
      history := (s.store.history.restored historyOk).getD []
      derate := derateWanted (itemsLeft s (startBuilt s)) } :=
  (startBuilt_restored s).service.trans (if_pos h)

/-- Settles O59: a start leaves what it has built and restored, listening or in Limp. -/
theorem startLeaves : Obligations.StartLeaves := by
  refine ⟨?_, ?_⟩
  · intro s t
    have hset := startBuilt_set s
    have hrestored := startBuilt_restored s
    obtain ⟨p, c, ends, cut, bus, m, d, q, hleft, hbus, hend⟩ := beginStart_left s
    have hlisten : t = _ := beginStart_eq_listen s
    replace hleft : t = _ := hleft
    clear_value t
    subst hleft
    refine ⟨hset.station, hset.now, hset.pending, hset.restart, hset.intervention, hset.pose,
      congrArg EconomyUnit.state hrestored.economy, (startBuilt_detector s).1, (startBuilt_detector s).2, hset.access,
      hset.detectorArmed, hset.clock, hset.unsetCause, startBuilt_descriptors s, ?_, ?_, ?_, ?_⟩
    · intro h
      obtain ⟨hp, hends, hcut⟩ := hend.listens h
      exact ⟨hp.trans hset.power, hends.trans (by rw [hset.now]), hcut.trans hset.cutout⟩
    · intro h
      obtain ⟨hp, hends, hc, hcut⟩ := hend.limps h
      exact ⟨hp, hends, hc, (iff_of_eq (congrArg (· = true) hcut)).trans (limpCutout_startBuilt_iff s)⟩
    · refine ⟨startBuilt_imageGood_inForce s, fun one h => hrestored.staging.trans (stagingCopy_inForce _ one h),
        fun h0 h1 => hrestored.staging.trans (stagingCopy_none _ h0 h1), ?_, ?_⟩
      · intro one f hforce hfields hok
        have hbuilt := startBuilt_inForce s one f hforce hfields hok
        obtain ⟨hconfigs, hrest⟩ := builtTopics f.subs
        rw [← hbuilt.topics] at hconfigs hrest
        exact ⟨hbuilt.config, hbus.trans hbuilt.pubs, hconfigs, hrest, hbuilt.time⟩
      · intro hbad
        have hbuilt := startBuilt_bad_of s hbad
        obtain ⟨-, hconfig, hpubs, htopics, htime, -⟩ := hbuilt
        rw [← hset.station] at hpubs htopics
        exact ⟨hconfig, htopics, hbus.trans hpubs, htime⟩
    · refine ⟨startBuilt s, hlisten, rfl, rfl, rfl, hset.power, ?_⟩
      intro closes moved good p' today stamp limits grade profile days items history ring afresh stored back judged
        when' job hcloses hmoved
      have hcloses' : closes = dayCloses s := Bool.eq_iff_iff.2 (hcloses.trans (dayCloses_iff s).symm)
      have hmoves := startMoves_iff s (startBuilt s)
      rw [datedNow_eq] at hmoves
      have hmoved' : moved = standingsChanged (itemsGiven s (startBuilt s)) (itemsLeft s (startBuilt s)) :=
        Bool.eq_iff_iff.2 (hmoved.trans hmoves.symm)
      have hdays (hgood : good) : (startBuilt s).economy.days = startDays s := hrestored.days.trans (if_pos hgood)
      have hservice (hgood : good) := startBuilt_service s hgood
      refine ⟨hrestored.limits, startBuilt_guidance s, startBuilt_scanIndex s, startBuilt_guidance_atStart s,
        startBuilt_newest s, startBuilt_ringLost s, startBuilt_economy s,
        fun hgood hlost => (hdays hgood).trans (startDays_lost s hlost), fun hgood a ha => ?_,
        fun hbad => hrestored.days.trans (if_neg hbad), fun hgood => ⟨?_, ?_, ?_, ?_, ?_, ?_⟩,
        fun hbad => hrestored.service.trans (if_neg hbad), hrestored.store, ?_, ?_, ?_, ?_⟩
      · rw [hcloses']
        exact (hdays hgood).trans (startDays_stored s a ha)
      · rw [hservice hgood]
        exact itemsLeft_length s _
      · intro i hi
        rw [hservice hgood]
        show (itemsLeft s (startBuilt s))[i]? = _
        rw [itemsLeft_getElem?, hi]
        rfl
      · intro i c hi new
        rw [hservice hgood]
        show (itemsLeft s (startBuilt s))[i]? = _
        rw [itemsLeft_getElem?, hi, datedNow_eq]
        rfl
      · rw [hservice hgood]
      · rw [hservice hgood]
      · rw [hservice hgood]
        rfl
      · rw [hcloses', hmoved']
        exact hrestored.queue.trans (startJobs_eq _ _ s)
      · rw [hrestored.diag]
        exact (startDiag_fresh _ s).1.unentered
      · rw [hrestored.diag]
        exact (startDiag_fresh _ s).1.attention
      · rw [hrestored.diag, hset.station]
        exact startDiag_entries _ s
  · intro own f
    refine (imageOk_iff own f).trans (and_congr (subsOk_iff ..) (and_congr (pubsOk_iff _) (and_congr (geometryOk_iff _)
      (and_congr (descriptorsOk_iff f) (and_congr ?_ (and_congr Iff.rfl (and_congr (economyOk_iff _)
      (and_congr Iff.rfl (and_congr (timeMatchesOk_iff _) (and_congr Iff.rfl ?_))))))))))
    · exact (limitsOk_iff _).trans (and_congr_right' (forall₂_congr fun x _ => limitConfig_ok_iff x.config))
    · exact (itemsOk_iff f).trans (and_congr_right' (forall₂_congr fun x _ => itemOk_iff f.timeMatches x))

end Sys2Proof.Machine
end

section
/-! PROOFS. What leaves the Intervention Unit as it is: every operation of the other blocks but an event at the list,
an entry into Hold, a reaction to a cut confirmation, and the offering of the notices that records owe. -/

namespace Sys2Proof.Machine

/-! ## The Diagnostic List, the transmit queue and the replies -/

@[simp] theorem pulseFault_intervention (c : FaultCode) (f : FaultSource) (s : State) :
    (pulseFault c f s).intervention = s.intervention := rfl

@[simp] theorem setItem_intervention (i : Nat) (x : ServiceItem) (s : State) :
    (setItem i x s).intervention = s.intervention := rfl

@[simp] theorem queueWarning_intervention (n : WarnNotice) (s : State) :
    (queueWarning n s).intervention = s.intervention := by
  unfold queueWarning
  dsimp only
  split <;> rfl

@[simp] theorem queueServiceNotice_intervention (i : Nat) (x : ServiceItem) (k : ServiceNoticeKind) (s : State) :
    (queueServiceNotice i x k s).intervention = s.intervention := by
  unfold queueServiceNotice
  split <;> rfl

@[simp] theorem feedController_intervention (s : State) : (feedController s).intervention = s.intervention := by
  unfold feedController
  split
  · split <;> rfl
  · rfl

@[simp] theorem sentCyclic_intervention (p : CyclicPub) (s : State) :
    (sentCyclic p s).intervention = s.intervention := rfl

@[simp] theorem noteRestartReply_intervention (n : Nat) (s : State) :
    (noteRestartReply n s).intervention = s.intervention := rfl

@[simp] theorem sendReply_intervention (t : Ticket) (r : Result) (d : List Byte) (s : State) :
    (sendReply t r d s).intervention = s.intervention := rfl

@[simp] theorem finishRequest_intervention (t : Ticket) (r : Result) (d : List Byte) (s : State) :
    (finishRequest t r d s).intervention = s.intervention := rfl

@[simp] theorem renewGrant_intervention (n : Nat) (s : State) :
    (renewGrant n s).intervention = s.intervention := rfl

/-! ## The store -/

@[simp] theorem queueJob_intervention (j : Job) (s : State) : (queueJob j s).intervention = s.intervention := rfl

@[simp] theorem carry_intervention (k : Job → Bool) (j : List Ticket → Job) (t : Ticket) (s : State) :
    (carry k j t s).intervention = s.intervention := by
  unfold carry
  split <;> rfl

@[simp] theorem beginWrite_intervention (s : State) : (beginWrite s).intervention = s.intervention := by
  unfold beginWrite
  split <;> rfl

/-! ## The Economy Unit -/

@[simp] theorem enterEconomy_intervention (e : EconomyState) (s : State) :
    (enterEconomy e s).intervention = s.intervention := rfl

@[simp] theorem economyForced_intervention (s : State) : (economyForced s).intervention = s.intervention := rfl

@[simp] theorem engineStopped_intervention (s : State) : (engineStopped s).intervention = s.intervention := by
  unfold engineStopped
  split <;> rfl

@[simp] theorem economyEngineRun_intervention (b : Bool) (n : Nat) (s : State) :
    (economyEngineRun b n s).intervention = s.intervention := by
  unfold economyEngineRun
  split
  · simp
  · split
    · rfl
    · split <;> rfl
    · rfl

@[simp] theorem activityPresent_intervention (s : State) : (activityPresent s).intervention = s.intervention := by
  unfold activityPresent
  split <;> rfl

@[simp] theorem activityAbsent_intervention (s : State) : (activityAbsent s).intervention = s.intervention := by
  unfold activityAbsent
  split
  · split <;> rfl
  · rfl
  · rfl

@[simp] theorem economyPilot_intervention (s : State) : (economyPilot s).intervention = s.intervention := by
  unfold economyPilot
  split <;> simp

@[simp] theorem listNonEmpty_intervention (s : State) : (listNonEmpty s).intervention = s.intervention := by
  unfold listNonEmpty
  split <;> rfl

@[simp] theorem waitExpired_intervention (s : State) : (waitExpired s).intervention = s.intervention := by
  unfold waitExpired
  split <;> rfl

@[simp] theorem shutdownExpired_intervention (s : State) : (shutdownExpired s).intervention = s.intervention := by
  unfold shutdownExpired
  split <;> rfl

@[simp] theorem resumeExpired_intervention (s : State) : (resumeExpired s).intervention = s.intervention := by
  unfold resumeExpired
  split <;> rfl

@[simp] theorem integrateFuel_intervention (n : Nat) (s : State) :
    (integrateFuel n s).intervention = s.intervention := rfl

@[simp] theorem setDays_intervention (f : DayArea → DayArea) (s : State) :
    (setDays f s).intervention = s.intervention := rfl

@[simp] theorem modifyOpened_intervention (f : DayRecord → DayRecord) (s : State) :
    (modifyOpened f s).intervention = s.intervention := rfl

@[simp] theorem economySecond_intervention (s : State) : (economySecond s).intervention = s.intervention := by
  unfold economySecond
  split <;> rfl

@[simp] theorem shiftStart_intervention (s : State) : (shiftStart s).intervention = s.intervention := rfl

@[simp] theorem economyCycle_intervention (s : State) : (economyCycle s).intervention = s.intervention := rfl

@[simp] theorem economyRaise_intervention (s : State) : (economyRaise s).intervention = s.intervention := rfl

@[simp] theorem wantDayJob_intervention (s : State) : (wantDayJob s).intervention = s.intervention := by
  unfold wantDayJob
  split
  · rfl
  · split <;> rfl

@[simp] theorem economyRollover_intervention (s : State) : (economyRollover s).intervention = s.intervention := by
  simp [economyRollover]

@[simp] theorem economyClockSet_intervention (d : Date) (s : State) :
    (economyClockSet d s).intervention = s.intervention := by
  unfold economyClockSet
  dsimp only
  split <;> simp

/-! ## The Service Unit -/

@[simp] theorem wantServiceJob_intervention (s : State) : (wantServiceJob s).intervention = s.intervention := by
  unfold wantServiceJob
  split
  · rfl
  · split <;> rfl

@[simp] theorem formDerate_intervention (s : State) : (formDerate s).intervention = s.intervention := rfl

@[simp] theorem restand_intervention (i : Nat) (x : ServiceItem) (m d : Standing) (s : State) :
    (restand i x m d s).intervention = s.intervention := by
  unfold restand
  dsimp only
  repeat' split
  all_goals simp

/-- An evaluation of the service items leaves the Intervention Unit alone if its work on each item does. -/
theorem forItems_intervention (f : Nat → ServiceItem → State → State)
    (hf : ∀ i x s, (f i x s).intervention = s.intervention) (s : State) :
    (forItems f s).intervention = s.intervention := by
  refine foldl_keeps State.intervention _ (fun s i => ?_) _ _
  split
  · exact hf ..
  · rfl

@[simp] theorem serviceMeter_intervention (n : Nat) (s : State) :
    (serviceMeter n s).intervention = s.intervention := by
  refine forItems_intervention _ (fun i x s => ?_) s
  split
  · simp
  · rfl

@[simp] theorem serviceCalendar_intervention (s : State) : (serviceCalendar s).intervention = s.intervention := by
  unfold serviceCalendar
  split
  · rfl
  · exact forItems_intervention _ (fun i x s => restand_intervention ..) s

@[simp] theorem beginDayCounts_intervention (s : State) : (beginDayCounts s).intervention = s.intervention := by
  unfold beginDayCounts
  split
  · rfl
  · refine forItems_intervention _ (fun i x s => ?_) s
    split
    · simp
    · rfl

@[simp] theorem serviceRollover_intervention (s : State) : (serviceRollover s).intervention = s.intervention := by
  simp [serviceRollover]

@[simp] theorem serviceReminder_intervention (k : Nat) (s : State) :
    (serviceReminder k s).intervention = s.intervention := by
  refine forItems_intervention _ (fun i x s => ?_) s
  split
  · simp
  · rfl

@[simp] theorem serviceShiftStart_intervention (s : State) :
    (serviceShiftStart s).intervention = s.intervention := rfl

@[simp] theorem recordService_intervention (i : Nat) (x : ServiceItem) (t : Ticket) (s : State) :
    (recordService i x t s).intervention = s.intervention := by
  simp [recordService]

/-! ## The Meter Unit -/

@[simp] theorem announceMeter_intervention (n : Nat) (s : State) :
    (announceMeter n s).intervention = s.intervention := by
  unfold announceMeter
  split
  · simp
  · rfl

@[simp] theorem meterCycle_intervention (s : State) : (meterCycle s).intervention = s.intervention := by
  unfold meterCycle
  split
  · rfl
  · simp

@[simp] theorem answerWaiters_intervention (l : List Waiter) (s : State) :
    (answerWaiters l s).intervention = s.intervention := by
  unfold answerWaiters
  refine foldl_keeps State.intervention _ (fun s w => ?_) l s
  rw [finishRequest_intervention]

@[simp] theorem exhaustCheckpoints_intervention (s : State) :
    (exhaustCheckpoints s).intervention = s.intervention := by
  simp [exhaustCheckpoints]

@[simp] theorem queueCheckpoint_intervention (urgent : Bool) (s : State) :
    (queueCheckpoint urgent s).intervention = s.intervention := by
  unfold queueCheckpoint
  dsimp only
  split <;> rfl

@[simp] theorem takeOverPending_intervention (s : State) :
    (takeOverPending s).intervention = s.intervention := rfl

@[simp] theorem wantCheckpoint_intervention (s : State) : (wantCheckpoint s).intervention = s.intervention := by
  unfold wantCheckpoint
  repeat' split
  all_goals simp

@[simp] theorem wantCheckpointFor_intervention (t : Ticket) (s : State) :
    (wantCheckpointFor t s).intervention = s.intervention := by
  simp [wantCheckpointFor]

@[simp] theorem urgentCheckpoint_intervention (s : State) : (urgentCheckpoint s).intervention = s.intervention := by
  unfold urgentCheckpoint
  dsimp only
  repeat' split
  all_goals simp

@[simp] theorem offerPendingCheckpoint_intervention (s : State) :
    (offerPendingCheckpoint s).intervention = s.intervention := by
  unfold offerPendingCheckpoint
  repeat' split
  all_goals simp

@[simp] theorem checkpointCompleted_intervention (n : Nat) (s : State) :
    (checkpointCompleted n s).intervention = s.intervention := by
  simp [checkpointCompleted]

@[simp] theorem meterSecond_intervention (s : State) : (meterSecond s).intervention = s.intervention := by
  unfold meterSecond
  split
  · rfl
  · refine (foldl_keeps State.intervention _ (fun s n => announceMeter_intervention n s) _ _).trans ?_
    dsimp only
    repeat' split
    all_goals simp

/-! ## The Guidance Unit -/

@[simp] theorem formGuidance_intervention (s : State) : (formGuidance s).intervention = s.intervention := rfl

@[simp] theorem scanAndForm_intervention (s : State) : (scanAndForm s).intervention = s.intervention := rfl

@[simp] theorem enterStage_intervention (d : Detector) (s : State) :
    (enterStage d s).intervention = s.intervention := rfl

@[simp] theorem endCycle_intervention (o : CycleOutcome) (s : State) :
    (endCycle o s).intervention = s.intervention := rfl

@[simp] theorem abandonCycle_intervention (s : State) : (abandonCycle s).intervention = s.intervention := by
  unfold abandonCycle
  split <;> rfl

@[simp] theorem completeCycle_intervention (s : State) : (completeCycle s).intervention = s.intervention := by
  simp [completeCycle]

@[simp] theorem testReturn_intervention (s : State) : (testReturn s).intervention = s.intervention := by
  unfold testReturn
  split
  · rfl
  · simp

@[simp] theorem beginDig_intervention (s : State) : (beginDig s).intervention = s.intervention := rfl

@[simp] theorem detectorPump_intervention (s : State) : (detectorPump s).intervention = s.intervention := by
  unfold detectorPump
  split <;> rfl

@[simp] theorem detectorPilot_intervention (s : State) : (detectorPilot s).intervention = s.intervention := by
  unfold detectorPilot
  dsimp only
  repeat' split
  all_goals simp

@[simp] theorem detectorPose_intervention (s : State) : (detectorPose s).intervention = s.intervention := by
  unfold detectorPose
  repeat' split
  all_goals simp

@[simp] theorem stageExpired_intervention (s : State) : (stageExpired s).intervention = s.intervention := by
  unfold stageExpired
  split <;> rfl

@[simp] theorem guidancePilot_intervention (s : State) : (guidancePilot s).intervention = s.intervention := by
  unfold guidancePilot
  split <;> simp

@[simp] theorem guidancePose_intervention (s : State) : (guidancePose s).intervention = s.intervention := by
  simp [guidancePose]

/-! ## The Envelope and Pose Units -/

@[simp] theorem evaluateEntry_intervention (i : Nat) (e : LimitEntry) (s : State) :
    (evaluateEntry i e s).1.intervention = s.intervention := by
  unfold evaluateEntry
  dsimp only
  split
  · rw [queueWarning_intervention, setLimit_intervention]
  · rw [setLimit_intervention]

@[simp] theorem evaluateAll_intervention (s : State) : (evaluateAll s).1.intervention = s.intervention := by
  unfold evaluateAll
  refine foldl_keeps (fun x : State × List Handed => x.1.intervention) _ (fun x i => ?_) (List.range 12) (s, [])
  dsimp only
  repeat' split
  all_goals simp

@[simp] theorem envelopePose_intervention (s : State) : (envelopePose s).1.intervention = s.intervention := by
  unfold envelopePose
  split
  · rfl
  · simp

@[simp] theorem setDescriptor_intervention (i : Nat) (old new : Descriptor) (s : State) :
    (setDescriptor i old new s).intervention = s.intervention := by
  unfold setDescriptor
  dsimp only
  repeat' split
  all_goals rfl

@[simp] theorem recallLookup_intervention (i : Nat) (x : Int) (s : State) :
    (recallLookup i x s).intervention = s.intervention := by
  unfold recallLookup
  split
  · split <;> simp
  · rfl

@[simp] theorem applyGrade_intervention (s : State) : (applyGrade s).intervention = s.intervention := by
  unfold applyGrade
  dsimp only
  split <;> rfl

/-! ## The Time Base -/

@[simp] theorem countSecond_intervention (s : State) : (countSecond s).intervention = s.intervention := rfl

@[simp] theorem economyTakes_intervention (s : State) (a : Announcement) :
    (economyTakes s a).intervention = s.intervention := by
  cases a <;> simp [economyTakes]

@[simp] theorem serviceTakes_intervention (s : State) (a : Announcement) :
    (serviceTakes s a).intervention = s.intervention := by
  cases a <;> simp [serviceTakes]

/-- A consumer's announcements leave the Intervention Unit alone if each one does. -/
theorem takeAll_intervention (takes : State → Announcement → State)
    (h : ∀ s a, (takes s a).intervention = s.intervention) (l : List Announcement) (s : State) :
    (takeAll takes l s).intervention = s.intervention := by
  unfold takeAll
  split
  · exact foldl_keeps State.intervention _ h _ _
  · exact foldl_keeps State.intervention _ h _ _

@[simp] theorem announceCount_intervention (s : State) : (announceCount s).intervention = s.intervention := by
  unfold announceCount
  dsimp only
  split
  · rw [takeAll_intervention _ serviceTakes_intervention, takeAll_intervention _ economyTakes_intervention,
      meterSecond_intervention]
  · simp

@[simp] theorem clockCounted_intervention (s : State) : (clockCounted s).intervention = s.intervention := by
  unfold clockCounted
  dsimp only
  repeat' split
  all_goals simp

@[simp] theorem setClockTo_intervention (t : ClockTime) (src : SetSource) (s : State) :
    (setClockTo t src s).intervention = s.intervention := by
  simp [setClockTo]

@[simp] theorem timeSyncArrival_intervention (t : ClockTime) (s : State) :
    (timeSyncArrival t s).intervention = s.intervention := by
  unfold timeSyncArrival
  repeat' split
  all_goals simp

@[simp] theorem oscillatorStopped_intervention (s : State) :
    (oscillatorStopped s).intervention = s.intervention := by
  unfold oscillatorStopped
  dsimp only
  repeat' split
  all_goals rfl

@[simp] theorem oscillatorRestarted_intervention (s : State) :
    (oscillatorRestarted s).intervention = s.intervention := by
  unfold oscillatorRestarted
  dsimp only
  repeat' split
  all_goals rfl

/-! ## The end of a store write -/

@[simp] theorem answerLimit_intervention (t : Ticket) (s : State) :
    (answerLimit t s).intervention = s.intervention := by
  unfold answerLimit
  split <;> rfl

@[simp] theorem answerGrade_intervention (t : Ticket) (s : State) :
    (answerGrade t s).intervention = s.intervention := rfl

@[simp] theorem answerService_intervention (t : Ticket) (s : State) :
    (answerService t s).intervention = s.intervention := by
  unfold answerService
  split <;> rfl

@[simp] theorem jobCompleted_intervention (w : Writing) (s : State) :
    (jobCompleted w s).intervention = s.intervention := by
  unfold jobCompleted
  split
  case h_1 => rfl
  case h_2 => split <;> simp
  case h_3 => exact foldl_keeps State.intervention _ (fun s t => answerGrade_intervention t s) _ s
  case h_4 => exact foldl_keeps State.intervention _ (fun s t => answerLimit_intervention t s) _ s
  case h_7 => rfl
  all_goals
    refine foldl_keeps State.intervention _ (fun s t => ?_) _ s
    split <;> simp

@[simp] theorem offerDayJob_intervention (s : State) : (offerDayJob s).intervention = s.intervention := by
  unfold offerDayJob
  split <;> simp

@[simp] theorem offerServiceJob_intervention (s : State) : (offerServiceJob s).intervention = s.intervention := by
  unfold offerServiceJob
  split <;> simp

@[simp] theorem writeCompleted_intervention (s : State) : (writeCompleted s).intervention = s.intervention := by
  unfold writeCompleted
  split <;> simp

/-! ## Topics, publications and lines -/

@[simp] theorem freshened_intervention (e : SubEntry) (s : State) :
    (freshened e s).intervention = s.intervention := by
  unfold freshened
  dsimp only
  split <;> rfl

@[simp] theorem gradedBy_intervention (x : Nat × SubEntry × SubEntry × Payload) (s : State) :
    (gradedBy x s).intervention = s.intervention := by
  unfold gradedBy
  dsimp only
  split <;> simp

@[simp] theorem setDue_intervention (p : CyclicPub) (n : Nat) (s : State) :
    (setDue p n s).intervention = s.intervention := rfl

@[simp] theorem periodic_intervention (p : CyclicPub) (s : State) :
    (periodic p s).intervention = s.intervention := by
  unfold periodic
  split <;> simp

@[simp] theorem startPeriods_intervention (s : State) : (startPeriods s).intervention = s.intervention :=
  foldl_keeps State.intervention _ (fun s p => setDue_intervention p _ s) _ s

@[simp] theorem takeKeyOff_intervention (s : State) : (takeKeyOff s).intervention = s.intervention := by
  unfold takeKeyOff
  dsimp only
  split <;> simp

@[simp] theorem supplyDropped_intervention (s : State) : (supplyDropped s).intervention = s.intervention := by
  unfold supplyDropped
  dsimp only
  repeat' split
  all_goals simp

@[simp] theorem detectorRearmed_intervention (s : State) :
    (detectorRearmed s).intervention = s.intervention := by
  unfold detectorRearmed
  split <;> rfl

@[simp] theorem keyTurnedOff_intervention (s : State) : (keyTurnedOff s).intervention = s.intervention := by
  unfold keyTurnedOff
  dsimp only
  repeat' split
  all_goals simp

@[simp] theorem busRecovered_intervention (s : State) : (busRecovered s).intervention = s.intervention := by
  unfold busRecovered
  split <;> rfl

@[simp] theorem attemptFailed_intervention (error : Bool) (s : State) :
    (attemptFailed error s).intervention = s.intervention := by
  unfold attemptFailed
  split <;> rfl

@[simp] theorem repeatRequest_intervention (e : SubEntry) (s : State) :
    (repeatRequest e s).intervention = s.intervention := by
  unfold repeatRequest noteRequeued
  dsimp only
  repeat' split
  all_goals rfl

@[simp] theorem tick_intervention (s : State) : (tick s).intervention = s.intervention := by
  unfold tick countPeriods
  dsimp only
  split <;> rfl

end Sys2Proof.Machine
end

section
/-! PROOFS. The end of an event: CUTOUT, the contents that a change places, the store's next write, and the frame that
a free controller is handed (R64, R101, R131, R161 to R165, R171, R188, R196). -/

namespace Sys2Proof.Machine

/-! ## Steps of the end of an event -/

theorem awake_iff (s : State) : awake s = true ↔ s.power = .running ∨ s.power = .limp := by
  simp [awake]

theorem engineReqData_eq (s : State) : engineReqData s = le 2 (speedRequest s) ++ le 2 (pumpLimit s)
    ++ [byte ((if s.economy.state = .shutdownPending then 1 else 0) + 2 * (modeInForce s).num
      + 8 * s.economy.state.num)] := by
  simp only [engineReqData, stopFlag, beq_iff_eq]

/-- The lines as the end of an event leaves them (R64). -/
def endPins (s : State) : Pins :=
  if s.power = .running then { s.pins with cutout := cutoutPermitted s } else s.pins

/-- The Biu with the contents that a change of ENGINE_REQ or STATUS places (R101, R171). -/
def endBus (before after : State) : Biu :=
  { after.bus with
    engineReq :=
      if before.power = .running ∧ after.power = .running ∧ engineReqData before ≠ engineReqData after then
        after.bus.engineReq.fill (engineReqData after)
      else after.bus.engineReq
    status :=
      if awake after = true ∧ statusWatch before ≠ statusWatch after then after.bus.status.fill (statusData after)
      else after.bus.status }

theorem settleCutout_eq (s : State) : settleCutout s = { s with pins := endPins s } := by
  unfold settleCutout endPins
  simp only [beq_iff_eq]
  split <;> rfl

theorem settleEngineReq_eq (before after : State) : settleEngineReq before after = { after with bus := { after.bus with
    engineReq :=
      if before.power = .running ∧ after.power = .running ∧ engineReqData before ≠ engineReqData after then
        after.bus.engineReq.fill (engineReqData after)
      else after.bus.engineReq } } := by
  unfold settleEngineReq
  simp only [Bool.and_eq_true, beq_iff_eq, bne_iff_ne, and_assoc]
  split <;> rfl

theorem settleStatus_eq (before after : State) : settleStatus before after = { after with bus := { after.bus with
    status :=
      if awake after = true ∧ statusWatch before ≠ statusWatch after then after.bus.status.fill (statusData after)
      else after.bus.status } } := by
  unfold settleStatus
  simp only [Bool.and_eq_true, bne_iff_ne]
  split <;> rfl

/-- The end of an event is the lines and contents that it settles, then the store's write and the controller's
frame. -/
theorem settle_eq (before after : State) : settle before after
    = feedController (settleStore { after with pins := endPins after, bus := endBus before after }) := by
  rw [settle, settleCutout_eq, settleEngineReq_eq, settleStatus_eq]
  rfl

/-! ## The store's next write (R131, R188) -/

/-- A write that begins moves the queue, the write in flight and the Meter Unit's job state alone, whatever lines and
contents the event has settled. -/
theorem settleStore_eq (s : State) (p : Pins) (b : Biu) : settleStore { s with pins := p, bus := b }
    = { s with pins := p, bus := b, store := (settleStore s).store, meter := (settleStore s).meter } := by
  unfold settleStore
  simp only [show awake { s with pins := p, bus := b } = awake s from rfl]
  split
  · unfold beginWrite
    dsimp only
    split <;> rfl
  · rfl

theorem settleStore_meter (s : State) : { (settleStore s).meter with job := s.meter.job } = s.meter := by
  unfold settleStore beginWrite
  split
  · split
    · dsimp only
      split <;> rfl
    · rfl
  · rfl

theorem settleStore_array (s : State) :
    { (settleStore s).store with queue := s.store.queue, writing := s.store.writing } = s.store := by
  unfold settleStore beginWrite
  split
  · split <;> rfl
  · rfl

/-! ## The choice of the next frame (R162, R163, R196) -/

theorem feedController_eq (s : State) : feedController s = { s with bus := (feedController s).bus } := by
  unfold feedController
  split
  · split <;> rfl
  · rfl

/-- The end of an event, field by field. -/
theorem settle_spelt (before after : State) : settle before after
    = { after with
        pins := endPins after
        store := (settleStore after).store
        meter := (settleStore after).meter
        bus := (feedController { after with bus := endBus before after }).bus } := by
  rw [settle_eq, settleStore_eq, feedController_eq]
  congr 1
  unfold feedController
  simp only [show ∀ p b x m, awake { after with pins := p, bus := b, store := x, meter := m } = awake after from
    fun _ _ _ _ => rfl]
  split
  · split <;> rfl
  · rfl

theorem settle_pins (before after : State) : (settle before after).pins = endPins after := by
  rw [settle_spelt]

theorem settle_store (before after : State) : (settle before after).store = (settleStore after).store := by
  rw [settle_spelt]

theorem settle_meter (before after : State) : (settle before after).meter = (settleStore after).meter := by
  rw [settle_spelt]

theorem settle_bus (before after : State) :
    (settle before after).bus = (feedController { after with bus := endBus before after }).bus := by
  rw [settle_spelt]

/-- What handing a frame leaves of the Biu. -/
theorem hand_frame (b : Biu) (h : Holder) :
    (b.hand h).ring = b.ring ∧ (b.hand h).nextId = b.nextId ∧ (b.hand h).topics = b.topics
      ∧ (b.hand h).busState = b.busState ∧ (b.hand h).busOffCount = b.busOffCount
      ∧ (b.hand h).txErrors = b.txErrors ∧ (b.hand h).repliesDropped = b.repliesDropped
      ∧ (b.hand h).noticeCounter = b.noticeCounter ∧ (b.hand h).replyCounter = b.replyCounter := by
  cases h with
  | cyclic p => cases p <;> exact ⟨rfl, rfl, rfl, rfl, rfl, rfl, rfl, rfl, rfl⟩
  | ring id => exact ⟨rfl, rfl, rfl, rfl, rfl, rfl, rfl, rfl, rfl⟩

theorem feedController_cases (s : State) :
    (feedController s).bus = s.bus ∨ ∃ h, (feedController s).bus = s.bus.hand h := by
  unfold feedController
  split
  · split
    · exact .inr ⟨_, rfl⟩
    · exact .inl rfl
  · exact .inl rfl

/-- The end of an event leaves all but what it settles. -/
theorem eventEnd_settle (before after : State) : EventEnd after (settle before after) := by
  rw [settle_spelt]
  refine ⟨⟨rfl, rfl, rfl, rfl⟩, ⟨rfl, rfl, rfl, rfl, rfl, rfl, rfl, ?_, ?_⟩, ⟨rfl, rfl, rfl⟩,
    ⟨rfl, rfl, rfl, rfl, rfl, rfl, rfl, rfl⟩, settleStore_meter after, settleStore_array after, ?_⟩
  · exact (apply_ite Pins.keyOn ..).trans (ite_self _)
  · exact (apply_ite Pins.straps ..).trans (ite_self _)
  · rcases feedController_cases { after with bus := endBus before after } with h | ⟨x, h⟩ <;> dsimp only <;> rw [h]
    · exact ⟨rfl, rfl, rfl, rfl, rfl, rfl, rfl, rfl, rfl⟩
    · exact hand_frame (endBus before after) x

@[simp] theorem settle_power (before after : State) : (settle before after).power = after.power := by
  rw [settle_spelt]

@[simp] theorem settle_intervention (before after : State) :
    (settle before after).intervention = after.intervention := by
  rw [settle_spelt]

theorem ringOffer_iff (b : Biu) (reply : Bool) (f : RingFrame) : b.ringOffer reply = some f ↔
    b.ring.find? (fun f => f.reply == reply && decide (0 < f.framesSent)) = some f
      ∨ (b.ring.find? (fun f => f.reply == reply && decide (0 < f.framesSent)) = none
        ∧ b.ring.find? (fun f => f.reply == reply && f.fence.isNone) = some f) := by
  unfold Biu.ringOffer
  split
  next g h => simp [h]
  next h => simp [h]

theorem ringOffer_reply {b : Biu} {reply : Bool} {f : RingFrame} (h : b.ringOffer reply = some f) :
    f.reply = reply := by
  rcases (ringOffer_iff b reply f).1 h with h | ⟨-, h⟩ <;> have hf := List.find?_some h <;> simp at hf <;> exact hf.1

/-- The frames that may be handed: of a place that holds a content or has begun a series, and of each event topic the
member begun or the oldest unfenced. -/
theorem mem_candidates (b : Biu) (topic : Nat) (h : Holder) : (topic, h) ∈ b.candidates ↔
    match h with
    | .cyclic p => ((b.place p).held ≠ none ∨ 0 < (b.place p).framesSent) ∧ b.topics.cyclic p = some topic
    | .ring id => ∃ f : RingFrame, f.id = id ∧ b.topics.event f.reply = some topic
        ∧ b.ringOffer f.reply = some f := by
  unfold Biu.candidates
  rw [List.mem_append, List.mem_filterMap, List.mem_filterMap]
  cases h with
  | cyclic p =>
    have hp : p ∈ cyclicPubs := by cases p <;> simp [cyclicPubs]
    refine (or_iff_left ?_).trans ?_
    · rintro ⟨reply, -, h⟩
      split at h <;> simp at h
    simp only [CyclicPlace.offers, Bool.or_eq_true, decide_eq_true_eq, Option.isSome_iff_ne_none,
      Option.ite_none_right_eq_some, Option.map_eq_some_iff, Prod.mk.injEq, Holder.cyclic.injEq]
    constructor
    · rintro ⟨q, -, hoffers, t, ht, rfl, rfl⟩
      exact ⟨hoffers, ht⟩
    · rintro ⟨hoffers, ht⟩
      exact ⟨p, hp, hoffers, topic, ht, rfl, rfl⟩
  | ring id =>
    refine (or_iff_right ?_).trans ?_
    · rintro ⟨q, -, h⟩
      simp at h
    constructor
    · rintro ⟨reply, -, h⟩
      split at h
      next f t hf ht =>
        obtain ⟨rfl, hid⟩ := Prod.mk.inj (Option.some.inj h)
        have hreply := ringOffer_reply hf
        exact ⟨f, Holder.ring.inj hid, by rw [hreply, ht], by rw [hreply, hf]⟩
      next => contradiction
    · rintro ⟨f, rfl, ht, hf⟩
      exact ⟨f.reply, by cases f.reply <;> simp, by rw [hf, ht]⟩

/-- The candidate of the lowest topic, where no other shares it. -/
theorem lowestTopic_eq (l : List (Nat × Holder)) (c : Nat × Holder) (hc : c ∈ l)
    (hlow : ∀ x ∈ l, x = c ∨ c.1 < x.1) : lowestTopic l = some c := by
  induction l with
  | nil => simp at hc
  | cons a l ih =>
    unfold lowestTopic
    have hrest : ∀ d, lowestTopic l = some d → d ∈ l := by
      clear ih hc hlow
      induction l with
      | nil => intro d h; simp [lowestTopic] at h
      | cons a l ih =>
        intro d h
        unfold lowestTopic at h
        split at h
        · rw [← Option.some.inj h]; exact List.mem_cons_self
        next e he =>
          split at h
          · rw [← Option.some.inj h]; exact List.mem_cons_self
          · rw [← Option.some.inj h]; exact List.mem_cons_of_mem _ (ih e he)
    by_cases hcl : c ∈ l
    · rw [ih hcl fun x hx => hlow x (List.mem_cons_of_mem _ hx)]
      rcases hlow a List.mem_cons_self with rfl | ha
      · simp
      · simp [Nat.not_le.2 ha]
    · obtain rfl : c = a := (List.mem_cons.1 hc).resolve_right hcl
      cases hl : lowestTopic l with
      | none => rfl
      | some d =>
        have hd := hrest d hl
        rcases hlow d (List.mem_cons_of_mem _ hd) with rfl | hlt
        · exact absurd hd hcl
        · simp [hlt.le]

/-- The controller is free to take a frame (R162, R165). -/
def feeds (s : State) : Prop :=
  awake s = true ∧ s.bus.busState = .online ∧ s.bus.controller = none ∧ s.bus.txErrors ≤ 255

theorem feedController_busy (s : State) (h : ¬ feeds s) : (feedController s).bus = s.bus := by
  unfold feedController
  rw [if_neg]
  simpa [feeds, and_assoc] using h

theorem feedController_hands (s : State) (h : feeds s) : (feedController s).bus
    = match lowestTopic s.bus.candidates with
      | some (_, x) => s.bus.hand x
      | none => s.bus := by
  unfold feedController
  rw [if_pos (by simpa [feeds, and_assoc] using h)]
  cases lowestTopic s.bus.candidates <;> rfl

/-- Settles O15: the end of an event field by field, and the candidate of the lowest topic. -/
theorem eventEndFrame : Obligations.EventEndFrame := by
  intro before after t woken fill request watched placed begun unfenced eligible free
  have hplaced : placed = endBus before after := by
    simp only [placed, endBus, woken, request, watched, fill, awake_iff, engineReqData_eq]
    rfl
  have hfree : free ↔ feeds { after with bus := endBus before after } := by
    simp only [free, feeds, woken, hplaced]
    exact and_congr_left' (awake_iff after).symm
  have heligible (topic : Nat) (h : Holder) : eligible topic h ↔ (topic, h) ∈ (endBus before after).candidates := by
    rw [mem_candidates, ← hplaced]
    cases h with
    | cyclic p => exact Iff.rfl
    | ring id => simp only [eligible, ringOffer_iff]; exact Iff.rfl
  have hbus : t.bus = (feedController { after with bus := endBus before after }).bus := settle_bus before after
  refine ⟨eventEnd_settle before after, ?_, fun hworks => ?_, fun hsleeps => ?_, fun hbusy => ?_, fun hf hnone => ?_,
    fun hf topic h hel hlow => ?_⟩
  · rw [show t.pins = endPins after from settle_pins before after, endPins]
    split
    · simp [cutoutPermitted, Bool.beq_eq_decide_eq, Bool.decide_and, Bool.decide_or]
    · rfl
  · have hstore : settleStore after = beginWrite after := by
      rw [settleStore, if_pos]
      simpa [woken, awake_iff] using hworks
    exact ⟨(settle_store before after).trans (congrArg State.store hstore),
      (settle_meter before after).trans (congrArg State.meter hstore)⟩
  · have hstore : settleStore after = after := by
      rw [settleStore, if_neg]
      simpa [woken, awake_iff] using hsleeps
    exact ⟨(settle_store before after).trans (congrArg State.store hstore),
      (settle_meter before after).trans (congrArg State.meter hstore)⟩
  · rw [hbus, feedController_busy _ (mt hfree.2 hbusy), hplaced]
  · have hempty : (endBus before after).candidates = [] :=
      List.eq_nil_iff_forall_not_mem.2 fun x hx => hnone x.1 x.2 ((heligible x.1 x.2).2 hx)
    rw [hbus, feedController_hands _ (hfree.1 hf), hempty, hplaced]
    rfl
  · have hchosen : lowestTopic (endBus before after).candidates = some (topic, h) :=
      lowestTopic_eq _ _ ((heligible topic h).1 hel) fun x hx => hlow x.1 x.2 ((heligible x.1 x.2).2 hx)
    rw [hbus, feedController_hands _ (hfree.1 hf), hchosen, hplaced]
    cases h with
    | cyclic p => simp only [Biu.hand, beq_iff_eq]
    | ring id => rfl

end Sys2Proof.Machine
end

section
/-! PROOFS. What an event keeps of the Intervention Unit: the demand formed from the list, sequence numbers that rise,
and in Hold all of its state but the notices that records owe (R43, R44, R54, R55, R63). -/

namespace Sys2Proof.Machine

/-! ## The laws, of the unit alone -/

/-- The sets are those of the list, in Hold with all eight motions cut (R55, R63). -/
def demandFormed (u : InterventionUnit) : Prop :=
  u.cutSet = (if u.supervision = .hold then MotionSet.all else cutSetOf u.list) ∧ u.slowSet = slowSetOf u.list

theorem demandLaw_iff (s : State) : demandLaw s = true ↔ demandFormed s.intervention := by
  simp [demandLaw, demandFormed, inHold]

/-- The sequence numbers rise along the list up to the counter, and the counter is at most 65,535 (R43, R44). -/
def seqsRise (u : InterventionUnit) : Prop :=
  (u.list.map (·.seq)).Pairwise (· < ·) ∧ (∀ n ∈ u.list.map (·.seq), n ≤ u.lastSeq) ∧ u.lastSeq ≤ 65535

theorem risingSeqs_iff (l : List Record) : risingSeqs l = true ↔ (l.map (·.seq)).Pairwise (· < ·) := by
  rw [← List.isChain_iff_pairwise]
  induction l with
  | nil => simp [risingSeqs]
  | cons a l ih =>
    cases l with
    | nil => simp [risingSeqs]
    | cons b l => simpa [risingSeqs] using fun _ => ih

theorem sequenceLaw_iff (s : State) : sequenceLaw s = true ↔ seqsRise s.intervention := by
  simp [sequenceLaw, seqsRise, risingSeqs_iff, and_assoc]

/-! ## The sets over a changed list -/

/-- A change of records that keeps what they block, and whether they cut, keeps the cut set. -/
theorem cutSetOf_map (f : Record → Record) (l : List Record)
    (hf : ∀ r, (f r).cuts = r.cuts ∧ (f r).blocked = r.blocked) : cutSetOf (l.map f) = cutSetOf l := by
  have hcuts : Record.cuts ∘ f = Record.cuts := funext fun r => (hf r).1
  unfold cutSetOf unionOf
  rw [List.filter_map, hcuts, List.foldl_map]
  simp only [hf]

/-- A change of records that keeps what they block, and their kind, keeps the slow set. -/
theorem slowSetOf_map (f : Record → Record) (l : List Record)
    (hf : ∀ r, (f r).kind = r.kind ∧ (f r).blocked = r.blocked) : slowSetOf (l.map f) = slowSetOf l := by
  have hkind : (fun r : Record => r.kind == .limitSlow) ∘ f = fun r => r.kind == .limitSlow :=
    funext fun r => by simp [hf]
  unfold slowSetOf unionOf
  rw [List.filter_map, hkind, List.foldl_map]
  simp only [hf]

/-- The sequence numbers after a change that keeps each one's. -/
theorem map_seq_map (f : Record → Record) (l : List Record) (hf : ∀ r, (f r).seq = r.seq) :
    (l.map f).map (·.seq) = l.map (·.seq) := by
  rw [List.map_map]
  exact List.map_congr_left fun r _ => hf r

/-! ## What an event keeps -/

/-- The unit without the marks of the notices that its records owe. -/
def InterventionUnit.bare (u : InterventionUnit) : InterventionUnit :=
  { u with list := u.list.map fun r => { r with owed := false } }

/-- What every event but a start keeps of the Intervention Unit. -/
structure Kept (u v : InterventionUnit) : Prop where
  demand : demandFormed u → demandFormed v
  seqs : seqsRise u → seqsRise v
  hold : u.supervision = .hold → v.bare = u.bare

@[simp, refl] theorem Kept.refl (u : InterventionUnit) : Kept u u := ⟨id, id, fun _ => rfl⟩

theorem Kept.trans {u v w : InterventionUnit} (h : Kept u v) (h' : Kept v w) : Kept u w where
  demand := h'.demand ∘ h.demand
  seqs := h'.seqs ∘ h.seqs
  hold hu := by
    have hv : v.supervision = .hold := (congrArg InterventionUnit.supervision (h.hold hu)).trans hu
    rw [h'.hold hv, h.hold hu]

/-- A change of a state that holds the same unit. -/
theorem Kept.after {u v : InterventionUnit} {s : State} (hs : s.intervention = u) (h : Kept s.intervention v) :
    Kept u v := hs ▸ h

theorem demandFormed_bare (u : InterventionUnit) : demandFormed u.bare ↔ demandFormed u := by
  have hcut : cutSetOf u.bare.list = cutSetOf u.list := cutSetOf_map _ _ fun _ => ⟨rfl, rfl⟩
  have hslow : slowSetOf u.bare.list = slowSetOf u.list := slowSetOf_map _ _ fun _ => ⟨rfl, rfl⟩
  unfold demandFormed
  rw [hcut, hslow]
  exact Iff.rfl

theorem seqsRise_bare (u : InterventionUnit) : seqsRise u.bare ↔ seqsRise u := by
  have hseq : u.bare.list.map (·.seq) = u.list.map (·.seq) := map_seq_map _ _ fun _ => rfl
  unfold seqsRise
  rw [hseq]
  exact Iff.rfl

/-- A change of the owed marks alone. -/
theorem Kept.of_bare {u v : InterventionUnit} (h : v.bare = u.bare) : Kept u v where
  demand hu := by rwa [← demandFormed_bare, h, demandFormed_bare]
  seqs hu := by rwa [← seqsRise_bare, h, seqsRise_bare]
  hold _ := h

/-- A change outside Hold that keeps the sets and their records' sequence numbers. -/
theorem Kept.outside {u v : InterventionUnit} (hu : u.supervision ≠ .hold) (hdemand : demandFormed u → demandFormed v)
    (hseq : v.list.map (·.seq) = u.list.map (·.seq)) (hlast : v.lastSeq = u.lastSeq) : Kept u v where
  demand := hdemand
  seqs := by rw [seqsRise, seqsRise, hseq, hlast]; exact id
  hold h := absurd h hu

/-- Supervision moves between the states outside Hold, and nothing else but the timer and the confirmed flag. -/
theorem Kept.supervised {u : InterventionUnit} (x : Supervision) (t : Option Nat) (c : Bool)
    (hu : u.supervision ≠ .hold) (hx : x ≠ .hold) :
    Kept u { u with supervision := x, confirmTimer := t, confirmed := c } :=
  Kept.outside hu (by simp only [demandFormed, if_neg hu, if_neg hx]; exact id) rfl rfl

/-! ## Entry into Hold (R63) -/

theorem enterHold_intervention (s : State) (h : inHold s = false) :
    (enterHold s).intervention = { s.intervention with
      supervision := .hold, confirmTimer := none, holdAt := some s.now, cutSet := MotionSet.all
      list := s.intervention.list.map fun r => { r with timerRuns := false }
      demandSeq := if s.intervention.cutSet = MotionSet.all then s.intervention.demandSeq
        else s.intervention.demandSeq + 1 } := by
  simp only [enterHold, h, Bool.false_eq_true, if_false, economyForced_intervention, placeContent_intervention,
    setIntervention_intervention, beq_iff_eq]

theorem inHold_iff (s : State) : inHold s = true ↔ s.intervention.supervision = .hold := by
  simp [inHold]

theorem not_inHold_iff (s : State) : inHold s = false ↔ s.intervention.supervision ≠ .hold := by
  simp [inHold]

theorem kept_enterHold (s : State) : Kept s.intervention (enterHold s).intervention := by
  by_cases h : inHold s = true
  · rw [enterHold, if_pos h]
  · have hout : inHold s = false := by simpa using h
    rw [enterHold_intervention s hout]
    refine Kept.outside ((not_inHold_iff s).1 hout) ?_ (map_seq_map _ _ (by simp)) rfl
    rintro ⟨_, hslow⟩
    exact ⟨rfl, hslow.trans (slowSetOf_map _ _ (by simp)).symm⟩

/-! ## The steps of an event at the list (R46 to R54) -/

/-- What a step outside Hold keeps in the course of an event, where the sets are not yet formed: the sequence numbers
rise, and a state that enters Hold has formed its demand. -/
structure Work.Sound (w w' : Work) : Prop where
  seqs : seqsRise w.state.intervention → seqsRise w'.state.intervention
  demand : (inHold w.state = true → demandFormed w.state.intervention) →
    inHold w'.state = true → demandFormed w'.state.intervention

theorem Work.Sound.refl (w : Work) : w.Sound w := ⟨id, id⟩

theorem Work.Sound.trans {w v x : Work} (h : w.Sound v) (h' : v.Sound x) : w.Sound x :=
  ⟨h'.seqs ∘ h.seqs, fun hw => h'.demand (h.demand hw)⟩

/-- A step that stays outside Hold. -/
theorem Work.Sound.outside {w v : Work} (hseqs : seqsRise w.state.intervention → seqsRise v.state.intervention)
    (hv : inHold v.state = false) : w.Sound v :=
  ⟨hseqs, fun _ h => by rw [hv] at h; contradiction⟩

@[simp] theorem inHold_change (p : Record → Bool) (f : Record → Record) (a : Record → Bool) (w : Work) :
    inHold (w.change p f a).state = inHold w.state := by
  rw [Work.change_eq]
  rfl

theorem Work.sound_change (p : Record → Bool) (f : Record → Record) (a : Record → Bool) (w : Work)
    (hf : ∀ r, (f r).seq = r.seq) (hw : inHold w.state = false) : w.Sound (w.change p f a) := by
  refine .outside ?_ (by simpa using hw)
  rw [Work.change_eq]
  simp only [seqsRise, setIntervention_intervention, mapWhere]
  rw [map_seq_map _ _ (fun r => by split; exacts [hf r, rfl])]
  exact id

theorem Work.remove_intervention (p : Record → Bool) (w : Work) :
    (w.remove p).state.intervention
      = { w.state.intervention with list := w.state.intervention.list.filter fun r => !p r } := by
  rw [Work.remove_eq]
  dsimp only
  split <;> rfl

@[simp] theorem inHold_remove (p : Record → Bool) (w : Work) : inHold (w.remove p).state = inHold w.state := by
  rw [inHold, Work.remove_intervention]
  rfl

theorem Work.sound_remove (p : Record → Bool) (w : Work) (hw : inHold w.state = false) : w.Sound (w.remove p) := by
  refine .outside ?_ (by simpa using hw)
  rw [Work.remove_intervention]
  rintro ⟨hrise, hle, hlast⟩
  have hsub := (List.filter_sublist (p := fun r => !p r) (l := w.state.intervention.list)).map (·.seq)
  exact ⟨hrise.sublist hsub, fun n hn => hle n (hsub.subset hn), hlast⟩

theorem seqsRise_listing (r : Record) (s : State) (hr : r.seq = s.intervention.lastSeq + 1)
    (hlast : s.intervention.lastSeq < 65535) (h : seqsRise s.intervention) :
    seqsRise (listing r s).intervention := by
  obtain ⟨hrise, hle, -⟩ := h
  simp only [seqsRise, listing, List.map_append, List.map_cons, List.map_nil, hr]
  refine ⟨List.pairwise_append.2 ⟨hrise, List.pairwise_singleton _ _, fun a ha b hb => ?_⟩, fun n hn => ?_,
    by omega⟩
  · have := hle a ha
    rw [List.mem_singleton.1 hb]
    omega
  · rcases List.mem_append.1 hn with hn | hn
    · exact (hle n hn).trans (Nat.le_succ _)
    · rw [List.mem_singleton.1 hn]

/-- The raise that gives 65,535 has formed its demand: the slow set before Hold, Hold's cut set with it. -/
theorem exhaustSequence_intervention (r : Record) (s : State) (h : inHold s = false) :
    (exhaustSequence (listing r s)).intervention = { s.intervention with
      list := (s.intervention.list ++ [r]).map fun r => { r with timerRuns := false }
      lastSeq := s.intervention.lastSeq + 1
      slowSet := slowSetOf (s.intervention.list ++ [r]), cutSet := MotionSet.all
      demandSeq := if s.intervention.cutSet = MotionSet.all then s.intervention.demandSeq
        else s.intervention.demandSeq + 1
      supervision := .hold, confirmTimer := none, holdAt := some s.now } := by
  rw [exhaustSequence_listing]
  refine enterHold_intervention _ ?_
  exact h

theorem Work.sound_raise (kind : RecordKind) (src : Option Nat) (c : RecordCause) (b : MotionSet) (w : Work)
    (hw : inHold w.state = false) : w.Sound (w.raise kind src c b) := by
  rcases Nat.lt_or_ge w.state.intervention.lastSeq 65535 with hlast | hlast
  · have hlisted := seqsRise_listing (raisedRecord kind src c b w.state) w.state rfl hlast
    rw [raise_eq kind src c b w hlast]
    split
    · refine ⟨fun h => ?_, fun _ _ => ?_⟩
      · obtain ⟨hrise, hle, hmax⟩ := hlisted h
        have hseq : ((w.state.intervention.list ++ [raisedRecord kind src c b w.state]).map
            fun r => { r with timerRuns := false }).map (·.seq)
            = (w.state.intervention.list ++ [raisedRecord kind src c b w.state]).map (·.seq) :=
          map_seq_map _ _ (by simp)
        rw [exhaustSequence_intervention _ _ hw, seqsRise, hseq]
        exact ⟨hrise, hle, hmax⟩
      · rw [exhaustSequence_intervention _ _ hw]
        exact ⟨rfl, (slowSetOf_map _ _ (by simp)).symm⟩
    · exact .outside hlisted hw
  · rw [raise_of_exhausted kind src c b w hlast]
    exact .refl w

/-- A step guarded against Hold is sound where it is sound outside Hold. -/
theorem Work.sound_unlessHold (f : Work → Work) (w : Work) (hf : inHold w.state = false → w.Sound (f w)) :
    w.Sound (w.unlessHold f) := by
  unfold Work.unlessHold
  split
  · exact .refl w
  · exact hf (by simpa using ‹¬ inHold w.state = true›)

@[simp] theorem Record.clear_seq (r : Record) : r.clear.seq = r.seq := by unfold Record.clear; split <;> rfl

@[simp] theorem Record.reRaise_seq (r : Record) : r.reRaise.seq = r.seq := by unfold Record.reRaise; split <;> rfl

theorem Work.sound_raiseRequest (i : Nat) (k : RecordKind) (c : BreachCause) (b : MotionSet) (w : Work)
    (hw : inHold w.state = false) : w.Sound (w.raiseRequest i k c b) := by
  unfold Work.raiseRequest
  split
  · exact sound_change _ _ _ w (fun _ => rfl) hw
  · exact sound_raise _ _ _ _ w hw

theorem Work.sound_breachReport (i : Nat) (gone : Bool) (w : Work) (hw : inHold w.state = false) :
    w.Sound (w.breachReport i gone) := by
  unfold Work.breachReport
  split
  · refine (sound_change _ _ _ w ?_ hw).trans (sound_remove _ _ ?_)
    · exact fun r => r.clear_seq
    · rw [inHold_change, hw]
  · exact sound_change _ _ _ w (fun r => r.reRaise_seq) hw

theorem Work.sound_lossOfPose (w : Work) (hw : inHold w.state = false) : w.Sound w.lossOfPose := by
  unfold Work.lossOfPose
  split
  · exact sound_change _ _ _ w (fun r => r.reRaise_seq) hw
  · split
    · exact sound_raise _ _ _ _ w hw
    · exact .refl w

theorem Work.sound_poseQuality (before : PoseQuality) (w : Work) : w.Sound (w.poseQuality before) := by
  refine sound_unlessHold _ w fun hw => ?_
  split
  · exact sound_change _ _ _ w (fun r => r.clear_seq) hw
  · exact .refl w
  · split
    · exact .refl w
    · exact sound_lossOfPose w hw

theorem Work.sound_take (w : Work) (h : Handed) : w.Sound (w.take h) := by
  refine sound_unlessHold _ w fun hw => ?_
  cases h with
  | raise i k c b => exact sound_raiseRequest i k c b w hw
  | cause i c => exact sound_change _ _ _ w (fun _ => rfl) hw
  | report i gone => exact sound_breachReport i gone w hw

theorem Work.sound_takes (l : List Handed) (w : Work) : w.Sound (l.foldl Work.take w) := by
  induction l generalizing w with
  | nil => exact .refl w
  | cons h l ih => exact (sound_take w h).trans (ih _)

theorem Work.sound_extCut (st : Nat) (m : MotionSet) (w : Work) (hw : inHold w.state = false) :
    w.Sound (w.extCut st m) := by
  unfold Work.extCut
  split
  · exact sound_remove _ w hw
  · split
    · exact sound_change _ _ _ w (fun _ => rfl) hw
    · exact sound_raise _ _ _ _ w hw

theorem Work.sound_extLost (st : Nat) (w : Work) (hw : inHold w.state = false) : w.Sound (w.extLost st) :=
  sound_change _ _ _ w (fun r => r.clear_seq) hw

theorem Work.sound_overrideExpired (n : Nat) (w : Work) (hw : inHold w.state = false) :
    w.Sound (w.overrideExpired n) :=
  (sound_remove _ w hw).trans (sound_change _ _ _ _ (fun _ => rfl) ((inHold_remove _ w).trans hw))

/-! ## The end of an event at the list (R54 to R56, R59) -/

theorem bare_queueRecordNotice (n : Nat) (d : List Byte) (s : State) :
    (queueRecordNotice n d s).intervention.bare = s.intervention.bare := by
  unfold queueRecordNotice
  split
  · rfl
  · simp only [InterventionUnit.bare, mapWhere, List.map_map]
    congr 1
    refine List.map_congr_left fun r _ => ?_
    simp only [Function.comp_apply]
    split <;> rfl

/-- Supervision's reaction to a change leaves the list, the sets and the counters, and does not enter Hold. -/
theorem superviseChange_frame (now : Nat) (u : InterventionUnit) :
    let v := superviseChange now u
    v.list = u.list ∧ v.lastSeq = u.lastSeq ∧ v.cutSet = u.cutSet ∧ v.slowSet = u.slowSet
      ∧ v.demandSeq = u.demandSeq ∧ (v.supervision = .hold ↔ u.supervision = .hold) := by
  cases h : u.supervision <;> simp [superviseChange, h]

/-- Forming the sets gives those of the list, and leaves the list and its counter. -/
theorem formSets_lists (s : State) :
    let v := (formSets s).intervention
    v.list = s.intervention.list ∧ v.lastSeq = s.intervention.lastSeq ∧ v.cutSet = cutSetOf s.intervention.list
      ∧ v.slowSet = slowSetOf s.intervention.list
      ∧ (v.supervision = .hold ↔ s.intervention.supervision = .hold) := by
  unfold formSets
  dsimp only
  split
  · obtain ⟨hlist, hlast, hcut, hslow, -, hhold⟩ := superviseChange_frame s.now
      { s.intervention with cutSet := cutSetOf s.intervention.list, slowSet := slowSetOf s.intervention.list
                            demandSeq := s.intervention.demandSeq + 1 }
    exact ⟨hlist, hlast, hcut, hslow, hhold⟩
  · split
    · exact ⟨rfl, rfl, rfl, rfl, Iff.rfl⟩
    · exact ⟨rfl, rfl, rfl, rfl, Iff.rfl⟩

theorem formed_formSets (s : State) (h : inHold s = false) :
    demandFormed (formSets s).intervention
      ∧ (seqsRise s.intervention → seqsRise (formSets s).intervention) := by
  obtain ⟨hlist, hlast, hcut, hslow, hhold⟩ := formSets_lists s
  refine ⟨⟨?_, ?_⟩, ?_⟩
  · rw [if_neg (fun hh => (not_inHold_iff s).1 h (hhold.1 hh)), hcut, hlist]
  · rw [hslow, hlist]
  · rw [seqsRise, seqsRise, hlist, hlast]
    exact id

/-- An event at the list keeps the laws if its chain of steps is sound. -/
theorem kept_interventionEvent (f : Work → Work) (s : State)
    (hf : inHold s = false → Work.Sound ⟨s, []⟩ (f ⟨s, []⟩)) :
    Kept s.intervention (interventionEvent f s).intervention := by
  by_cases hhold : inHold s = true
  · rw [interventionEvent_of_hold f s hhold]
  · have hout : inHold s = false := by simpa using hhold
    have hsound := hf hout
    rw [interventionEvent_outside f s hout]
    set w := f ⟨s, []⟩ with hw
    have hclosed : demandFormed (if inHold w.state then w.state else formSets w.state).intervention
        ∧ (seqsRise s.intervention
          → seqsRise (if inHold w.state then w.state else formSets w.state).intervention) := by
      split
      next h => exact ⟨hsound.demand (fun h' => absurd h' hhold) h, hsound.seqs⟩
      next h =>
        obtain ⟨hdemand, hseqs⟩ := formed_formSets w.state (by simpa using h)
        exact ⟨hdemand, hseqs ∘ hsound.seqs⟩
    have hnotices : w.close.intervention.bare
        = (if inHold w.state then w.state else formSets w.state).intervention.bare :=
      foldl_keeps (fun s : State => s.intervention.bare) _ (fun s n => bare_queueRecordNotice _ _ s) _ _
    exact { demand := fun _ => (Kept.of_bare hnotices).demand hclosed.1
            seqs := (Kept.of_bare hnotices).seqs ∘ hclosed.2
            hold := fun h => absurd h ((not_inHold_iff s).1 hout) }

/-! ## Confirmation (R58 to R62) -/

theorem Record.confirm_keeps (applied : MotionSet) (r : Record) : (r.confirm applied).seq = r.seq
    ∧ (r.confirm applied).kind = r.kind ∧ (r.confirm applied).blocked = r.blocked
    ∧ (r.confirm applied).cuts = r.cuts := by
  unfold Record.confirm
  split
  next h =>
    simp only [Bool.and_eq_true, beq_iff_eq] at h
    obtain ⟨⟨-, hstate⟩, -⟩ := h
    exact ⟨rfl, rfl, rfl, by simp [Record.cuts, RecordState.active, hstate]⟩
  next => exact ⟨rfl, rfl, rfl, rfl⟩

theorem kept_valveCutArrival (echo : BitVec 8) (applied : MotionSet) (s : State) :
    Kept s.intervention (valveCutArrival echo applied s).intervention := by
  unfold valveCutArrival
  split
  · rfl
  next h =>
    simp only [Bool.or_eq_true, not_or, Bool.not_eq_true, not_inHold_iff] at h
    obtain ⟨hout, -⟩ := h
    have hlisted : Kept s.intervention
        { s.intervention with list := s.intervention.list.map (Record.confirm applied) } := by
      refine .outside hout ?_ (map_seq_map _ _ fun r => (r.confirm_keeps applied).1) rfl
      rintro ⟨hcut, hslow⟩
      refine ⟨hcut.trans ?_, hslow.trans ?_⟩
      · dsimp only
        rw [cutSetOf_map _ _ fun r => ⟨(r.confirm_keeps applied).2.2.2, (r.confirm_keeps applied).2.2.1⟩]
      · exact (slowSetOf_map _ _ fun r => ⟨(r.confirm_keeps applied).2.1, (r.confirm_keeps applied).2.2.1⟩).symm
    refine hlisted.trans ?_
    rw [setIntervention_intervention]
    unfold InterventionUnit.echoed
    dsimp only
    split
    · refine Kept.supervised _ none true hout ?_
      split
      · decide
      · exact hout
    · split
      · exact Kept.supervised .awaiting _ false hout (by decide)
      · exact Kept.supervised s.intervention.supervision s.intervention.confirmTimer false hout hout
      · rfl
      · rfl

theorem kept_confirmExpired (s : State) : Kept s.intervention (confirmExpired s).intervention := by
  unfold confirmExpired
  split
  next h => exact Kept.supervised .faulted none s.intervention.confirmed (by simp [h]) (by decide)
  next => exact kept_enterHold s
  next => rfl
  next => rfl

theorem kept_valveLost (s : State) : Kept s.intervention (valveLost s).intervention := by
  have hfault (h : s.intervention.supervision ≠ .hold) : Kept s.intervention
      { s.intervention with supervision := .faulted, confirmed := false } :=
    Kept.supervised .faulted s.intervention.confirmTimer false h (by decide)
  unfold valveLost
  split
  next h =>
    split
    · exact hfault (by simp [h])
    · rfl
  next h =>
    split
    · exact hfault (by simp [h])
    · rfl
  next => exact kept_enterHold s
  next => rfl

end Sys2Proof.Machine
end

section
/-! PROOFS. Every step keeps the demand and the sequence numbers, and Hold stands, but for the starts and the losses of
a supply, which leave the Intervention Unit at its start values outside Running (R43, R44, R55, R63, R183). -/

namespace Sys2Proof.Machine

/-! ## Notices owed (R54, R164) -/

theorem bare_mapWhere_owed (u : InterventionUnit) (p : Record → Bool) (b : Bool) :
    ({ u with list := mapWhere p (fun r => { r with owed := b }) u.list } : InterventionUnit).bare = u.bare := by
  simp only [InterventionUnit.bare, mapWhere, List.map_map]
  congr 1
  refine List.map_congr_left fun r _ => ?_
  simp only [Function.comp_apply]
  split <;> rfl

theorem bare_offerOwed (s : State) : (offerOwed s).intervention.bare = s.intervention.bare := by
  unfold offerOwed
  split
  · rfl
  · split
    · exact bare_mapWhere_owed ..
    · split
      · rfl
      · split <;> rfl

theorem kept_frameSent (s : State) : Kept s.intervention (frameSent s).intervention := by
  unfold frameSent
  dsimp only
  split
  · rfl
  · simp
  · split
    · unfold sentRing
      dsimp only
      split
      · rfl
      · exact .of_bare (bare_offerOwed _)
    · rfl

theorem bare_offerOwedTimes (n : Nat) (s : State) :
    (offerOwedTimes n s).intervention.bare = s.intervention.bare := by
  induction n generalizing s with
  | zero => rfl
  | succ n ih => exact (ih _).trans (bare_offerOwed s)

/-! ## The pose and the arrivals -/

theorem kept_consumePose (before : PoseQuality) (s : State) :
    Kept s.intervention (consumePose before s).intervention := by
  rw [consumePose_eq]
  have hbase (b : Prop) [Decidable b] (c : Bool) :
      (guidancePose (if b then useFree (if c then abandonCycle (envelopePose s).1 else (envelopePose s).1)
        else (envelopePose s).1)).intervention = s.intervention := by
    rw [guidancePose_intervention]
    repeat' split
    all_goals simp
  rw [← hbase (willRaise (envelopePose s).1 (envelopePose s).2 = true ∧ wouldComplete (envelopePose s).1 = true)
    (Config.announcementFirst (envelopePose s).1.freeCount)]
  exact kept_interventionEvent _ _ fun _ => (Work.sound_takes _ _).trans (Work.sound_poseQuality before _)

theorem kept_announcePose (before : PoseQuality) (s : State) :
    Kept s.intervention (announcePose before s).intervention := by
  unfold announcePose
  refine .after ?_ (kept_consumePose before _)
  rfl

theorem kept_solveAndGrade (s : State) : Kept s.intervention (solveAndGrade s).intervention := by
  unfold solveAndGrade
  dsimp only
  split
  · simpa using kept_announcePose s.pose.pose.quality (applyGrade (setPoseUnit _ s))
  · split
    · simpa using kept_announcePose s.pose.pose.quality (applyGrade s)
    · simp

theorem kept_poseArrival (p : Payload) (s : State) : Kept s.intervention (poseArrival p s).intervention := by
  unfold poseArrival
  split
  · simpa using kept_solveAndGrade (recallLookup 0 _ s)
  · simpa using kept_solveAndGrade (recallLookup 1 _ s)
  · exact kept_solveAndGrade s

theorem kept_gradeOnly (s : State) : Kept s.intervention (gradeOnly s).intervention := by
  unfold gradeOnly
  dsimp only
  split
  · simpa using kept_announcePose s.pose.pose.quality (applyGrade s)
  · simp

theorem kept_degradedExpired (s : State) : Kept s.intervention (degradedExpired s).intervention := by
  unfold degradedExpired
  refine .after ?_ (kept_announcePose _ _)
  rfl

theorem kept_extCutEvent (st : Nat) (m : MotionSet) (s : State) :
    Kept s.intervention (interventionEvent (Work.extCut st m) s).intervention :=
  kept_interventionEvent _ s (Work.sound_extCut st m ⟨s, []⟩)

theorem kept_handArrival (st : Nat) (p : Payload) (s : State) :
    Kept s.intervention (handArrival st p s).intervention := by
  unfold handArrival
  split
  case h_11 => exact kept_valveCutArrival _ _ s
  case h_12 => exact kept_extCutEvent ..
  case h_6 | h_7 | h_8 | h_9 | h_10 | h_13 => simp
  all_goals exact kept_poseArrival _ s

theorem kept_takeFrame (role : Role) (station : Option Nat) (f : Frame) (s : State) :
    Kept s.intervention (takeFrame role station f s).intervention := by
  unfold takeFrame
  split
  · rfl
  · split
    next i e p _ _ _ =>
      split
      · rfl
      next new _ =>
        exact (gradedBy_intervention (i, e, new, p) s) ▸ kept_handArrival e.config.station p (gradedBy (i, e, new, p) s)
    · rfl

theorem kept_staleEntry (i : Nat) (s : State) : Kept s.intervention (staleEntry i s).intervention := by
  unfold staleEntry
  dsimp only
  split
  · split
    · split
      · exact kept_gradeOnly (setTopic _ _ s)
      · rfl
    · rfl
  · rfl

theorem kept_handLost (e : SubEntry) (s : State) : Kept s.intervention (handLost e s).intervention := by
  unfold handLost
  split
  case h_8 => exact kept_valveLost s
  case h_9 => exact kept_interventionEvent _ s (Work.sound_extLost _ ⟨s, []⟩)
  case h_6 | h_7 | h_10 | h_11 | h_12 | h_13 | h_14 => simp
  all_goals exact kept_gradeOnly s

theorem kept_lostEntry (i : Nat) (s : State) : Kept s.intervention (lostEntry i s).intervention := by
  unfold lostEntry
  split
  · split
    · exact kept_handLost _ (report _ _ (setTopic _ _ s))
    · rfl
  · rfl

theorem kept_busWentOff (s : State) : Kept s.intervention (busWentOff s).intervention := by
  unfold busWentOff
  dsimp only
  split
  · split
    · rfl
    · split
      · refine .after ?_ (kept_enterHold _)
        rfl
      · rfl
  · rfl

/-! ## The requests -/

/-- An owner whose answer keeps the laws of the Intervention Unit. -/
def Owner.Keeps (own : Owner) : Prop := ∀ t a s, Kept s.intervention (own t a s).after.intervention

theorem kept_checkLevel (need : Level) (t : Ticket) (s : State) (rest : State → Answer)
    (h : ∀ s, Kept s.intervention (rest s).after.intervention) :
    Kept s.intervention (checkLevel need t s rest).after.intervention := by
  unfold checkLevel
  split
  · split
    · exact h s
    · exact h (renewGrant t.station s)
  · rfl

theorem kept_limitRequest (t : Ticket) (a : List Byte) (s : State) (rest : Nat → LimitEntry → State → Answer)
    (h : ∀ i e s, Kept s.intervention (rest i e s).after.intervention) :
    Kept s.intervention (limitRequest t a s rest).after.intervention := by
  unfold limitRequest
  split
  · rfl
  · refine kept_checkLevel _ _ _ _ fun s => ?_
    split
    · rfl
    · split
      · rfl
      · exact h _ _ _

theorem kept_makePending (i : Nat) (e : LimitEntry) (c : LimitConfig) (s : State) :
    Kept s.intervention (makePending i e c s).intervention := by
  unfold makePending
  dsimp only
  split
  · refine .after ?_ (kept_interventionEvent _ _ (Work.sound_breachReport i false ⟨_, []⟩))
    rfl
  · rfl

theorem kept_carryLimit (t : Ticket) (i : Nat) {u : InterventionUnit} (s : State) (h : Kept u s.intervention) :
    Kept u (carryLimit t i s).after.intervention := by
  simpa [carryLimit, Answer.after] using h

theorem keeps_readOwner : readOwner.Keeps := by
  intro t a s
  unfold readOwner
  dsimp only
  split
  · rfl
  · rfl
  · split
    · rfl
    · simp only [accept, Answer.after]
      split <;> rfl

theorem keeps_keyOwner : keyOwner.Keeps := by
  intro t a s
  unfold keyOwner checkKey
  repeat' split
  all_goals rfl

theorem keeps_restartOwner : restartOwner.Keeps := by
  intro t a s
  unfold restartOwner
  split
  · rfl
  · split
    · rfl
    · exact kept_checkLevel _ _ _ _ fun _ => .refl _

theorem keeps_clearFaultsOwner : clearFaultsOwner.Keeps := by
  intro t a s
  unfold clearFaultsOwner
  split
  · rfl
  · exact kept_checkLevel _ _ _ _ fun _ => .refl _

theorem keeps_writeImageOwner : writeImageOwner.Keeps := by
  intro t a s
  unfold writeImageOwner
  split
  · rfl
  · refine kept_checkLevel _ _ _ _ fun s => ?_
    repeat' split
    all_goals rfl

theorem keeps_ackWarningOwner : ackWarningOwner.Keeps := by
  intro t a s
  unfold ackWarningOwner ackAllWarnings
  dsimp only
  repeat' split
  all_goals rfl

theorem keeps_teachLimitOwner : teachLimitOwner.Keeps := by
  intro t a s
  refine kept_limitRequest _ _ _ _ fun i e s => ?_
  split
  · rfl
  · split
    · rfl
    · split
      · rfl
      · exact kept_carryLimit _ _ _ (kept_makePending ..)

theorem keeps_setLimitOwner : setLimitOwner.Keeps := by
  intro t a s
  refine kept_limitRequest _ _ _ _ fun i e s => ?_
  split
  · rfl
  · split
    · rfl
    · split
      · rfl
      · split
        · rfl
        · exact kept_carryLimit _ _ _ (kept_makePending ..)

theorem keeps_enableLimitOwner : enableLimitOwner.Keeps := by
  intro t a s
  refine kept_limitRequest _ _ _ _ fun i e s => ?_
  split
  · rfl
  · split
    · rfl
    · exact kept_carryLimit _ _ _ (kept_makePending ..)

theorem keeps_disableLimitOwner : disableLimitOwner.Keeps := by
  intro t a s
  refine kept_limitRequest _ _ _ _ fun i e s => ?_
  split
  · rfl
  · split
    · rfl
    · split
      · rfl
      · exact kept_carryLimit _ _ _ (.refl _)

theorem kept_releaseRecord (r : Record) (s : State) :
    Kept s.intervention (releaseRecord r s).after.intervention := by
  unfold releaseRecord
  split
  · exact kept_interventionEvent _ s (Work.sound_remove _ ⟨s, []⟩)
  · rfl

theorem keeps_releaseOwner : releaseOwner.Keeps := by
  intro t a s
  unfold releaseOwner
  dsimp only
  split
  · rfl
  · split
    · rfl
    · split
      · rfl
      · split
        · exact kept_checkLevel _ _ _ _ (kept_releaseRecord _)
        · exact kept_releaseRecord _ s

theorem keeps_overrideOwner : overrideOwner.Keeps := by
  intro t a s
  unfold overrideOwner
  dsimp only
  split
  · rfl
  · refine kept_checkLevel _ _ _ _ fun s => ?_
    split
    · rfl
    · split
      · rfl
      · split
        · rfl
        · exact kept_interventionEvent _ s fun h => Work.sound_change _ (Record.setAside s.now) _ ⟨s, []⟩ (fun _ => rfl) h

theorem keeps_resumeOwner : resumeOwner.Keeps := by
  intro t a s
  unfold resumeOwner
  split
  · rfl
  · refine kept_checkLevel _ _ _ _ fun s => ?_
    dsimp only
    split
    next h =>
      simp only [Bool.and_eq_true, beq_iff_eq] at h
      obtain ⟨⟨hfaulted, -⟩, -⟩ := h
      exact Kept.supervised .settled s.intervention.confirmTimer s.intervention.confirmed (by simp [hfaulted])
        (by decide)
    next => rfl

theorem keeps_benchmarkOwner : benchmarkOwner.Keeps := by
  intro t a s
  unfold benchmarkOwner setBenchmark
  split
  · rfl
  · refine kept_checkLevel _ _ _ _ fun s => ?_
    repeat' split
    all_goals rfl

theorem keeps_setGradeOwner : setGradeOwner.Keeps := by
  have hchange (t : Ticket) (i : Nat) (g : Option Segment) (s : State) :
      Kept s.intervention (changeGrade t i g s).after.intervention := by
    unfold changeGrade
    split
    · rfl
    · simp [Answer.after]
  intro t a s
  unfold setGradeOwner
  dsimp only
  split
  · rfl
  · refine kept_checkLevel _ _ _ _ fun s => ?_
    split
    · rfl
    · split
      · split
        · exact hchange ..
        · rfl
      · split
        · exact hchange ..
        · rfl
      · rfl

theorem keeps_powerModeOwner : powerModeOwner.Keeps := by
  intro t a s
  unfold powerModeOwner
  dsimp only
  repeat' split
  all_goals rfl

theorem keeps_tableRecallOwner : tableRecallOwner.Keeps := by
  have hrecall (i : Nat) (old new : Descriptor) (s : State) :
      Kept s.intervention (doneRecall i old new s).after.intervention := by
    simp only [doneRecall, accept, Answer.after, recallPose]
    split
    · simpa using kept_solveAndGrade (setDescriptor i old new s)
    · simp
  intro t a s
  unfold tableRecallOwner
  dsimp only
  split
  · rfl
  · refine kept_checkLevel _ _ _ _ fun s => ?_
    split
    · rfl
    · split
      · rfl
      · split
        · exact hrecall ..
        · split
          · rfl
          · exact hrecall ..
        · rfl

theorem keeps_setClockOwner : setClockOwner.Keeps := by
  intro t a s
  unfold setClockOwner
  split
  · rfl
  · refine kept_checkLevel _ _ _ _ fun s => ?_
    split
    · rfl
    · split
      · rfl
      · simp [accept, Answer.after]

theorem keeps_setTrimOwner : setTrimOwner.Keeps := by
  intro t a s
  unfold setTrimOwner
  dsimp only
  split
  · rfl
  · refine kept_checkLevel _ _ _ _ fun s => ?_
    split <;> rfl

theorem keeps_setMeterOwner : setMeterOwner.Keeps := by
  have hraise (t : Ticket) (n : Nat) (v : MeterValue) (s : State) :
      Kept s.intervention (raiseMeter t n v s).after.intervention := by
    unfold raiseMeter
    dsimp only
    split <;> simp [accept, Answer.after]
  intro t a s
  unfold setMeterOwner
  dsimp only
  split
  · rfl
  · refine kept_checkLevel _ _ _ _ fun s => ?_
    split
    · rfl
    · split
      · rfl
      · split
        · rfl
        · split
          · rfl
          · split
            · rfl
            · exact hraise ..

theorem keeps_serviceDoneOwner : serviceDoneOwner.Keeps := by
  intro t a s
  unfold serviceDoneOwner
  dsimp only
  split
  · rfl
  · refine kept_checkLevel _ _ _ _ fun s => ?_
    split
    · split
      · rfl
      · split
        · rfl
        · simp [Answer.after]
    · rfl

theorem keeps_ackReminderOwner : ackReminderOwner.Keeps := by
  intro t a s
  unfold ackReminderOwner ackAllReminders
  dsimp only
  repeat' split
  all_goals rfl

/-- Every code's owner keeps the laws. -/
theorem keeps_ownerOf (code : Byte) (own : Owner) (h : ownerOf code = some own) : own.Keeps := by
  unfold ownerOf at h
  split at h
  all_goals cases h
  exacts [keeps_readOwner, keeps_keyOwner, keeps_restartOwner, keeps_clearFaultsOwner, keeps_writeImageOwner,
    keeps_ackWarningOwner, keeps_teachLimitOwner, keeps_setLimitOwner, keeps_enableLimitOwner,
    keeps_disableLimitOwner, keeps_releaseOwner, keeps_overrideOwner, keeps_resumeOwner, keeps_benchmarkOwner,
    keeps_setGradeOwner, keeps_powerModeOwner, keeps_tableRecallOwner, keeps_setClockOwner, keeps_setTrimOwner,
    keeps_setMeterOwner, keeps_serviceDoneOwner, keeps_ackReminderOwner]

theorem kept_judgeRequest (code : Byte) (owner : Option Owner) (h : ∀ own, owner = some own → own.Keeps) (t : Ticket)
    (r : Request) (s : State) : Kept s.intervention (judgeRequest code owner t r s).intervention := by
  unfold judgeRequest
  cases owner with
  | none => rfl
  | some own =>
    have hown := h own rfl t r.args s
    dsimp only
    split
    · rfl
    · split
      · rfl
      · split
        · rfl
        · split
          next res data u hanswer => rwa [hanswer] at hown
          next u hanswer => rwa [hanswer] at hown

@[simp] theorem requestTag_intervention (r : Request) (s : State) :
    (requestTag r s).2.intervention = s.intervention := by
  unfold requestTag
  split <;> rfl

theorem kept_takeRequest (code : Byte) (owner : Option Owner) (h : ∀ own, owner = some own → own.Keeps)
    (r : Request) (s : State) : Kept s.intervention (takeRequest code owner r s).intervention := by
  unfold takeRequest
  split
  · rfl
  next e _ =>
    split
    · rfl
    · split
      · simp
      · unfold newRequest
        dsimp only
        split
        · simp
        · simpa using kept_judgeRequest code owner h _ r (requestTag r (modifyRequest r.station
            (fun e => { e with counter := some r.counter, stored := none })
            (modifyRequest r.station (fun e => { e with assembly := none }) s))).2

theorem kept_takeByCode (code : Option Byte) (r : Request) (s : State) :
    Kept s.intervention (takeByCode code r s).intervention := by
  unfold takeByCode
  split
  · exact kept_takeRequest _ _ (keeps_ownerOf _) r s
  · exact kept_takeRequest _ none (fun _ h => nomatch h) r (useFree s)

theorem kept_takeFragment (st : Nat) (f : Frame) (s : State) :
    Kept s.intervention (takeFragment st f s).intervention := by
  unfold takeFragment
  split
  · rfl
  · split
    · rfl
    · split
      · split
        · exact kept_takeByCode ..
        · rfl
      · rfl

/-! ## Starts and supplies (R181, R183, R185) -/

theorem beginStart_intervention (s : State) : (beginStart s).intervention = .atStart := by
  obtain ⟨p, c, ends, cut, bus, m, d, q, hstart, -, -⟩ := beginStart_left s
  rw [hstart]
  exact (startBuilt_set s).intervention

/-- A start listens or goes to Limp, so it does not reach Running in its own event. -/
theorem beginStart_power (s : State) : (beginStart s).power = .startUp ∨ (beginStart s).power = .limp := by
  obtain ⟨p, c, ends, cut, bus, m, d, q, hstart, -, hend⟩ := beginStart_left s
  rw [hstart]
  by_cases hlistens : (startBuilt s).imageGood = true ∧ (startBuilt s).station ≠ 0
  · exact .inl ((hend.listens hlistens).1.trans (startBuilt_set s).power)
  · exact .inr (hend.limps hlistens).1

theorem kept_endStart (clash : Bool) (s : State) : Kept s.intervention (endStart clash s).intervention := by
  have hkeyOff (t : State) (h : Kept s.intervention t.intervention) : Kept s.intervention
      (if t.keyOffHeld || !t.pins.keyOn then takeKeyOff { t with keyOffHeld := false } else t).intervention := by
    split
    · rwa [takeKeyOff_intervention]
    · exact h
  refine hkeyOff _ ?_
  split
  · exact .after rfl (.refl _)
  · exact .of_bare ((bare_offerOwedTimes 8 _).trans (by simp [startAges]))

/-- A state that a start or a loss of supply leaves: the unit at its start values, outside Running. -/
def Restarted (t : State) : Prop := t.intervention = .atStart ∧ t.power ≠ .running

theorem restarted_beginStart (s : State) : Restarted (beginStart s) :=
  ⟨beginStart_intervention s, by rcases beginStart_power s with h | h <;> simp [h]⟩

theorem restarted_enterKeepAlive (s : State) : Restarted (enterKeepAlive s) := ⟨rfl, by simp [enterKeepAlive]⟩

theorem restarted_startIfKeyOn (s : State) (h : Restarted s) : Restarted (startIfKeyOn s) := by
  unfold startIfKeyOn
  split
  · exact restarted_beginStart s
  · exact h

/-! ## Every command -/

/-- What an event makes of the Intervention Unit: it keeps its laws, or it is at its start values. -/
def Moved (s t : State) : Prop := Kept s.intervention t.intervention ∨ Restarted t

theorem Moved.kept {s t : State} (h : Kept s.intervention t.intervention) : Moved s t := .inl h

theorem Moved.same {s t : State} (h : t.intervention = s.intervention) : Moved s t := .inl (h ▸ .refl _)

theorem moved_settle (s b t : State) : Moved s (settle b t) ↔ Moved s t := by
  simp [Moved, Restarted]

theorem moved_clashHeard (n : Nat) (s : State) : Moved s (clashHeard n s) := by
  unfold clashHeard
  dsimp only
  split
  · exact .same rfl
  · split
    · refine .kept (.after ?_ (kept_endStart true _))
      rfl
    · split
      · split
        · refine .kept (.after ?_ (kept_enterHold _))
          rfl
        · exact .same rfl
      · exact .same rfl

theorem moved_batteryConnected (k : Bool) (n : BitVec 5) (s : State) : Moved s (batteryConnected k n s) := by
  unfold batteryConnected startIfKeyOn
  split
  · split
    · exact .inr (restarted_beginStart _)
    · exact .same rfl
  · exact .same rfl

theorem moved_keepAliveLost (s : State) : Moved s (keepAliveLost s) := by
  unfold keepAliveLost
  split
  · exact .same rfl
  · exact .inr ⟨rfl, by simp⟩

theorem moved_mainSupplyLost (s : State) : Moved s (mainSupplyLost s) := by
  unfold mainSupplyLost
  split
  · exact .inr (restarted_enterKeepAlive _)
  · exact .same rfl

theorem moved_keyTurnedOn (n : BitVec 5) (s : State) : Moved s (keyTurnedOn n s) := by
  unfold keyTurnedOn
  dsimp only
  split
  · exact .inr (restarted_beginStart _)
  · exact .same rfl

theorem moved_shutdownCompleted (s : State) : Moved s (shutdownCompleted s) := by
  unfold shutdownCompleted
  split
  · exact .inr (restarted_startIfKeyOn _ (restarted_enterKeepAlive s))
  · exact .same rfl

theorem moved_restartBegun (s : State) : Moved s (restartBegun s) := by
  unfold restartBegun
  split
  · exact .inr (restarted_beginStart s)
  · exact .same rfl

theorem moved_listenEnded (s : State) : Moved s (listenEnded s) := by
  unfold listenEnded
  split
  · exact .kept (kept_endStart false s)
  · exact .same rfl

/-- A command's effect and the state that its event's end starts from. -/
def MovedBy (s : State) (o : Host.Outcome State Fault Refusal) : Prop := ∀ t, o = .next t → Moved s t

theorem movedBy_finish {s b t : State} (h : Moved s t) : MovedBy s (finish b t) := by
  rintro _ ⟨⟩
  exact (moved_settle s b t).2 h

theorem movedBy_request (code : Byte) (own : Owner) (h : own.Keeps) (r : Request) (s : State) :
    MovedBy s (finish s (takeRequest code (some own) r s)) :=
  movedBy_finish (.kept (kept_takeRequest code _ (fun _ h' => Option.some.inj h' ▸ h) r s))

theorem movedBy_frame (role : Role) (station : Option Nat) (f : Frame) (s : State) :
    MovedBy s (finish s (takeFrame role station f s)) :=
  movedBy_finish (.kept (kept_takeFrame role station f s))

/-- A timer's expiry, where the timer is due. -/
theorem movedBy_whenDue (timer : Option Nat) (f : State → State) (s : State)
    (h : Kept s.intervention (f s).intervention) : MovedBy s (finish s (whenDue timer f s)) := by
  refine movedBy_finish (.kept ?_)
  unfold whenDue
  split
  · exact h
  · rfl

theorem movedBy_same {s b t : State} (h : t.intervention = s.intervention) : MovedBy s (finish b t) :=
  movedBy_finish (.same h)

theorem movedBy_overrideTimerExpiry (n : Nat) (s : State) : MovedBy s (execOverrideTimerExpiry n s) := by
  refine movedBy_finish (.kept ?_)
  split
  · exact kept_interventionEvent _ s (Work.sound_overrideExpired n ⟨s, []⟩)
  · rfl

theorem movedBy_storeWriteComplete (s : State) : MovedBy s (execStoreWriteComplete s) := by
  refine movedBy_same ?_
  split
  · exact writeCompleted_intervention s
  · rfl

/-- Every command keeps the laws of the Intervention Unit, or leaves it at its start values. -/
theorem movedBy_exec (c : Instr) (s : State) : MovedBy s (exec c s) :=
  match c with
  | .read r => movedBy_request _ _ keeps_readOwner r s
  | .key r => movedBy_request _ _ keeps_keyOwner r s
  | .restart r => movedBy_request _ _ keeps_restartOwner r s
  | .clearFaults r => movedBy_request _ _ keeps_clearFaultsOwner r s
  | .writeImage r => movedBy_request _ _ keeps_writeImageOwner r s
  | .ackWarning r => movedBy_request _ _ keeps_ackWarningOwner r s
  | .teachLimit r => movedBy_request _ _ keeps_teachLimitOwner r s
  | .setLimit r => movedBy_request _ _ keeps_setLimitOwner r s
  | .enableLimit r => movedBy_request _ _ keeps_enableLimitOwner r s
  | .disableLimit r => movedBy_request _ _ keeps_disableLimitOwner r s
  | .release r => movedBy_request _ _ keeps_releaseOwner r s
  | .override r => movedBy_request _ _ keeps_overrideOwner r s
  | .resume r => movedBy_request _ _ keeps_resumeOwner r s
  | .benchmark r => movedBy_request _ _ keeps_benchmarkOwner r s
  | .setGrade r => movedBy_request _ _ keeps_setGradeOwner r s
  | .powerMode r => movedBy_request _ _ keeps_powerModeOwner r s
  | .tableRecall r => movedBy_request _ _ keeps_tableRecallOwner r s
  | .setClock r => movedBy_request _ _ keeps_setClockOwner r s
  | .setTrim r => movedBy_request _ _ keeps_setTrimOwner r s
  | .setMeter r => movedBy_request _ _ keeps_setMeterOwner r s
  | .serviceDone r => movedBy_request _ _ keeps_serviceDoneOwner r s
  | .ackReminder r => movedBy_request _ _ keeps_ackReminderOwner r s
  | .unknownRequestCode code r => movedBy_finish (.kept (kept_takeByCode code r s))
  | .requestFragment station f => movedBy_finish (.kept (kept_takeFragment station f s))
  | .poseInputArrival role f => movedBy_frame role.role none f s
  | .engineRun f => movedBy_frame .engineRun none f s
  | .engineFuel f => movedBy_frame .engineFuel none f s
  | .coolant f => movedBy_frame .coolant none f s
  | .pump f => movedBy_frame .pump none f s
  | .pilot f => movedBy_frame .pilot none f s
  | .valveCut f => movedBy_frame .valveCut none f s
  | .extCut station f => movedBy_frame .extCut (some station) f s
  | .timeSync f => movedBy_frame .timeSync none f s
  | .topicClash topic => movedBy_finish (moved_clashHeard topic s)
  | .staleLimitPassed entry => movedBy_finish (.kept (kept_staleEntry entry s))
  | .lostLimitPassed entry => movedBy_finish (.kept (kept_lostEntry entry s))
  | .degradedTimerExpiry => movedBy_whenDue _ _ s (kept_degradedExpired s)
  | .confirmTimerExpiry => movedBy_whenDue _ _ s (kept_confirmExpired s)
  | .overrideTimerExpiry sequence => movedBy_overrideTimerExpiry sequence s
  | .stageTimerExpiry => movedBy_whenDue _ _ s (by simp)
  | .waitTimerExpiry => movedBy_whenDue _ _ s (by simp)
  | .shutdownTimerExpiry => movedBy_whenDue _ _ s (by simp)
  | .resumeTimerExpiry => movedBy_whenDue _ _ s (by simp)
  | .grantExpiry _ | .lockoutExpiry _ => movedBy_same rfl
  | .cutDemandPeriod | .guidancePeriod | .engineReqPeriod | .metersPeriod | .statusPeriod =>
    movedBy_same (periodic_intervention _ s)
  | .clockCount => movedBy_same (clockCounted_intervention s)
  | .oscillatorStop => movedBy_same (oscillatorStopped_intervention s)
  | .oscillatorRestart => movedBy_same (oscillatorRestarted_intervention s)
  | .supplyDrop => movedBy_same (supplyDropped_intervention s)
  | .detectorRearm => movedBy_same (detectorRearmed_intervention s)
  | .storeWriteComplete => movedBy_storeWriteComplete s
  | .frameTransmitted => movedBy_finish (.kept (kept_frameSent s))
  | .transmitAttemptFailed error => movedBy_same (attemptFailed_intervention error s)
  | .busOff => movedBy_finish (.kept (kept_busWentOff s))
  | .busRecovery => movedBy_same (busRecovered_intervention s)
  | .batteryConnect keyOn straps => movedBy_finish (moved_batteryConnected keyOn straps s)
  | .keepAliveSupplyLoss => movedBy_finish (moved_keepAliveLost s)
  | .mainSupplyLoss => movedBy_finish (moved_mainSupplyLost s)
  | .keyOn straps => movedBy_finish (moved_keyTurnedOn straps s)
  | .keyOff => movedBy_same (keyTurnedOff_intervention s)
  | .shutdownComplete => movedBy_finish (moved_shutdownCompleted s)
  | .restartBegin => movedBy_finish (moved_restartBegun s)
  | .listenEnd => movedBy_finish (moved_listenEnded s)

/-- Every step keeps the laws of the Intervention Unit, or leaves it at its start values. -/
theorem moved_step (s t : State) (h : step s = .next t) : Moved s t := by
  unfold step at h
  split at h
  next c rest _ => exact movedBy_exec c { s with pending := rest } t h
  next =>
    cases h
    exact .same (tick_intervention s)

theorem demandFormed_atStart : demandFormed .atStart := (demandLaw_iff State.reset).1 resetValuesAndLaws.2.2.1

theorem seqsRise_atStart : seqsRise .atStart := ⟨List.Pairwise.nil, by simp [InterventionUnit.atStart], by decide⟩

/-- Settles O5: every event at the list forms the sets before it ends, and Hold's demand is kept. -/
theorem stepKeepsDemandLaw : Obligations.StepKeepsDemandLaw := by
  intro s t hs hstep
  rw [demandLaw_iff] at hs ⊢
  rcases moved_step s t hstep with hkept | ⟨hstart, -⟩
  · exact hkept.demand hs
  · rw [hstart]
    exact demandFormed_atStart

/-- Settles O7: a raise takes the next number, and no other step gives one. -/
theorem stepKeepsSequenceLaw : Obligations.StepKeepsSequenceLaw := by
  intro s t hs hstep
  rw [sequenceLaw_iff] at hs ⊢
  rcases moved_step s t hstep with hkept | ⟨hstart, -⟩
  · exact hkept.seqs hs
  · rw [hstart]
    exact seqsRise_atStart

/-- Settles O14: in Running no step but one that owes notices writes the unit in Hold; the entry into Hold is spelt
out. -/
theorem holdStands : Obligations.HoldStands := by
  refine ⟨fun s t _ hrunning hhold hstep => ?_, fun s h => ?_⟩
  · rw [inHold_iff] at hhold ⊢
    rcases moved_step s t hstep with hkept | ⟨-, hpower⟩
    · have hbare := hkept.hold hhold
      exact ⟨(congrArg InterventionUnit.supervision hbare).trans hhold, hbare⟩
    · exact absurd hrunning hpower
  · have hunit := enterHold_intervention s h
    refine ⟨hunit, ?_, ?_, ?_⟩
    · rw [enterHold, if_neg (by simp [h])]
      rfl
    · rw [hunit, enterHold, if_neg (by simp [h])]
      simp only [beq_iff_eq]
      rfl
    · rw [enterHold, if_neg (by simp [h])]
      rfl

end Sys2Proof.Machine
end

section
/-! PROOFS. Every step keeps CUTOUT's law: in Running the end of the event sets it, and in the sleep states and in
start-up it stays de-energised (R64, R181, R184). -/

namespace Sys2Proof.Machine

/-- Outside Running and Limp CUTOUT is de-energised. -/
def dark (s : State) : Prop := awake s = false → s.pins.cutout = false

theorem dark_of_awake {s : State} (h : awake s = true) : dark s := fun h' => absurd h (by simp [h'])

theorem dark_of_cutoutLaw (s : State) (h : cutoutLaw s = true) : dark s := by
  intro hsleeps
  unfold cutoutLaw at h
  cases hp : s.power <;> simp_all [awake]

/-- The end of an event meets the law where what it settles is dark. -/
theorem cutoutLaw_settle (before after : State) (h : dark after) : cutoutLaw (settle before after) = true := by
  have hbus : (settle before after).bus.busState = after.bus.busState :=
    (eventEnd_settle before after).events.2.2.2.1
  cases hp : after.power with
  | running => simp [cutoutLaw, cutoutPermitted, settle_pins, endPins, hp, hbus]
  | limp => simp [cutoutLaw, hp]
  | off | keepAlive | startUp =>
    have hcutout : after.pins.cutout = false := h (by simp [awake, hp])
    simp [cutoutLaw, settle_pins, endPins, hp, hcutout]

/-- An effect that leaves the power state and CUTOUT leaves a dark state dark. -/
theorem dark_of_same {s t : State} (hpower : t.power = s.power) (hcutout : t.pins.cutout = s.pins.cutout)
    (h : dark s) : dark t := by
  unfold dark awake at *
  rwa [hpower, hcutout]

theorem dark_of_frame {s t : State} (hframe : frame t = frame s) (h : dark s) : dark t :=
  dark_of_same (congrArg (·.1.1.2.1) hframe) (congrArg (·.1.1.2.2.1.cutout) hframe) h

/-! ## Starts, the key and the supplies (R181 to R185) -/

theorem dark_beginStart (s : State) : dark (beginStart s) := by
  obtain ⟨p, c, ends, cut, bus, m, d, q, hstart, -, hend⟩ := beginStart_left s
  rw [hstart]
  by_cases hlistens : (startBuilt s).imageGood = true ∧ (startBuilt s).station ≠ 0
  · exact fun _ => (hend.listens hlistens).2.2.trans (startBuilt_set s).cutout
  · exact dark_of_awake ((awake_iff _).2 (.inr (hend.limps hlistens).1))

theorem awake_of_frame {s t : State} (h : frame t = frame s) : awake t = awake s := by
  have hpower : t.power = s.power := congrArg (·.1.1.2.1) h
  rw [awake, awake, hpower]

theorem awake_endStart (clash : Bool) (s : State) : awake (endStart clash s) = true := by
  have hkeyOff (t : State) (h : awake t = true) :
      awake (if t.keyOffHeld || !t.pins.keyOn then takeKeyOff { t with keyOffHeld := false } else t) = true := by
    split
    · rw [awake_of_frame (frame_takeKeyOff _)]
      exact h
    · exact h
  have howed (n : Nat) (t : State) : awake (offerOwedTimes n t) = awake t := by
    induction n generalizing t with
    | zero => rfl
    | succ n ih => exact (ih _).trans (awake_of_frame (frame_offerOwed t))
  refine hkeyOff _ ?_
  split
  · rfl
  · rw [howed]
    rfl

theorem dark_enterKeepAlive (s : State) : dark (enterKeepAlive s) := fun _ => rfl

theorem dark_startIfKeyOn (s : State) (h : dark s) : dark (startIfKeyOn s) := by
  unfold startIfKeyOn
  split
  · exact dark_beginStart s
  · exact h

theorem dark_batteryConnected (k : Bool) (n : BitVec 5) (s : State) (h : dark s) :
    dark (batteryConnected k n s) := by
  unfold batteryConnected
  split
  next hoff =>
    refine dark_startIfKeyOn _ fun _ => h ?_
    simp only [beq_iff_eq] at hoff
    simp [awake, hoff]
  next => exact h

theorem dark_keepAliveLost (s : State) (h : dark s) : dark (keepAliveLost s) := by
  unfold keepAliveLost
  split
  · exact h
  · exact fun _ => rfl

theorem dark_mainSupplyLost (s : State) (h : dark s) : dark (mainSupplyLost s) := by
  unfold mainSupplyLost
  split
  · exact dark_enterKeepAlive _
  · exact h

theorem dark_keyTurnedOn (n : BitVec 5) (s : State) (h : dark s) : dark (keyTurnedOn n s) := by
  unfold keyTurnedOn
  dsimp only
  split
  · exact dark_beginStart _
  · exact h

theorem dark_keyTurnedOff (s : State) (h : dark s) : dark (keyTurnedOff s) := by
  unfold keyTurnedOff
  dsimp only
  split
  · split
    · exact h
    · refine dark_of_frame (frame_takeKeyOff _) ?_
      exact h
  · split <;> exact h

theorem dark_shutdownCompleted (s : State) (h : dark s) : dark (shutdownCompleted s) := by
  unfold shutdownCompleted
  split
  · exact dark_startIfKeyOn _ (dark_enterKeepAlive s)
  · exact h

theorem dark_restartBegun (s : State) (h : dark s) : dark (restartBegun s) := by
  unfold restartBegun
  split
  · exact dark_beginStart s
  · exact h

theorem dark_listenEnded (s : State) (h : dark s) : dark (listenEnded s) := by
  unfold listenEnded
  split
  · exact dark_of_awake (awake_endStart false s)
  · exact h

theorem dark_supplyDropped (s : State) (h : dark s) : dark (supplyDropped s) := by
  unfold supplyDropped
  dsimp only
  split
  · split
    · refine dark_of_frame (frame_urgentCheckpoint _) ?_
      exact h
    · exact h
  · exact h

theorem dark_detectorRearmed (s : State) (h : dark s) : dark (detectorRearmed s) := by
  unfold detectorRearmed
  split <;> exact h

theorem dark_clashHeard (n : Nat) (s : State) (h : dark s) : dark (clashHeard n s) := by
  unfold clashHeard
  dsimp only
  split
  · exact h
  · split
    · exact dark_of_awake (awake_endStart true _)
    · split
      · split
        · exact dark_of_frame (frame_enterHold _) h
        · exact h
      · exact h

/-! ## Every command -/

/-- From a dark state the command's event ends within CUTOUT's law. -/
def LawfulAfter (s : State) (o : Host.Outcome State Fault Refusal) : Prop :=
  dark s → ∀ t, o = .next t → cutoutLaw t = true

theorem lawful_finish {s b u : State} (h : dark s → dark u) : LawfulAfter s (finish b u) := by
  rintro hs _ ⟨⟩
  exact cutoutLaw_settle b u (h hs)

theorem lawful_frame {s b u : State} (h : frame u = frame s) : LawfulAfter s (finish b u) :=
  lawful_finish (dark_of_frame h)

theorem lawful_request (code : Byte) (own : Owner) (h : own.framed) (r : Request) (s : State) :
    LawfulAfter s (finish s (takeRequest code (some own) r s)) :=
  lawful_frame (frame_takeRequest code _ (fun _ h' => Option.some.inj h' ▸ h) r s)

theorem lawful_whenDue (timer : Option Nat) (f : State → State) (s : State) (h : frame (f s) = frame s) :
    LawfulAfter s (finish s (whenDue timer f s)) := by
  refine lawful_frame ?_
  unfold whenDue
  split
  · exact h
  · rfl

theorem lawful_overrideTimerExpiry (n : Nat) (s : State) : LawfulAfter s (execOverrideTimerExpiry n s) := by
  refine lawful_frame ?_
  split
  · exact frame_interventionEvent _ (fun w => frame_overrideExpired n w) s
  · rfl

theorem lawful_storeWriteComplete (s : State) : LawfulAfter s (execStoreWriteComplete s) := by
  refine lawful_finish (dark_of_same ?_ ?_)
  · split
    · exact congrArg (·.1.2.1) (lines_writeCompleted s)
    · rfl
  · split
    · exact congrArg (·.1.2.2.1.cutout) (lines_writeCompleted s)
    · rfl

/-- Every command's event ends within CUTOUT's law. -/
theorem lawful_exec (c : Instr) (s : State) : LawfulAfter s (exec c s) :=
  match c with
  | .read r => lawful_request _ _ framed_readOwner r s
  | .key r => lawful_request _ _ framed_keyOwner r s
  | .restart r => lawful_request _ _ framed_restartOwner r s
  | .clearFaults r => lawful_request _ _ framed_clearFaultsOwner r s
  | .writeImage r => lawful_request _ _ framed_writeImageOwner r s
  | .ackWarning r => lawful_request _ _ framed_ackWarningOwner r s
  | .teachLimit r => lawful_request _ _ framed_teachLimitOwner r s
  | .setLimit r => lawful_request _ _ framed_setLimitOwner r s
  | .enableLimit r => lawful_request _ _ framed_enableLimitOwner r s
  | .disableLimit r => lawful_request _ _ framed_disableLimitOwner r s
  | .release r => lawful_request _ _ framed_releaseOwner r s
  | .override r => lawful_request _ _ framed_overrideOwner r s
  | .resume r => lawful_request _ _ framed_resumeOwner r s
  | .benchmark r => lawful_request _ _ framed_benchmarkOwner r s
  | .setGrade r => lawful_request _ _ framed_setGradeOwner r s
  | .powerMode r => lawful_request _ _ framed_powerModeOwner r s
  | .tableRecall r => lawful_request _ _ framed_tableRecallOwner r s
  | .setClock r => lawful_request _ _ framed_setClockOwner r s
  | .setTrim r => lawful_request _ _ framed_setTrimOwner r s
  | .setMeter r => lawful_request _ _ framed_setMeterOwner r s
  | .serviceDone r => lawful_request _ _ framed_serviceDoneOwner r s
  | .ackReminder r => lawful_request _ _ framed_ackReminderOwner r s
  | .unknownRequestCode code r => lawful_frame (frame_takeByCode code r s)
  | .requestFragment station f => lawful_frame (frame_takeFragment station f s)
  | .poseInputArrival role f => lawful_frame (frame_takeFrame role.role none f s)
  | .engineRun f => lawful_frame (frame_takeFrame .engineRun none f s)
  | .engineFuel f => lawful_frame (frame_takeFrame .engineFuel none f s)
  | .coolant f => lawful_frame (frame_takeFrame .coolant none f s)
  | .pump f => lawful_frame (frame_takeFrame .pump none f s)
  | .pilot f => lawful_frame (frame_takeFrame .pilot none f s)
  | .valveCut f => lawful_frame (frame_takeFrame .valveCut none f s)
  | .extCut station f => lawful_frame (frame_takeFrame .extCut (some station) f s)
  | .timeSync f => lawful_frame (frame_takeFrame .timeSync none f s)
  | .topicClash topic => lawful_finish (dark_clashHeard topic s)
  | .staleLimitPassed entry => lawful_frame (frame_staleEntry entry s)
  | .lostLimitPassed entry => lawful_frame (frame_lostEntry entry s)
  | .degradedTimerExpiry => lawful_whenDue _ _ s (frame_degradedExpired s)
  | .confirmTimerExpiry => lawful_whenDue _ _ s (frame_confirmExpired s)
  | .overrideTimerExpiry sequence => lawful_overrideTimerExpiry sequence s
  | .stageTimerExpiry => lawful_whenDue _ _ s (frame_stageExpired s)
  | .waitTimerExpiry => lawful_whenDue _ _ s (frame_waitExpired s)
  | .shutdownTimerExpiry => lawful_whenDue _ _ s (frame_shutdownExpired s)
  | .resumeTimerExpiry => lawful_whenDue _ _ s (frame_resumeExpired s)
  | .grantExpiry _ | .lockoutExpiry _ => lawful_frame (frame_setGrants _ s)
  | .cutDemandPeriod | .guidancePeriod | .engineReqPeriod | .metersPeriod | .statusPeriod =>
    lawful_frame (frame_periodic _ s)
  | .clockCount => lawful_frame (frame_clockCounted s)
  | .oscillatorStop => lawful_frame (frame_oscillatorStopped s)
  | .oscillatorRestart => lawful_frame (frame_oscillatorRestarted s)
  | .supplyDrop => lawful_finish (dark_supplyDropped s)
  | .detectorRearm => lawful_finish (dark_detectorRearmed s)
  | .storeWriteComplete => lawful_storeWriteComplete s
  | .frameTransmitted => lawful_frame (frame_frameSent s)
  | .transmitAttemptFailed error => lawful_frame (frame_attemptFailed error s)
  | .busOff => lawful_frame (frame_busWentOff s)
  | .busRecovery => lawful_frame (frame_busRecovered s)
  | .batteryConnect keyOn straps => lawful_finish (dark_batteryConnected keyOn straps s)
  | .keepAliveSupplyLoss => lawful_finish (dark_keepAliveLost s)
  | .mainSupplyLoss => lawful_finish (dark_mainSupplyLost s)
  | .keyOn straps => lawful_finish (dark_keyTurnedOn straps s)
  | .keyOff => lawful_finish (dark_keyTurnedOff s)
  | .shutdownComplete => lawful_finish (dark_shutdownCompleted s)
  | .restartBegin => lawful_finish (dark_restartBegun s)
  | .listenEnd => lawful_finish (dark_listenEnded s)

theorem cutoutLaw_tick (s : State) : cutoutLaw (tick s) = cutoutLaw s := by
  unfold tick countPeriods
  dsimp only
  split <;> rfl

/-- Settles O4: the end of each command's event sets CUTOUT in Running, and every other state but Limp is dark. -/
theorem stepKeepsCutoutLaw : Obligations.StepKeepsCutoutLaw := by
  intro s t hs hstep
  unfold step at hstep
  split at hstep
  next c rest _ => exact lawful_exec c { s with pending := rest } (dark_of_cutoutLaw s hs) t hstep
  next =>
    cases hstep
    rwa [cutoutLaw_tick]

end Sys2Proof.Machine
end

section
/-! PROOFS. The sets formed afresh, the confirmation of a demand, and the claims of an EXT_CUT station (R43, R44, R48,
R54 to R56, R58, R59, R63). -/

namespace Sys2Proof.Machine

/-! ## The sets formed afresh (R55, R56, R59) -/

/-- The unit as a change of its cut set leaves it. -/
def InterventionUnit.recut (now : Nat) (u : InterventionUnit) : InterventionUnit :=
  superviseChange now { u with
    cutSet := cutSetOf u.list, slowSet := slowSetOf u.list, demandSeq := u.demandSeq + 1 }

theorem formSets_cutChanged (s : State) (h : cutSetOf s.intervention.list ≠ s.intervention.cutSet) :
    let t := setIntervention (s.intervention.recut s.now) s
    formSets s = placeContent .cutDemand (cutDemandData t) t := by
  unfold formSets
  rw [if_pos (by simpa using h)]
  rfl

theorem formSets_slowChanged (s : State) (h : cutSetOf s.intervention.list = s.intervention.cutSet)
    (hslow : slowSetOf s.intervention.list ≠ s.intervention.slowSet) :
    let t := setIntervention { s.intervention with slowSet := slowSetOf s.intervention.list } s
    formSets s = placeContent .cutDemand (cutDemandData t) t := by
  unfold formSets
  rw [if_neg (by simpa using h), if_pos (by simpa using hslow)]
  simp only [h]

theorem formSets_unchanged (s : State) (h : cutSetOf s.intervention.list = s.intervention.cutSet)
    (hslow : slowSetOf s.intervention.list = s.intervention.slowSet) : formSets s = s := by
  unfold formSets
  rw [if_neg (by simpa using h), if_neg (by simpa using hslow)]
  simp only [h, hslow]
  rfl

theorem formSets_intervention (s : State) : (formSets s).intervention
    = if cutSetOf s.intervention.list = s.intervention.cutSet then
        { s.intervention with slowSet := slowSetOf s.intervention.list }
      else s.intervention.recut s.now := by
  split
  next h =>
    by_cases hslow : slowSetOf s.intervention.list = s.intervention.slowSet
    · rw [formSets_unchanged s h hslow, hslow]
    · rw [formSets_slowChanged s h hslow]
      rfl
  next h =>
    rw [formSets_cutChanged s h]
    rfl

/-- Settles O26, by the supervision state. -/
theorem cutSetChangeActsOnSupervision : Obligations.CutSetChangeActsOnSupervision := by
  intro s u v
  have hv : v = if cutSetOf u.list = u.cutSet then { u with slowSet := slowSetOf u.list } else u.recut s.now :=
    formSets_intervention s
  refine ⟨fun hcut => ?_, fun hcut => ?_⟩
  · rw [hv, if_neg hcut, InterventionUnit.recut]
    refine ⟨fun h => ?_, fun h => ?_, fun h => ?_, fun h => ?_⟩
    · simp [superviseChange, h, confirmTime]
    · simp [superviseChange, h]
    · simp [superviseChange, h, confirmTime]
    · simp [superviseChange, h]
  · rw [hv, if_pos hcut]
    exact ⟨rfl, rfl, rfl⟩

/-- Settles O27: a change of the cut set, of the slow set alone, or of neither. -/
theorem demandSequenceAdvances : Obligations.DemandSequenceAdvances := by
  intro s u t content
  obtain ⟨hlist, -, hcut, hslow, -⟩ := formSets_lists s
  refine ⟨hcut, hslow, hlist, ?_, ?_⟩
  · rw [show t.intervention = _ from formSets_intervention s]
    split
    · rfl
    · exact (superviseChange_frame s.now _).2.2.2.2.1
  · by_cases h : cutSetOf u.list = u.cutSet
    · by_cases h' : slowSetOf u.list = u.slowSet
      · rw [if_pos ⟨h, h'⟩, show t = s from formSets_unchanged s h h']
      · rw [if_neg fun hboth => h' hboth.2]
        simp only [content, t]
        rw [formSets_slowChanged s h h']
        rfl
    · rw [if_neg fun hboth => h hboth.1]
      simp only [content, t]
      rw [formSets_cutChanged s h]
      rfl

/-! ## The confirmation of a demand (R58) -/

theorem subset_iff (a b : MotionSet) : a.subset b = true ↔ a &&& b = a := by
  simp [MotionSet.subset]

theorem Record.confirm_eq (applied : MotionSet) (r : Record) : r.confirm applied
    = if r.kind ≠ .limitSlow ∧ r.state = .raised ∧ r.blocked &&& applied = r.blocked then
        { r with state := .confirmed } else r := by
  simp only [Record.confirm, Bool.and_eq_true, bne_iff_ne, beq_iff_eq, subset_iff, and_assoc]

/-- The unit with the records of an applied set confirmed. -/
def InterventionUnit.confirming (u : InterventionUnit) (applied : MotionSet) : InterventionUnit :=
  { u with list := u.list.map fun r =>
      if r.kind ≠ .limitSlow ∧ r.state = .raised ∧ r.blocked &&& applied = r.blocked then
        { r with state := .confirmed } else r }

theorem echoed_covered (u : InterventionUnit) (now : Nat) (applied : MotionSet)
    (h : u.cutSet &&& applied = u.cutSet) : u.echoed now applied = { u.confirming applied with
      confirmed := true, confirmTimer := none
      supervision := if u.supervision = .awaiting then .settled else u.supervision } := by
  unfold InterventionUnit.echoed InterventionUnit.confirming
  rw [if_pos ((subset_iff _ _).2 h)]
  simp only [← Record.confirm_eq, beq_iff_eq]

theorem echoed_uncovered (u : InterventionUnit) (now : Nat) (applied : MotionSet)
    (h : u.cutSet &&& applied ≠ u.cutSet) : u.echoed now applied = match u.supervision with
      | .settled => { u.confirming applied with
          confirmed := false, confirmTimer := some (now + 150), supervision := .awaiting }
      | .faulted => { u.confirming applied with confirmed := false }
      | .awaiting | .hold => u.confirming applied := by
  unfold InterventionUnit.echoed InterventionUnit.confirming
  rw [if_neg (mt (subset_iff _ _).1 h)]
  simp only [← Record.confirm_eq]
  rfl

theorem valveCutArrival_ignored (echo : BitVec 8) (applied : MotionSet) (s : State)
    (h : s.intervention.supervision = .hold ∨ echo ≠ s.intervention.demandSeq) :
    valveCutArrival echo applied s = s := by
  rw [valveCutArrival, if_pos (by simpa [inHold] using h)]

theorem valveCutArrival_taken (echo : BitVec 8) (applied : MotionSet) (s : State)
    (h : s.intervention.supervision ≠ .hold) (hecho : echo = s.intervention.demandSeq) :
    valveCutArrival echo applied s = setIntervention (s.intervention.echoed s.now applied) s := by
  rw [valveCutArrival, if_neg (by simpa [inHold] using ⟨h, hecho⟩)]

/-- Settles O48: an accepted VALVE_CUT is handed to the Intervention Unit, which ignores it, finds the cut set covered
or finds it uncovered. -/
theorem valveCutConfirms : Obligations.ValveCutConfirms := by
  intro f s x echo applied hx hp g v goes
  have hexec : exec (.valveCut f) s = .next (settle s (valveCutArrival echo applied g)) := by
    refine (finish_takeFrame .valveCut none f s x hx).trans ?_
    rw [hp]
    rfl
  have hnow : g.now = s.now := gradedBy_now x s
  have htaken (h : v.supervision ≠ .hold) (hecho : echo = v.demandSeq) :
      goes (g.intervention.echoed g.now applied) :=
    hexec.trans (by rw [valveCutArrival_taken echo applied g h hecho])
  refine ⟨fun h => ?_, fun h hecho hcovered => ?_, fun hecho huncovered => ⟨fun h => ?_, fun h => ?_, fun h => ?_⟩⟩
  · rw [hexec, valveCutArrival_ignored echo applied g h]
  · have hgoes := htaken h hecho
    rw [echoed_covered g.intervention _ _ hcovered] at hgoes
    exact hgoes
  all_goals
    have hsup : g.intervention.supervision = _ := h
    have hgoes := htaken (by rw [h]; decide) hecho
    rw [echoed_uncovered g.intervention _ _ huncovered, hsup, hnow] at hgoes
    exact hgoes

/-! ## The claims of a station (R48) -/

/-- A listed record that claims a set. -/
theorem Record.claim_eq (m : MotionSet) (r : Record) : r.claim m = { r with
    blocked := m, cause := .externalRequest
    state := if r.state = .clearable ∨ (r.state = .confirmed ∧ m &&& r.blocked ≠ m) then .raised else r.state } := by
  unfold Record.claim
  congr 1
  cases h : r.state with
  | raised => simp
  | overridden => simp
  | clearable => simp
  | confirmed =>
    by_cases hm : m &&& r.blocked = m
    · simp [hm, (subset_iff m r.blocked).2 hm]
    · simp [hm, mt (subset_iff m r.blocked).1 hm]

theorem extCut_empty (st : Nat) (w : Work) : w.extCut st 0#8 = w.remove (Record.ofStation st) := rfl

theorem extCut_listed (st : Nat) (m : MotionSet) (w : Work) (hm : m ≠ 0#8)
    (h : w.state.intervention.list.any (Record.ofStation st) = true) : w.extCut st m
      = w.change (Record.ofStation st) (Record.claim m) (fun r => r.state == .clearable) := by
  rw [Work.extCut, if_neg (by simpa [MotionSet.none] using hm), if_pos h]

theorem extCut_unlisted (st : Nat) (m : MotionSet) (w : Work) (hm : m ≠ 0#8)
    (h : w.state.intervention.list.any (Record.ofStation st) = false) :
    w.extCut st m = w.raise .externalStop (some st) .externalRequest m := by
  rw [Work.extCut, if_neg (by simpa [MotionSet.none] using hm), if_neg (by simp [h])]

/-- Settles O49: a station's claim removes its record, changes it, or raises one. -/
theorem extCutClaims : Obligations.ExtCutClaims := by
  refine ⟨fun st f s x m hx hp => ?_, fun st m s => ?_⟩
  · refine (finish_takeFrame .extCut (some st) f s x hx).trans ?_
    rw [hp]
    rfl
  intro u v claimed told again
  refine ⟨?_, fun hm hlisted => ?_, fun hm hnone => ⟨fun hlast => ?_, fun hlast hout => ?_,
    extCut_unlisted st m _ hm hnone⟩, interventionEvent_of_hold _ s⟩
  · rintro rfl
    simp only [v, told, extCut_empty]
    exact ⟨Work.remove_intervention _ ⟨s, []⟩, Work.remove_notices _ ⟨s, []⟩⟩
  · have hclaim : Record.claim m = again := funext (Record.claim_eq m)
    have hwork := (extCut_listed st m ⟨s, []⟩ hm hlisted).trans (Work.change_eq _ _ _ _)
    refine ⟨?_, ?_⟩
    · simp only [v, hwork, hclaim]
      rfl
    · simp only [told, hwork, hclaim, List.nil_append]
      refine List.map_congr_left fun r hr => ?_
      have hstate : (again r).state = .raised := by
        simp only [List.mem_filter, Bool.and_eq_true, beq_iff_eq] at hr
        simp [again, hr.2.2]
      rw [hstate]
      rfl
  · have hwork := (extCut_unlisted st m ⟨s, []⟩ hm hnone).trans
      (raise_eq .externalStop (some st) .externalRequest m ⟨s, []⟩ (by show u.lastSeq < 65535; omega))
    have hopen : ¬ u.lastSeq = 65534 := by omega
    simp only [v, told, hwork]
    rw [if_neg hopen]
    exact ⟨rfl, rfl⟩
  · have hwork := (extCut_unlisted st m ⟨s, []⟩ hm hnone).trans
      (raise_eq .externalStop (some st) .externalRequest m ⟨s, []⟩ (by show u.lastSeq < 65535; omega))
    simp only [v, told, hwork]
    rw [if_pos hlast, exhaustSequence_intervention _ _ hout]
    refine ⟨?_, rfl⟩
    simp only [show s.intervention.lastSeq + 1 = 65535 by rw [show s.intervention.lastSeq = 65534 from hlast]]
    rfl

end Sys2Proof.Machine
end

section
/-! PROOFS. The periods of the publications with the bytes of their contents, and the bus controller's events: a frame
transmitted, an attempt that failed, bus-off and recovery (R54, R56, R79, R101, R136, R145, R160 to R165, R171, R186,
R196, R199). -/

namespace Sys2Proof.Machine

/-! ## Cyclic places -/

@[simp] theorem setPlace_setPlace (b : Biu) (c d : CyclicPlace) (p : CyclicPub) :
    (b.setPlace c p).setPlace d p = b.setPlace d p := by
  cases p <;> rfl

@[simp] theorem place_setPlace (b : Biu) (c : CyclicPlace) (p : CyclicPub) : (b.setPlace c p).place p = c := by
  cases p <;> rfl

/-! ## The periods (R56, R79, R101, R136, R171) -/

theorem periodDue_iff (s : State) (p : CyclicPub) : periodDue s p = true ↔
    (s.power = .running ∨ (s.power = .limp ∧ p = .status)) ∧ (s.bus.place p).due ≤ s.now := by
  simp [periodDue, publishes]

theorem periodic_due (p : CyclicPub) (s : State) (h : periodDue s p = true) : periodic p s = { s with
    bus := s.bus.setPlace { s.bus.place p with
      due := (s.bus.place p).due + p.period, lastNumber := (s.bus.place p).lastNumber + 1
      held := some ⟨(s.bus.place p).lastNumber + 1, pubData s p⟩ } p } := by
  rw [periodic, if_pos h]
  simp only [placeContent, setDue, setPlace_setPlace, place_setPlace, CyclicPlace.fill]

theorem periodic_waits (p : CyclicPub) (s : State) (h : ¬ periodDue s p = true) : periodic p s = s := by
  rw [periodic, if_neg h]

/-! ## The bytes of the contents (R199) -/

theorem signed16_eq (v : Option Int) : signed16 v = match v with
    | some n => le 2 n
    | none => [0#8, 128#8] := by
  cases v <;> rfl

theorem isSome_bits {α : Type} (o : Option α) (n : Nat) [Decidable (o = none)] :
    (if o.isSome then n else 0) = if o = none then 0 else n := by
  cases o <;> simp

theorem isNone_bits {α : Type} (o : Option α) (n : Nat) [Decidable (o = none)] :
    (if o.isNone then n else 0) = if o = none then n else 0 := by
  cases o <;> simp

theorem listFull_bits (d : DiagnosticList) (n : Nat) [Decidable (d.unentered = [])] :
    (if listFull d then n else 0) = if d.unentered = [] then 0 else n := by
  by_cases h : d.unentered = [] <;> simp [listFull, unenteredCount, h, List.length_pos_iff]

theorem noticesOwed_iff (s : State) : noticesOwed s = true ↔ (∃ r ∈ s.intervention.list, r.owed = true)
    ∨ (∃ e ∈ s.limits, e.owed ≠ none) ∨ ∃ i, some i ∈ s.service.items ∧ i.owed ≠ none := by
  unfold noticesOwed
  rw [Bool.or_eq_true, Bool.or_eq_true, or_assoc]
  refine or_congr List.any_eq_true (or_congr (by simp [Option.isSome_iff_ne_none]) ?_)
  rw [List.any_eq_true]
  constructor
  · rintro ⟨o, ho, howed⟩
    cases o with
    | none => contradiction
    | some i => exact ⟨i, ho, Option.isSome_iff_ne_none.1 howed⟩
  · rintro ⟨i, hi, howed⟩
    exact ⟨some i, hi, Option.isSome_iff_ne_none.2 howed⟩

theorem limpCauseBits_eq (o : Option LimpCause) : limpCauseBits o = match o with
    | none => 0
    | some .imageBad => 1
    | some .strapFault => 2
    | some .topicClash => 3 := rfl

/-- Settles O53: each period command runs its publication's period, and the contents are spelt out. -/
theorem periodsPlaceContents : Obligations.PeriodsPlaceContents := by
  have hperiod (p : CyclicPub) (c : Instr) (n : Nat) (hc : ∀ s, exec c s = finish s (periodic p s))
      (hn : p.period = n) (s : State) :
      ((s.power = .running ∨ (s.power = .limp ∧ p = .status)) ∧ (s.bus.place p).due ≤ s.now →
          exec c s = .next (settle s { s with bus := s.bus.setPlace { s.bus.place p with
            due := (s.bus.place p).due + n, lastNumber := (s.bus.place p).lastNumber + 1
            held := some ⟨(s.bus.place p).lastNumber + 1, pubData s p⟩ } p }))
        ∧ (¬ ((s.power = .running ∨ (s.power = .limp ∧ p = .status)) ∧ (s.bus.place p).due ≤ s.now) →
          exec c s = .next (settle s s)) := by
    subst hn
    refine ⟨fun h => ?_, fun h => ?_⟩
    · rw [hc, periodic_due p s ((periodDue_iff s p).2 h)]
      rfl
    · rw [hc, periodic_waits p s (mt (periodDue_iff s p).1 h)]
      rfl
  refine ⟨?_, fun s => ⟨rfl, rfl, by simp [stopFlag]⟩, fun s => ?_, fun s => rfl, fun s => ⟨?_, noticesOwed_iff s⟩⟩
  · intro x hx
    simp only [List.mem_cons, List.not_mem_nil, or_false] at hx
    rcases hx with rfl | rfl | rfl | rfl | rfl
    · exact hperiod .cutDemand .cutDemandPeriod 50 (fun _ => rfl) rfl
    · exact hperiod .guidance .guidancePeriod 100 (fun _ => rfl) rfl
    · exact hperiod .engineReq .engineReqPeriod 100 (fun _ => rfl) rfl
    · exact hperiod .meters .metersPeriod 1000 (fun _ => rfl) rfl
    · exact hperiod .status .statusPeriod 200 (fun _ => rfl) rfl
  · show guidanceData s = _
    unfold guidanceData
    dsimp only
    rw [isSome_bits, signed16_eq, signed16_eq]
    cases s.guidance.result.floor <;> rfl
  · show statusData s = _
    unfold statusData clockRunning
    rw [listFull_bits, isNone_bits, limpCauseBits_eq]
    simp only [beq_iff_eq]
    rfl

/-! ## A frame leaves the controller (R160 to R163, R165, R196) -/

/-- The fences that a content's end frees. -/
theorem freeFences_eq (n : Nat) (l : List RingFrame) : freeFences n l = l.map fun f => match f.fence with
    | some k => if k ≤ n then { f with fence := none } else f
    | none => f := by
  unfold freeFences mapWhere
  refine List.map_congr_left fun f _ => ?_
  rcases f with ⟨id, reply, data, _ | k, sent⟩ <;> simp

/-- A place whose message ends: a newer content stays held. -/
theorem sent_ended (c : CyclicPlace) (m : Placed) (h : c.sending = some m) (hend : frameCount m.data ≤ c.framesSent + 1) :
    c.sent = { c with
      held := match c.held with
        | some h => if h.number = m.number then none else some h
        | none => none
      sending := none, framesSent := 0, counter := c.counter + 1 } := by
  have hheld : (if c.held.map (·.number) == some m.number then none else c.held) = match c.held with
      | some h => if h.number = m.number then none else some h
      | none => none := by
    cases c.held <;> simp
  unfold CyclicPlace.sent
  rw [h]
  dsimp only
  rw [if_neg (Nat.not_lt.2 hend), hheld]

theorem sent_goesOn (c : CyclicPlace) (m : Placed) (h : c.sending = some m)
    (hmore : c.framesSent + 1 < frameCount m.data) :
    c.sent = { c with framesSent := c.framesSent + 1, counter := c.counter + 1 } := by
  unfold CyclicPlace.sent
  rw [h]
  dsimp only
  rw [if_pos hmore]

theorem endsNumber_eq (c : CyclicPlace) (m : Placed) (h : c.sending = some m) :
    c.endsNumber = if frameCount m.data ≤ c.framesSent + 1 then some m.number else none := by
  unfold CyclicPlace.endsNumber
  rw [h]
  dsimp only
  by_cases hend : frameCount m.data ≤ c.framesSent + 1
  · rw [if_neg (Nat.not_lt.2 hend), if_pos hend]
  · rw [if_pos (Nat.lt_of_not_le hend), if_neg hend]

/-- The ring after a cyclic frame: a CUT_DEMAND's end frees the fences of its content. -/
theorem sentCyclic_spelt (p : CyclicPub) (s : State) (m : Placed) (h : (s.bus.place p).sending = some m) :
    sentCyclic p s = { s with bus := { s.bus.setPlace (s.bus.place p).sent p with
      controller := none
      ring := if p = .cutDemand ∧ frameCount m.data ≤ (s.bus.place p).framesSent + 1 then
          freeFences m.number s.bus.ring
        else s.bus.ring } } := by
  unfold sentCyclic
  dsimp only
  rw [endsNumber_eq _ m h]
  by_cases hend : frameCount m.data ≤ (s.bus.place p).framesSent + 1
  · cases p <;> simp [hend]
  · cases p <;> simp [hend]

/-- A ring frame's attempt advances its topic's counter. -/
theorem countEvent_eq (b : Biu) (reply : Bool) : b.countEvent reply = { b with
    replyCounter := if reply then b.replyCounter + 1 else b.replyCounter
    noticeCounter := if reply then b.noticeCounter else b.noticeCounter + 1 } := by
  cases reply <;> rfl

/-- Giving a frame back moves its place and the controller alone. -/
theorem release_frame (b : Biu) : b.release.busOffCount = b.busOffCount ∧ b.release.txErrors = b.txErrors := by
  unfold Biu.release
  split
  next p _ => cases p <;> exact ⟨rfl, rfl⟩
  next => exact ⟨rfl, rfl⟩

theorem release_cyclic (b : Biu) (p : CyclicPub) (h : b.controller = some (.cyclic p)) :
    b.release = { b.setPlace (if (b.place p).framesSent = 0 then { b.place p with sending := none } else b.place p) p
      with controller := none } := by
  unfold Biu.release
  rw [h]
  simp only [beq_iff_eq]

theorem release_elsewhere (b : Biu) (h : ∀ p, b.controller ≠ some (.cyclic p)) :
    b.release = { b with controller := none } := by
  unfold Biu.release
  split
  next p hp => exact absurd hp (h p)
  next => rfl

/-! ## Bus-off (R165) -/

theorem busWentOff_off (s : State) (hawake : awake s = true) (honline : s.bus.busState = .online)
    (herrors : 255 < s.bus.txErrors) (hcount : s.bus.busOffCount < 2) : busWentOff s = report .busOff biuBlock
      { s with bus := { s.bus.release with busState := .busOff, busOffCount := s.bus.busOffCount + 1 } } := by
  obtain ⟨hkept, -⟩ := release_frame s.bus
  unfold busWentOff
  dsimp only
  rw [if_pos (by simp [hawake, honline, herrors]), hkept, if_pos hcount]

theorem busWentOff_silent (s : State) (hawake : awake s = true) (honline : s.bus.busState = .online)
    (herrors : 255 < s.bus.txErrors) (hcount : 2 ≤ s.bus.busOffCount) :
    let silent := report .busSilent biuBlock
      { s with bus := { s.bus.release with busState := .silent, busOffCount := 3 } }
    busWentOff s = if s.power = .running then enterHold silent else silent := by
  obtain ⟨hkept, -⟩ := release_frame s.bus
  unfold busWentOff
  dsimp only
  rw [if_pos (by simp [hawake, honline, herrors]), hkept, if_neg (Nat.not_lt.2 hcount)]
  simp only [beq_iff_eq]
  rfl

theorem busRecovered_online (s : State) (hawake : awake s = true) (hoff : s.bus.busState = .busOff) :
    busRecovered s = endFault .busOff biuBlock { s with bus := { s.bus with busState := .online, txErrors := 0 } } := by
  rw [busRecovered, if_pos (by simp [hawake, hoff])]

/-! ## The offering of a freed place (R54, R145, R164) -/

/-- A search along a list with its indexes, by the place that it finds first. -/
theorem findSome?_indexed {α β : Type} (l : List α) (g : Nat × α → Option β) (i : Nat) (x : α) (y : β)
    (hx : l[i]? = some x) (hy : g (i, x) = some y) (hlow : ∀ j < i, ∀ d, l[j]? = some d → g (j, d) = none) :
    (indexed l).findSome? g = some y := by
  have hget : (indexed l)[i]? = some (i, x) := by rw [getElem?_indexed, hx]; rfl
  obtain ⟨hi, hget'⟩ := List.getElem?_eq_some_iff.1 hget
  refine List.findSome?_eq_some_iff.2 ⟨(indexed l).take i, (i, x), (indexed l).drop (i + 1), ?_, hy, ?_⟩
  · rw [← hget', List.getElem_cons_drop, List.take_append_drop]
  · rintro ⟨j, d⟩ hmem
    obtain ⟨k, hk⟩ := List.mem_iff_getElem?.1 hmem
    rw [List.getElem?_take, Option.ite_none_right_eq_some] at hk
    obtain ⟨hki, hk⟩ := hk
    rw [getElem?_indexed, Option.map_eq_some_iff] at hk
    obtain ⟨d', hd, heq⟩ := hk
    obtain ⟨rfl, rfl⟩ := Prod.mk.inj heq
    exact hlow k hki d' hd

theorem modify_eq_set {α : Type} (f : α → α) (l : List α) (i : Nat) (x : α) (h : l[i]? = some x) :
    l.modify i f = l.set i (f x) := by
  obtain ⟨hi, rfl⟩ := List.getElem?_eq_some_iff.1 h
  conv_lhs => rw [← List.set_getElem_self hi]
  exact modify_set f l i _

/-- The first owner of notices that owes one is offered the place. -/
theorem offerOwed_eq (s : State) (hrunning : s.power = .running) (hroom : s.bus.ring.length < 8) :
    offerOwed s = match owingRecord s with
      | some r => { s with
          bus := s.bus.join false (recordNoticeData r r.state.num) s.bus.fenceNow
          intervention := { s.intervention with
            list := mapWhere (·.seq == r.seq) (fun r => { r with owed := false }) s.intervention.list } }
      | none => match owingLimit s with
        | some (i, n) => { s with
            bus := s.bus.join false (warnNoticeData n) none
            limits := s.limits.modify i fun e => { e with owed := none } }
        | none => match owingItem s with
          | some (i, item, k) => setItem i { item with owed := none }
              { s with bus := s.bus.join false (serviceNoticeData i item k) none }
          | none => s := by
  unfold offerOwed
  exact if_neg (by simp [hrunning, hroom])

theorem offerOwed_idle (s : State) (h : s.power ≠ .running ∨ 8 ≤ s.bus.ring.length) : offerOwed s = s := by
  rw [offerOwed, if_pos (by simpa using h)]

theorem owingRecord_none (s : State) (h : s.intervention.list.all (fun r => !r.owed) = true) :
    owingRecord s = none := by
  unfold owingRecord
  rw [List.find?_eq_none]
  simpa using h

theorem owingLimit_none (s : State) (h : s.limits.all (fun e => e.owed.isNone) = true) : owingLimit s = none := by
  unfold owingLimit
  rw [List.findSome?_eq_none_iff]
  rintro ⟨i, e⟩ he
  have hmem := List.mem_of_getElem? ((mem_indexed s.limits i e).1 he)
  have hnone : e.owed = none := Option.isNone_iff_eq_none.1 (List.all_eq_true.1 h e hmem)
  simp [hnone]

theorem owingLimit_least (s : State) (i : Nat) (e : LimitEntry) (n : WarnNotice) (he : s.limits[i]? = some e)
    (hn : e.owed = some n) (hlow : ∀ j < i, ∀ d, s.limits[j]? = some d → d.owed = none) :
    owingLimit s = some (i, n) :=
  findSome?_indexed s.limits _ i e (i, n) he (by simp [hn]) fun j hj d hd => by simp [hlow j hj d hd]

theorem owingItem_least (s : State) (i : Nat) (item : ServiceItem) (k : ServiceNoticeKind)
    (he : s.service.items[i]? = some (some item)) (hk : item.owed = some k)
    (hlow : ∀ j < i, ∀ d, s.service.items[j]? = some (some d) → d.owed = none) :
    owingItem s = some (i, item, k) := by
  refine findSome?_indexed s.service.items _ i (some item) (i, item, k) he (by simp [hk]) fun j hj d hd => ?_
  cases d with
  | none => rfl
  | some d => simp [hlow j hj d hd]

/-- Settles O56: each event of the controller, then what it leaves of a place and of a ring frame, and the owner that a
freed place is offered to. -/
theorem controllerEvents : Obligations.ControllerEvents := by
  refine ⟨fun s => ?_, fun b => ⟨release_cyclic b, release_elsewhere b⟩, fun p s m hm => ?_, fun f s => ?_,
    fun s => ⟨offerOwed_idle s, fun hrunning hroom => ?_⟩⟩
  · intro counted b
    refine ⟨fun p hp => ?_, fun id f hid hf => ?_, fun h error hh => ?_, fun ha ho he hc => ?_,
      fun ha ho he hc => ?_, fun ha ho => ?_⟩
    · show finish s (frameSent s) = _
      unfold frameSent
      rw [hp]
      rfl
    · show finish s (frameSent s) = _
      unfold frameSent
      rw [hid]
      dsimp only
      rw [hf]
      rfl
    · show finish s (attemptFailed error s) = _
      unfold attemptFailed
      rw [if_neg (by simp [hh])]
      dsimp only
      rw [(release_frame s.bus).2]
      rfl
    · exact congrArg (finish s) (busWentOff_off s ha ho he hc)
    · exact congrArg (finish s) (busWentOff_silent s ha ho he hc)
    · exact congrArg (finish s) (busRecovered_online s ha ho)
  · intro c ended sent freed
    have hsent : c.sent = sent := by
      simp only [sent, ended]
      split
      next hend => exact sent_ended c m hm hend
      next hmore => exact sent_goesOn c m hm (Nat.lt_of_not_le hmore)
    rw [sentCyclic_spelt p s m hm, freeFences_eq]
    exact hsent ▸ rfl
  · intro b
    refine ⟨fun hmore => ?_, fun hend => ?_⟩
    · unfold sentRing
      dsimp only
      rw [if_pos hmore, countEvent_eq]
      simp only [mapWhere, beq_iff_eq]
      rfl
    · unfold sentRing
      dsimp only
      rw [if_neg (Nat.not_lt.2 hend), countEvent_eq]
      rfl
  · intro join
    rw [offerOwed_eq s hrunning hroom]
    refine ⟨fun r hr => ?_, fun hrecords => ⟨fun i e n he hn hlow => ?_, fun hlimits i item k he hk hlow => ?_⟩⟩
    · rw [show owingRecord s = some r from hr]
      simp only [mapWhere, beq_iff_eq]
      rfl
    · rw [owingRecord_none s hrecords, owingLimit_least s i e n he hn hlow]
      dsimp only
      rw [modify_eq_set _ _ i e he]
      rfl
    · rw [owingRecord_none s hrecords, owingLimit_none s hlimits, owingItem_least s i item k he hk hlow]
      rfl

end Sys2Proof.Machine
end

section
/-! PROOFS. RELEASE, OVERRIDE and RESUME, with their refusals; the records that may be released (R66, R67, R69). -/

namespace Sys2Proof.Machine

@[simp] theorem leveled_intervention (r : Request) (s : State) : (leveled r s).intervention = s.intervention :=
  noted_intervention r s

@[simp] theorem leveled_now (r : Request) (s : State) : (leveled r s).now = s.now := noted_now r s

@[simp] theorem leveled_limits (r : Request) (s : State) : (leveled r s).limits = s.limits := noted_limits r s

@[simp] theorem leveled_technicianOwned (r : Request) (s : State) (x : Record) :
    technicianOwned (leveled r s) x = technicianOwned s x := by
  rw [technicianOwned, leveled_limits]
  rfl

@[simp] theorem leveled_valveStation (r : Request) (s : State) : valveStation (leveled r s) = valveStation s := by
  have hentry : entryOf (leveled r s) .valveCut = entryOf s .valveCut := entryOf_noted r s .valveCut (by decide)
  rw [valveStation, hentry]
  rfl

/-! ## The records that the requests name (R66, R67) -/

theorem releasable_iff (x : Record) : x.releasable = true ↔ (x.state = .clearable ∧ x.kind ≠ .limitSlow)
    ∨ (x.state = .overridden ∧ x.breachGone = true) := by
  simp [Record.releasable]

theorem technicianOwned_iff (s : State) (x : Record) : technicianOwned s x = true ↔
    ∃ (i : Nat) (e : LimitEntry), x.source = some i ∧ s.limits[i]? = some e ∧ e.config.owner = .technician := by
  unfold technicianOwned
  cases hi : x.source with
  | none => simp
  | some i =>
    cases he : s.limits[i]? with
    | none => simp [he]
    | some e => simp [he]

/-! ## The owners' answers, by the record that the sequence number names (R66, R67, R69) -/

/-- The state in which RELEASE judges a record: a record of a silent station takes a level check first. -/
def releaseState (station : Nat) (x : Record) (s : State) : State :=
  if x.cause = .externalSilent then renewGrant station s else s

section
variable (t : Ticket) (a : List Byte) (s : State) (hlimp : limpOrHold s = false)
include hlimp

theorem releaseOwner_zero (hseq : argU16 a 0 = 0) : releaseOwner t a s = .reply .badArgument [] s := by
  simp [releaseOwner, hlimp, hseq, refuse]

theorem releaseOwner_unknown (hseq : argU16 a 0 ≠ 0)
    (hnone : s.intervention.list.find? (·.seq == argU16 a 0) = none) :
    releaseOwner t a s = .reply .unknownRecord [] s := by
  simp [releaseOwner, hlimp, hseq, hnone, refuse]

theorem releaseOwner_below (x : Record) (hseq : argU16 a 0 ≠ 0)
    (hx : s.intervention.list.find? (·.seq == argU16 a 0) = some x) (hsilent : x.cause = .externalSilent)
    (hlevel : holds s t.station .technician = false) : releaseOwner t a s = .reply .refusedLevel [] s := by
  simp [releaseOwner, hlimp, hseq, hx, hsilent, checkLevel_refused _ _ _ _ hlevel]

theorem releaseOwner_of_record (x : Record) (hseq : argU16 a 0 ≠ 0)
    (hx : s.intervention.list.find? (·.seq == argU16 a 0) = some x)
    (hlevel : x.cause = .externalSilent → holds s t.station .technician = true) :
    releaseOwner t a s = if x.releasable = true then
        .reply .done (le 2 (argU16 a 0))
          (interventionEvent (Work.remove (·.seq == argU16 a 0)) (releaseState t.station x s))
      else .reply .refusedState [] (releaseState t.station x s) := by
  have hown : x.seq = argU16 a 0 := by simpa using List.find?_some hx
  have hpassed : releaseOwner t a s = releaseRecord x (releaseState t.station x s) := by
    unfold releaseOwner releaseState
    dsimp only
    rw [if_neg (by simp [hlimp]), if_neg (by simpa using hseq), hx]
    dsimp only
    by_cases hsilent : x.cause = .externalSilent
    · rw [if_pos (by simp [hsilent]), if_pos hsilent, checkLevel_passed _ _ _ _ (hlevel hsilent) (by decide)]
    · rw [if_neg (by simpa using hsilent), if_neg hsilent]
  rw [hpassed, releaseRecord, hown]
  rfl

variable (hlevel : holds s t.station .supervisor = true)
include hlevel

theorem overrideOwner_zero (hseq : argU16 a 0 = 0) :
    overrideOwner t a s = .reply .badArgument [] (renewGrant t.station s) := by
  simp [overrideOwner, hlimp, checkLevel_passed _ _ _ _ hlevel, hseq, refuse]

theorem overrideOwner_unknown (hseq : argU16 a 0 ≠ 0)
    (hnone : s.intervention.list.find? (·.seq == argU16 a 0) = none) :
    overrideOwner t a s = .reply .unknownRecord [] (renewGrant t.station s) := by
  simp [overrideOwner, hlimp, checkLevel_passed _ _ _ _ hlevel, hseq, hnone, refuse]

theorem overrideOwner_of_record (x : Record) (hseq : argU16 a 0 ≠ 0)
    (hx : s.intervention.list.find? (·.seq == argU16 a 0) = some x) :
    overrideOwner t a s = if x.kind = .limitStop ∧ (x.state = .confirmed ∨ x.state = .clearable)
        ∧ technicianOwned (renewGrant t.station s) x = false then
      .reply .done (le 2 (argU16 a 0) ++ le 2 300) (interventionEvent
        (Work.change (·.seq == argU16 a 0) (Record.setAside s.now) fun _ => true) (renewGrant t.station s))
      else .reply .refusedState [] (renewGrant t.station s) := by
  have hx' : (renewGrant t.station s).intervention.list.find? (·.seq == argU16 a 0) = some x := hx
  unfold overrideOwner
  dsimp only
  rw [if_neg (by simp [hlimp]), checkLevel_passed _ _ _ _ hlevel (by decide), if_neg (by simpa using hseq), hx']
  dsimp only
  have hrefused : (x.kind != .limitStop || !(x.state == .confirmed || x.state == .clearable)
      || technicianOwned (renewGrant t.station s) x) = true ↔ ¬ (x.kind = .limitStop
        ∧ (x.state = .confirmed ∨ x.state = .clearable) ∧ technicianOwned (renewGrant t.station s) x = false) := by
    simp [-not_and, Classical.not_and_iff_not_or_not, or_assoc]
  by_cases hstands : x.kind = .limitStop ∧ (x.state = .confirmed ∨ x.state = .clearable)
      ∧ technicianOwned (renewGrant t.station s) x = false
  · exact (if_neg (mt hrefused.1 (not_not.2 hstands))).trans (if_pos hstands).symm
  · exact (if_pos (hrefused.2 hstands)).trans (if_neg hstands).symm

theorem resumeOwner_eq : resumeOwner t a s = if s.intervention.supervision = .faulted
      ∧ s.intervention.confirmed = true ∧ s.intervention.confirmTimer = none then
    .reply .done ([0#8] ++ le 2 s.intervention.demandSeq.toNat)
      (endFault .cutUnconfirmed (valveStation (renewGrant t.station s))
        (setIntervention { s.intervention with supervision := .settled } (renewGrant t.station s)))
    else .reply .refusedState [] (renewGrant t.station s) := by
  unfold resumeOwner
  rw [if_neg (by simp [hlimp]), checkLevel_passed _ _ _ _ hlevel (by decide)]
  simp only [Bool.and_eq_true, beq_iff_eq, Option.isNone_iff_eq_none, and_assoc]
  rfl

end

/-! ## The commands -/

/-- The state of a taken RELEASE as its record is judged. -/
theorem releaseState_noted (code : Byte) (x : Record) (r : Request) (s : State) :
    releaseState (ticketOf code r s).station x (noted r s)
      = if x.cause = .externalSilent then leveled r s else noted r s := rfl

section
variable (r : Request) (s : State) (hlimp : limpOrHold s = false)
include hlimp

theorem exec_release_of_record (x : Record) (ht : taken 11#8 r s = true) (hseq : argU16 r.args 0 ≠ 0)
    (hx : s.intervention.list.find? (·.seq == argU16 r.args 0) = some x)
    (hlevel : x.cause = .externalSilent → holds s r.station .technician = true) :
    let u := if x.cause = .externalSilent then leveled r s else noted r s
    exec (.release r) s = if x.releasable = true then
        doneWith 11#8 (le 2 (argU16 r.args 0)) r s (interventionEvent (Work.remove (·.seq == argU16 r.args 0)) u)
      else repliedWith 11#8 .refusedState [] r s u := by
  intro u
  have ho := releaseOwner_of_record (ticketOf 11#8 r s) r.args (noted r s) (by simpa using hlimp) x hseq
    (by simpa using hx) (fun h => by rw [noted_holds]; exact hlevel h)
  rw [releaseState_noted] at ho
  split
  next h => exact repliedWith_of_owner 11#8 releaseOwner _ r s _ _ _ ht rfl (ho.trans (if_pos h))
  next h => exact repliedWith_of_owner 11#8 releaseOwner _ r s _ _ _ ht rfl (ho.trans (if_neg h))

variable (hlevel : holds s r.station .supervisor = true)
include hlevel

theorem exec_override_of_record (x : Record) (ht : taken 12#8 r s = true) (hseq : argU16 r.args 0 ≠ 0)
    (hx : s.intervention.list.find? (·.seq == argU16 r.args 0) = some x) :
    exec (.override r) s = if x.kind = .limitStop ∧ (x.state = .confirmed ∨ x.state = .clearable)
        ∧ technicianOwned s x = false then
      doneWith 12#8 (le 2 (argU16 r.args 0) ++ le 2 300) r s (interventionEvent
        (Work.change (·.seq == argU16 r.args 0) (Record.setAside s.now) fun _ => true) (leveled r s))
      else repliedWith 12#8 .refusedState [] r s (leveled r s) := by
  have ho := overrideOwner_of_record (ticketOf 12#8 r s) r.args (noted r s) (by simpa using hlimp)
    (by rw [noted_holds]; exact hlevel) x hseq (by simpa using hx)
  have howned : technicianOwned (renewGrant (ticketOf 12#8 r s).station (noted r s)) x = technicianOwned s x :=
    leveled_technicianOwned r s x
  rw [howned, noted_now] at ho
  split
  next h => exact repliedWith_of_owner 12#8 overrideOwner _ r s _ _ _ ht rfl (ho.trans (if_pos h))
  next h => exact repliedWith_of_owner 12#8 overrideOwner _ r s _ _ _ ht rfl (ho.trans (if_neg h))

theorem exec_resume (ht : taken 13#8 r s = true) :
    exec (.resume r) s = if s.intervention.supervision = .faulted
      ∧ s.intervention.confirmed = true ∧ s.intervention.confirmTimer = none then
    doneWith 13#8 ([0#8] ++ le 2 s.intervention.demandSeq.toNat) r s (endFault .cutUnconfirmed (valveStation s)
      (setIntervention { s.intervention with supervision := .settled } (leveled r s)))
    else repliedWith 13#8 .refusedState [] r s (leveled r s) := by
  have ho := resumeOwner_eq (ticketOf 13#8 r s) r.args (noted r s) (by simpa using hlimp)
    (by rw [noted_holds]; exact hlevel)
  have hvalve : valveStation (renewGrant (ticketOf 13#8 r s).station (noted r s)) = valveStation s :=
    leveled_valveStation r s
  rw [hvalve, noted_intervention] at ho
  split
  next h => exact repliedWith_of_owner 13#8 resumeOwner _ r s _ _ _ ht rfl (ho.trans (if_pos h))
  next h => exact repliedWith_of_owner 13#8 resumeOwner _ r s _ _ _ ht rfl (ho.trans (if_neg h))

end

theorem refusedBelow_override_resume :
    RefusedBelow .supervisor [(12#8, .override), (13#8, .resume)] := by
  refine refusedBelow_of_owners _ _ fun x hx => ?_
  simp only [List.mem_cons, List.not_mem_nil, or_false] at hx
  rcases hx with rfl | rfl
  · refine ⟨overrideOwner, fun _ _ => rfl, fun t a s hlimp _ hlevel => ?_⟩
    have hout := hlimp.resolve_left (by decide)
    simp [overrideOwner, hout, checkLevel_refused _ _ _ _ hlevel]
  · refine ⟨resumeOwner, fun _ _ => rfl, fun t a s hlimp _ hlevel => ?_⟩
    have hout := hlimp.resolve_left (by decide)
    simp [resumeOwner, hout, checkLevel_refused _ _ _ _ hlevel]

/-- Settles O38: each request's answer is its owner's at a taken request, by the record that it names. -/
theorem cutRequests : Obligations.CutRequests := by
  refine ⟨?_, fun r s hlimp hlevel => ⟨fun x ht hseq hx hkind hstate howned => ?_, fun ht hfaulted hconf htimer => ?_,
      fun ht hseq => ?_, fun ht hseq hnone => ?_, fun x ht hseq hx hbad => ?_, fun ht hbad => ?_⟩,
    refusedBelow_override_resume, ?_, ?_, releasable_iff, technicianOwned_iff⟩
  · intro r s x ht hlimp seq u hseq hx hreleasable hlevel
    refine ⟨(exec_release_of_record r s hlimp x ht hseq hx hlevel).trans (if_pos hreleasable), ?_⟩
    have hu : u.intervention = s.intervention := by
      simp only [u]
      split
      · exact leveled_intervention r s
      · exact noted_intervention r s
    rw [Work.remove_intervention, hu]
  · exact (exec_override_of_record r s hlimp hlevel x ht hseq hx).trans (if_pos ⟨hkind, hstate, howned⟩)
  · exact (exec_resume r s hlimp hlevel ht).trans (if_pos ⟨hfaulted, hconf, htimer⟩)
  · exact repliedWith_of_owner 12#8 overrideOwner _ r s _ _ _ ht rfl
      (overrideOwner_zero _ _ _ (by simpa using hlimp) (by rw [noted_holds]; exact hlevel) hseq)
  · exact repliedWith_of_owner 12#8 overrideOwner _ r s _ _ _ ht rfl
      (overrideOwner_unknown _ _ _ (by simpa using hlimp) (by rw [noted_holds]; exact hlevel) hseq
        (by simpa using hnone))
  · refine (exec_override_of_record r s hlimp hlevel x ht hseq hx).trans (if_neg ?_)
    rintro ⟨hkind, hstate, howned⟩
    rcases hbad with h | ⟨hconf, hclear⟩ | h
    · exact h hkind
    · exact hstate.elim hconf hclear
    · simp [howned] at h
  · refine (exec_resume r s hlimp hlevel ht).trans (if_neg ?_)
    rintro ⟨hfaulted, hconf, htimer⟩
    rcases hbad with h | h | h
    · exact h hfaulted
    · simp [hconf] at h
    · exact h htimer
  · intro r s ht hlimp seq
    have hlimp' : limpOrHold (noted r s) = false := by simpa using hlimp
    refine ⟨fun hseq => ?_, fun hseq hnone => ?_, fun x hseq hx hsilent hlevel => ?_⟩
    · exact repliedWith_of_owner 11#8 releaseOwner _ r s _ _ _ ht rfl (releaseOwner_zero _ _ _ hlimp' hseq)
    · exact repliedWith_of_owner 11#8 releaseOwner _ r s _ _ _ ht rfl
        (releaseOwner_unknown _ _ _ hlimp' hseq (by simpa using hnone))
    · exact repliedWith_of_owner 11#8 releaseOwner _ r s _ _ _ ht rfl
        (releaseOwner_below _ _ _ hlimp' x hseq (by simpa using hx) hsilent (by rw [noted_holds]; exact hlevel))
  · intro r s x ht hlimp seq hseq hx hstays hlevel
    exact (exec_release_of_record r s hlimp x ht hseq hx hlevel).trans (if_neg (by simp [hstays]))

end Sys2Proof.Machine
end

section
/-! PROOFS. SET_CLOCK and SET_TRIM with their refusals, and what a set of the clock makes in the Time Base, the Economy
Unit and the Service Unit (R105, R108 to R111, R114, R115, R144). -/

namespace Sys2Proof.Machine

/-! ## Clock times and second lengths (R108 to R110) -/

theorem clockTime_ok_iff (t : ClockTime) : t.ok = true ↔ t.second ≤ 59 ∧ t.minute ≤ 59 ∧ t.hour ≤ 23
    ∧ t.dayOfWeek ≤ 6 ∧ 2000 ≤ t.year ∧ t.year ≤ 2099 ∧ 1 ≤ t.month ∧ t.month ≤ 12 ∧ 1 ≤ t.date
    ∧ t.date ≤ monthLength t.month t.year := by
  simp only [ClockTime.ok, dateExists, Bool.and_eq_true, decide_eq_true_eq, and_assoc]

theorem secondLength_eq (second : Nat) (trim : Int) :
    secondLength second trim = if second = 29 ∨ second = 59 then (32768 - trim).toNat else 32768 := by
  simp [secondLength]

/-! ## What a calendar evaluation and a day-record job leave alone -/

/-- The clock, the meters and the accounts of the Economy Unit. -/
def accounts (s : State) : TimeBase × MeterUnit × EconomyUnit := (s.time, s.meter, s.economy)

@[simp] theorem accounts_setItem (i : Nat) (x : ServiceItem) (s : State) :
    accounts (setItem i x s) = accounts s := rfl
@[simp] theorem accounts_formDerate (s : State) : accounts (formDerate s) = accounts s := rfl

@[simp] theorem accounts_queueServiceNotice (i : Nat) (x : ServiceItem) (k : ServiceNoticeKind) (s : State) :
    accounts (queueServiceNotice i x k s) = accounts s := by
  unfold queueServiceNotice
  split <;> rfl

@[simp] theorem accounts_wantServiceJob (s : State) : accounts (wantServiceJob s) = accounts s := by
  unfold wantServiceJob
  split
  · rfl
  · split <;> rfl

@[simp] theorem accounts_restand (i : Nat) (x : ServiceItem) (m d : Standing) (s : State) :
    accounts (restand i x m d s) = accounts s := by
  unfold restand
  dsimp only
  repeat' split
  all_goals simp

theorem accounts_serviceCalendar (s : State) : accounts (serviceCalendar s) = accounts s := by
  unfold serviceCalendar
  split
  · rfl
  · refine foldl_keeps accounts _ (fun u i => ?_) _ s
    split
    · exact accounts_restand ..
    · rfl

/-- A want of a day-record job touches the queue and its own mark alone. -/
theorem wantDayJob_left (s : State) : (wantDayJob s).economy.days = s.economy.days
    ∧ (wantDayJob s).time = s.time ∧ (wantDayJob s).meter = s.meter := by
  unfold wantDayJob
  split
  · exact ⟨rfl, rfl, rfl⟩
  · split <;> exact ⟨rfl, rfl, rfl⟩

/-! ## A set of the clock (R115) -/

/-- The Time Base as a set leaves it. -/
def timeSet (t : ClockTime) (src : SetSource) (s : State) : TimeBase := { s.time with
  clock := t, prescaler := 0, carried := 0, length := secondLength t.second s.time.trim, unsetCause := none
  lastSet := ⟨src, some (clampInt (-3155759999) 3155759999
    ((secondNumber t : Int) - secondNumber s.time.clock)), some t⟩ }

/-- The day accounts of a set that leaves the date: the open record is marked. -/
def daysMarked (s : State) : DayArea :=
  { s.economy.days with opened := { s.economy.days.opened with clockSet := true } }

/-- The state in which the Economy Unit finds that a set leaves the date or moves it. -/
def clockMarked (t : ClockTime) (src : SetSource) (s : State) : State :=
  { s with time := timeSet t src s, economy := { s.economy with days := daysMarked s } }

/-- The Economy Unit's part of a set: the marked record closes when the date moves. -/
def economySet (t : ClockTime) (src : SetSource) (s : State) : State :=
  if s.time.clock.day = t.day then clockMarked t src s
  else wantDayJob (setDays (fun a => a.close (some t.day)) (clockMarked t src s))

theorem setClockTo_eq (t : ClockTime) (src : SetSource) (s : State) :
    setClockTo t src s = endFault .clockUnset timeBlock (serviceCalendar (economySet t src s)) := by
  have heconomy : economyClockSet s.time.clock.day (setTime (timeSet t src s) s) = economySet t src s := by
    unfold economyClockSet economySet
    simp only [beq_iff_eq]
    rfl
  rw [← heconomy]
  rfl

/-- The Time Base and the meters after the Economy Unit's part. -/
theorem economySet_left (t : ClockTime) (src : SetSource) (s : State) :
    (economySet t src s).time = timeSet t src s ∧ (economySet t src s).meter = s.meter := by
  unfold economySet
  split
  · exact ⟨rfl, rfl⟩
  · obtain ⟨-, htime, hmeter⟩ := wantDayJob_left (setDays (fun a => a.close (some t.day)) (clockMarked t src s))
    exact ⟨htime, hmeter⟩

theorem economySet_days (t : ClockTime) (src : SetSource) (s : State) :
    (economySet t src s).economy.days
      = if s.time.clock.day = t.day then daysMarked s else (daysMarked s).close (some t.day) := by
  unfold economySet
  split
  · rfl
  · exact (wantDayJob_left _).1

/-- The calendar evaluation of a set: the clock is Running, so every item in use is evaluated over the date. -/
theorem serviceCalendar_economySet (t : ClockTime) (src : SetSource) (s : State) :
    serviceCalendar (economySet t src s) = forItems (fun i item u =>
      restand i item item.meterStanding (dayStandingOf item t.day) u) (economySet t src s) := by
  have hdated : datedNow (economySet t src s) = some t.day := by
    rw [datedNow_eq, (economySet_left t src s).1]
    rfl
  unfold serviceCalendar
  rw [hdated]

/-- What a set of the clock leaves of the Time Base, the meters and the day accounts. -/
theorem setClockTo_accounts (t : ClockTime) (src : SetSource) (s : State) :
    (setClockTo t src s).time = timeSet t src s ∧ (setClockTo t src s).meter = s.meter
      ∧ (setClockTo t src s).economy.days
        = if s.time.clock.day = t.day then daysMarked s else (daysMarked s).close (some t.day) := by
  have h : accounts (setClockTo t src s) = accounts (economySet t src s) := by
    rw [setClockTo_eq]
    exact accounts_serviceCalendar _
  obtain ⟨htime, hmeter⟩ := economySet_left t src s
  exact ⟨(congrArg (·.1) h).trans htime, (congrArg (·.2.1) h).trans hmeter,
    (congrArg (·.2.2.days) h).trans (economySet_days t src s)⟩

/-! ## The owners' answers (R111, R114) -/

section
variable (t : Ticket) (a : List Byte) (s : State) (hlimp : limpOrHold s = false)
include hlimp

theorem setClockOwner_eq (hlevel : holds s t.station .supervisor = true) :
    setClockOwner t a s = if (clockArgs a).ok = false then .reply .badArgument [] (renewGrant t.station s)
      else if s.time.stopped = true then .reply .refusedState [] (renewGrant t.station s)
      else .reply .done (timeBytes (some (clockArgs a)) ++ [1#8])
        (setClockTo (clockArgs a) .setClock (renewGrant t.station s)) := by
  unfold setClockOwner
  rw [if_neg (by simp [hlimp]), checkLevel_passed _ _ _ _ hlevel (by decide)]
  simp only [Bool.not_eq_true']
  rfl

theorem setTrimOwner_eq (hlevel : holds s t.station .technician = true) :
    setTrimOwner t a s = if -100 ≤ (arg8 a 0).toInt ∧ (arg8 a 0).toInt ≤ 100 then
        .reply .done (le 1 (arg8 a 0).toInt)
          (setTime { s.time with trim := (arg8 a 0).toInt, trimLoaded := true } (renewGrant t.station s))
      else .reply .badArgument [] (renewGrant t.station s) := by
  unfold setTrimOwner
  dsimp only
  rw [if_neg (by simp [hlimp]), checkLevel_passed _ _ _ _ hlevel (by decide)]
  by_cases hrange : -100 ≤ (arg8 a 0).toInt ∧ (arg8 a 0).toInt ≤ 100
  · rw [if_neg (by simp [within, hrange]), if_pos hrange]
    rfl
  · rw [if_neg hrange, if_pos (by simp [within]; omega)]
    rfl

end

/-! ## The commands -/

section
variable (r : Request) (s : State) (hlimp : limpOrHold s = false)
include hlimp

theorem exec_setClock (ht : taken 18#8 r s = true) (hlevel : holds s r.station .supervisor = true) :
    exec (.setClock r) s
      = if (clockArgs r.args).ok = false then repliedWith 18#8 .badArgument [] r s (leveled r s)
        else if s.time.stopped = true then repliedWith 18#8 .refusedState [] r s (leveled r s)
        else doneWith 18#8 (timeBytes (some (clockArgs r.args)) ++ [1#8]) r s
          (setClockTo (clockArgs r.args) .setClock (leveled r s)) := by
  have ho := setClockOwner_eq (ticketOf 18#8 r s) r.args (noted r s) (by simpa using hlimp)
    (by rw [noted_holds]; exact hlevel)
  rw [noted_time] at ho
  refine (congrArg (fun u => Host.Outcome.next (settle s u)) (takeRequest_taken 18#8 setClockOwner r s ht)).trans ?_
  rw [ho]
  split
  · rfl
  · split <;> rfl

theorem exec_setTrim (ht : taken 19#8 r s = true) (hlevel : holds s r.station .technician = true) :
    exec (.setTrim r) s = if -100 ≤ (arg8 r.args 0).toInt ∧ (arg8 r.args 0).toInt ≤ 100 then
        doneWith 19#8 (le 1 (arg8 r.args 0).toInt) r s
          (setTime { s.time with trim := (arg8 r.args 0).toInt, trimLoaded := true } (leveled r s))
      else repliedWith 19#8 .badArgument [] r s (leveled r s) := by
  have ho := setTrimOwner_eq (ticketOf 19#8 r s) r.args (noted r s) (by simpa using hlimp)
    (by rw [noted_holds]; exact hlevel)
  rw [noted_time] at ho
  refine (congrArg (fun u => Host.Outcome.next (settle s u)) (takeRequest_taken 19#8 setTrimOwner r s ht)).trans ?_
  rw [ho]
  split <;> rfl

end

theorem refusedBelow_setClock : RefusedBelow .supervisor [(18#8, .setClock)] := by
  refine refusedBelow_of_owners _ _ fun x hx => ?_
  obtain rfl := List.mem_singleton.1 hx
  refine ⟨setClockOwner, fun _ _ => rfl, fun t a s hlimp _ hlevel => ?_⟩
  simp [setClockOwner, hlimp.resolve_left (by decide), checkLevel_refused _ _ _ _ hlevel]

theorem refusedBelow_setTrim : RefusedBelow .technician [(19#8, .setTrim)] := by
  refine refusedBelow_of_owners _ _ fun x hx => ?_
  obtain rfl := List.mem_singleton.1 hx
  refine ⟨setTrimOwner, fun _ _ => rfl, fun t a s hlimp _ hlevel => ?_⟩
  simp [setTrimOwner, hlimp.resolve_left (by decide), checkLevel_refused _ _ _ _ hlevel]

theorem refusedInHold_clock : RefusedInHold [(18#8, .setClock), (19#8, .setTrim)] := by
  refine refusedInHold_of_owners _ fun x hx => ?_
  simp only [List.mem_cons, List.not_mem_nil, or_false] at hx
  rcases hx with rfl | rfl
  · exact ⟨setClockOwner, fun _ _ => rfl, fun t a s hhold => by simp [setClockOwner, limpOrHold, hhold, refuse]⟩
  · exact ⟨setTrimOwner, fun _ _ => rfl, fun t a s hhold => by simp [setTrimOwner, limpOrHold, hhold, refuse]⟩

/-- Settles O41: the answers of the two owners, then a set of the clock by the Economy Unit's and the Service Unit's
parts of it. -/
theorem clockSets : Obligations.ClockSets := by
  refine ⟨fun r s hlimp => ⟨fun ht hlevel hok hruns => ?_, fun ht hlevel hlow hhigh => ?_,
      fun ht hlevel hbad => ?_, fun ht hlevel hok hstopped => ?_, fun ht hlevel hbad => ?_⟩,
    refusedBelow_setClock, refusedBelow_setTrim, refusedInHold_clock, fun a => rfl, fun t => ?_, secondLength_eq,
    fun t src s => ?_, fun t src s => ?_⟩
  · rw [exec_setClock r s hlimp ht hlevel, if_neg (by simp [hok]), if_neg (by simp [hruns])]
  · rw [exec_setTrim r s hlimp ht hlevel, if_pos ⟨hlow, hhigh⟩]
  · rw [exec_setClock r s hlimp ht hlevel, if_pos hbad]
  · rw [exec_setClock r s hlimp ht hlevel, if_neg (by simp [hok]), if_pos hstopped]
  · rw [exec_setTrim r s hlimp ht hlevel, if_neg (by omega)]
  · rw [clockTime_ok_iff]
    unfold monthLength leapYear
    simp only [beq_iff_eq] <;> rfl
  · intro u
    obtain ⟨htime, hmeter, hdays⟩ := setClockTo_accounts t src s
    refine ⟨htime, hmeter, ?_, fun hday => ?_, fun hday => ?_⟩
    · rw [hdays]
      split <;> rfl
    · rw [hdays, if_pos hday]
      rfl
    · rw [hdays, if_neg hday]
      rfl
  · intro days first marked records closed economyDone evaluated
    rw [setClockTo_eq, serviceCalendar_economySet]
    rfl

end Sys2Proof.Machine
end

section
/-! PROOFS. RESTART, CLEAR_FAULTS and WRITE_IMAGE with their refusals, and the end of a condition: the place that it
frees in a full list goes to the lowest unentered condition (R176, R177, R179, R186, R190). -/

namespace Sys2Proof.Machine

/-! ## Entries by their names -/

theorem names_iff (code : FaultCode) (src : FaultSource) (e : FaultEntry) :
    FaultEntry.names code src e = true ↔ e.code = code ∧ e.source = src := by
  simp [FaultEntry.names]

/-- In a list of distinct entries, a name finds its entry. -/
theorem find?_names_of_mem (l : List FaultEntry) (hdistinct : distinctFaults l = true) (e : FaultEntry) (he : e ∈ l) :
    l.find? (FaultEntry.names e.code e.source) = some e := by
  induction l with
  | nil => cases he
  | cons x l ih =>
    obtain ⟨hx, hl⟩ := Bool.and_eq_true_iff.1 hdistinct
    rcases List.mem_cons.1 he with rfl | he
    · exact List.find?_cons_of_pos ((names_iff ..).2 ⟨rfl, rfl⟩)
    · refine (List.find?_cons_of_neg fun hname => ?_).trans (ih hl he)
      obtain ⟨hcode, hsource⟩ := (names_iff ..).1 hname
      have hsame : l.any (FaultEntry.names x.code x.source) = true :=
        List.any_eq_true.2 ⟨e, he, (names_iff ..).2 ⟨hcode.symm, hsource.symm⟩⟩
      simp [hsame] at hx

/-- The entries with one condition ended. -/
def endedEntries (code : FaultCode) (src : FaultSource) (l : List FaultEntry) : List FaultEntry :=
  mapWhere (FaultEntry.names code src) (fun e => { e with active := false }) l

theorem endedEntries_eq (code : FaultCode) (src : FaultSource) (l : List FaultEntry) :
    endedEntries code src l
      = l.map fun e => if e.code = code ∧ e.source = src then { e with active := false } else e := by
  simp only [endedEntries, mapWhere, names_iff]

theorem length_endedEntries (code : FaultCode) (src : FaultSource) (l : List FaultEntry) :
    (endedEntries code src l).length = l.length := by simp [endedEntries, mapWhere]

/-- Ending a condition leaves every name listed as it was. -/
theorem any_names_endedEntries (code c : FaultCode) (src d : FaultSource) (l : List FaultEntry) :
    (endedEntries code src l).any (FaultEntry.names c d) = l.any (FaultEntry.names c d) := by
  have hname (e : FaultEntry) : FaultEntry.names c d
      (if FaultEntry.names code src e = true then { e with active := false } else e) = FaultEntry.names c d e := by
    split <;> rfl
  simp only [endedEntries, mapWhere, List.any_map, Function.comp_def, hname]

/-- With every entry Active, the first Inactive one after an end is the one that ended. -/
theorem eraseFirst_endedEntries (e : FaultEntry) (l : List FaultEntry) (hdistinct : distinctFaults l = true)
    (hactive : l.all (·.active) = true) (he : e ∈ l) :
    eraseFirst (fun x => !x.active) (endedEntries e.code e.source l)
      = l.filter fun x => !FaultEntry.names e.code e.source x := by
  induction l with
  | nil => cases he
  | cons x l ih =>
    obtain ⟨hx, hl⟩ := Bool.and_eq_true_iff.1 hdistinct
    obtain ⟨hxactive, hlactive⟩ := Bool.and_eq_true_iff.1 hactive
    by_cases hname : FaultEntry.names e.code e.source x = true
    · obtain ⟨hcode, hsource⟩ := (names_iff ..).1 hname
      have hothers : ∀ y ∈ l, ¬ FaultEntry.names e.code e.source y = true := by
        rw [← hcode, ← hsource]
        simpa using hx
      have hkept : endedEntries e.code e.source l = l := by
        refine (List.map_congr_left fun y hy => ?_).trans (List.map_id l)
        exact if_neg (hothers y hy)
      have hfilter : (l.filter fun y => !FaultEntry.names e.code e.source y) = l :=
        List.filter_eq_self.2 fun y hy => by simpa using hothers y hy
      rw [List.filter_cons_of_neg (by simp [hname]), hfilter]
      show eraseFirst _ ((if FaultEntry.names e.code e.source x = true then { x with active := false } else x)
        :: endedEntries e.code e.source l) = l
      rw [if_pos hname, hkept]
      rfl
    · have he : e ∈ l := (List.mem_cons.1 he).resolve_left fun h => hname ((names_iff ..).2 (h ▸ ⟨rfl, rfl⟩))
      rw [List.filter_cons_of_pos (by simpa using hname), ← ih hl hlactive he]
      show eraseFirst _ ((if FaultEntry.names e.code e.source x = true then { x with active := false } else x)
        :: endedEntries e.code e.source l) = _
      rw [if_neg hname, eraseFirst, if_neg (by simpa using hxactive)]

/-! ## Reports to a full list, and the offering of places (R175, R177) -/

theorem takeReport_refused (l : List FaultEntry) (code : FaultCode) (src : FaultSource) (stamp : Option ClockTime)
    (hnew : l.any (FaultEntry.names code src) = false) (hfull : l.length = 20) (hactive : l.all (·.active) = true) :
    takeReport l code src stamp = none := by
  have hnone : l.any (fun e => !e.active) = false := by
    simpa [List.any_eq_false] using hactive
  unfold takeReport
  dsimp only
  rw [if_neg (by simp [hnew]), if_neg (by omega), if_neg (by simp [hnone])]

theorem takeReport_replaces (l : List FaultEntry) (code : FaultCode) (src : FaultSource) (stamp : Option ClockTime)
    (hnew : l.any (FaultEntry.names code src) = false) (hfull : l.length = 20)
    (hinactive : l.any (fun e => !e.active) = true) :
    takeReport l code src stamp
      = some (eraseFirst (fun e => !e.active) l ++ [⟨code, src, true, 1, stamp, stamp⟩]) := by
  unfold takeReport
  dsimp only
  rw [if_neg (by simp [hnew]), if_neg (by omega), if_pos hinactive]

theorem lowestUnentered_mem (w : List (FaultCode × FaultSource)) (d : FaultCode × FaultSource)
    (h : lowestUnentered w = some d) : d ∈ w := by
  induction w generalizing d with
  | nil => cases h
  | cons x w ih =>
    unfold lowestUnentered at h
    split at h
    · cases h
      exact List.mem_cons_self
    · next c hc =>
      split at h
      · cases h
        exact List.mem_cons_self
      · cases h
        exact List.mem_cons_of_mem x (ih _ hc)

/-- A condition below every other one is the one found. -/
theorem lowestUnentered_least (w : List (FaultCode × FaultSource)) (c : FaultCode × FaultSource) (hc : c ∈ w)
    (hleast : ∀ d ∈ w, d ≠ c → c.1.num < d.1.num ∨ (c.1.num = d.1.num ∧ c.2.num < d.2.num)) :
    lowestUnentered w = some c := by
  induction w with
  | nil => cases hc
  | cons x w ih =>
    unfold lowestUnentered
    by_cases hcw : c ∈ w
    · rw [ih hcw fun d hd => hleast d (List.mem_cons_of_mem x hd)]
      dsimp only
      by_cases hxc : x = c
      · rw [hxc, ite_self]
      · have hlow := hleast x List.mem_cons_self hxc
        rw [if_neg]
        simp only [Bool.or_eq_true, Bool.and_eq_true, decide_eq_true_eq, beq_iff_eq]
        omega
    · obtain rfl : c = x := (List.mem_cons.1 hc).resolve_right hcw
      split
      · rfl
      · next d hd =>
        have hdw := lowestUnentered_mem w d hd
        have hlow := hleast d (List.mem_cons_of_mem c hdw) fun h => hcw (h ▸ hdw)
        rw [if_pos]
        simp only [Bool.or_eq_true, Bool.and_eq_true, decide_eq_true_eq, beq_iff_eq]
        omega

/-- Conditions that a full list of Active entries leaves unentered. -/
def Stuck (d : DiagnosticList) : Prop := d.entries.length = 20 ∧ d.entries.all (·.active) = true
  ∧ ∀ c ∈ d.unentered, d.entries.any (FaultEntry.names c.1 c.2) = false

theorem offerPlaces_stuck (stamp : Option ClockTime) (n : Nat) (d : DiagnosticList) (h : Stuck d) :
    offerPlaces stamp n d = d := by
  obtain ⟨hfull, hactive, hnew⟩ := h
  cases n with
  | zero => rfl
  | succ n =>
    unfold offerPlaces
    split
    · rfl
    · next c hc => rw [takeReport_refused _ _ _ stamp (hnew c (lowestUnentered_mem _ c hc)) hfull hactive]

theorem offerPlaces_attention (stamp : Option ClockTime) (n : Nat) (d : DiagnosticList)
    (h : d.attention = attentionOf d.entries) :
    (offerPlaces stamp n d).attention = attentionOf (offerPlaces stamp n d).entries := by
  induction n generalizing d with
  | zero => exact h
  | succ n ih =>
    unfold offerPlaces
    split
    · exact h
    · split
      · exact h
      · exact ih _ rfl

/-! ## The laws of the list, taken apart -/

section
variable {s : State}

theorem distinct_of_faultLaw (h : faultLaw s = true) : distinctFaults s.diag.entries = true :=
  (Bool.and_eq_true_iff.1 (Bool.and_eq_true_iff.1 h).1).2

theorem attention_of_faultLaw (h : faultLaw s = true) : s.diag.attention = attentionOf s.diag.entries :=
  eq_of_beq (Bool.and_eq_true_iff.1 h).2

theorem nodup_of_unenteredLaw (h : unenteredLaw s = true) : s.diag.unentered.Nodup :=
  of_decide_eq_true (Bool.and_eq_true_iff.1 (Bool.and_eq_true_iff.1 h).1).1

/-- While conditions wait, the list is full, all of it Active, and lists none of them. -/
theorem stuck_of_unenteredLaw (h : unenteredLaw s = true) (hwait : s.diag.unentered ≠ []) : Stuck s.diag := by
  obtain ⟨hhead, hroom⟩ := Bool.and_eq_true_iff.1 h
  obtain ⟨-, hnew⟩ := Bool.and_eq_true_iff.1 hhead
  have hfull : (s.diag.entries.length == 20 && s.diag.entries.all (·.active)) = true :=
    (Bool.or_eq_true_iff.1 hroom).resolve_left (by simpa using hwait)
  obtain ⟨hlen, hactive⟩ := Bool.and_eq_true_iff.1 hfull
  exact ⟨eq_of_beq hlen, hactive, fun c hc => by simpa using List.all_eq_true.1 hnew c hc⟩

end

/-! ## The end of a condition (R176, R177) -/

theorem endIn_unlisted (d : DiagnosticList) (stamp : Option ClockTime) (code : FaultCode) (src : FaultSource)
    (h : d.entries.any (FaultEntry.names code src) = false) :
    endIn d stamp code src = { d with unentered := d.unentered.erase (code, src) } := by
  have hnone : d.entries.find? (FaultEntry.names code src) = none := by
    simpa [List.find?_eq_none, List.any_eq_false] using h
  unfold endIn
  rw [hnone]

theorem endIn_attention (d : DiagnosticList) (stamp : Option ClockTime) (code : FaultCode) (src : FaultSource)
    (h : d.attention = attentionOf d.entries) :
    (endIn d stamp code src).attention = attentionOf (endIn d stamp code src).entries := by
  unfold endIn
  split
  · exact h
  · split
    · dsimp only
      split
      · rfl
      · exact offerPlaces_attention _ _ _ rfl
    · exact h

section
variable (d : DiagnosticList) (stamp : Option ClockTime) (e : FaultEntry) (he : e ∈ d.entries)
  (hdistinct : distinctFaults d.entries = true)
include he hdistinct

theorem endIn_inactive (hend : e.active = false) : endIn d stamp e.code e.source = d := by
  unfold endIn
  rw [find?_names_of_mem _ hdistinct e he]
  dsimp only
  rw [if_neg (by simp [hend])]

theorem endIn_active (hactive : e.active = true) : endIn d stamp e.code e.source =
    let ended := formDiag (endedEntries e.code e.source d.entries) d.unentered
    if (endedEntries e.code e.source d.entries).length < 20 then ended
      else offerPlaces stamp d.unentered.length ended := by
  unfold endIn
  rw [find?_names_of_mem _ hdistinct e he]
  dsimp only
  rw [if_pos hactive]
  rfl

/-- With no condition waiting, the entry goes Inactive and no place is offered. -/
theorem endIn_none_waiting (hactive : e.active = true) (hnone : d.unentered = []) :
    endIn d stamp e.code e.source = formDiag (endedEntries e.code e.source d.entries) [] := by
  rw [endIn_active d stamp e he hdistinct hactive, hnone]
  exact ite_self _

/-- In a list on which conditions wait, the lowest of them takes the place that the end frees. -/
theorem endIn_lowest_enters (hstuck : Stuck d) (hnodup : d.unentered.Nodup) (c : FaultCode × FaultSource)
    (hc : c ∈ d.unentered)
    (hleast : ∀ x ∈ d.unentered, x ≠ c → c.1.num < x.1.num ∨ (c.1.num = x.1.num ∧ c.2.num < x.2.num)) :
    endIn d stamp e.code e.source = formDiag
      ((d.entries.filter fun x => !FaultEntry.names e.code e.source x) ++ [⟨c.1, c.2, true, 1, stamp, stamp⟩])
      (d.unentered.erase c) := by
  obtain ⟨hfull, hall, hnew⟩ := hstuck
  have hactive : e.active = true := List.all_eq_true.1 hall e he
  have hlen : (endedEntries e.code e.source d.entries).length = 20 := (length_endedEntries ..).trans hfull
  have hinactive : (endedEntries e.code e.source d.entries).any (fun x => !x.active) = true := by
    refine List.any_eq_true.2 ⟨{ e with active := false }, List.mem_map.2 ⟨e, he, ?_⟩, rfl⟩
    exact if_pos ((names_iff ..).2 ⟨rfl, rfl⟩)
  obtain ⟨n, hn⟩ : ∃ n, d.unentered.length = n + 1 :=
    Nat.exists_eq_succ_of_ne_zero (List.length_pos_of_mem hc).ne'
  have herase := eraseFirst_endedEntries e d.entries hdistinct hall he
  have htaken : takeReport (endedEntries e.code e.source d.entries) c.1 c.2 stamp
      = some ((d.entries.filter fun x => !FaultEntry.names e.code e.source x)
        ++ [⟨c.1, c.2, true, 1, stamp, stamp⟩]) := by
    rw [takeReport_replaces _ _ _ stamp ((any_names_endedEntries ..).trans (hnew c hc)) hlen hinactive, herase]
  have hstuck' : Stuck (formDiag ((d.entries.filter fun x => !FaultEntry.names e.code e.source x)
      ++ [⟨c.1, c.2, true, 1, stamp, stamp⟩]) (d.unentered.erase c)) := by
    refine ⟨?_, ?_, fun x hx => ?_⟩
    · have hshort := length_eraseFirst _ _ hinactive
      rw [herase, hlen] at hshort
      simpa [formDiag] using hshort
    · simp only [formDiag, List.all_append, List.all_cons, List.all_nil, Bool.and_true, List.all_eq_true]
      exact fun x hx => List.all_eq_true.1 hall x (List.mem_of_mem_filter hx)
    · obtain ⟨hne, hx⟩ := hnodup.mem_erase_iff.1 hx
      have hold : (d.entries.filter fun x => !FaultEntry.names e.code e.source x).any (FaultEntry.names x.1 x.2)
          = false := by
        have hunlisted := List.any_eq_false.1 (hnew x hx)
        exact List.any_eq_false.2 fun y hy => hunlisted y (List.mem_of_mem_filter hy)
      have hother : FaultEntry.names x.1 x.2 ⟨c.1, c.2, true, 1, stamp, stamp⟩ = false := by
        refine Bool.eq_false_iff.2 fun h => hne ?_
        obtain ⟨hcode, hsource⟩ := (names_iff ..).1 h
        exact (Prod.ext hcode hsource).symm
      simp [formDiag, hold, hother]
  rw [endIn_active d stamp e he hdistinct hactive]
  dsimp only
  rw [if_neg (by omega), hn, offerPlaces]
  dsimp only [formDiag]
  rw [lowestUnentered_least _ c hc hleast]
  dsimp only
  rw [htaken]
  exact offerPlaces_stuck stamp n _ hstuck'

end

/-- CLEAR_FAULTS leaves the Active entries: conditions wait only while every entry is Active. -/
theorem clearInactive_entries (s : State) (stamp : Option ClockTime) (h : unenteredLaw s = true) :
    (clearInactive s.diag stamp).entries = s.diag.entries.filter (·.active) := by
  unfold clearInactive
  dsimp only
  split
  next hshort =>
    have hnone : s.diag.unentered = [] := by
      by_contra hwait
      obtain ⟨-, hactive, -⟩ := stuck_of_unenteredLaw h hwait
      rw [List.filter_eq_self.2 (List.all_eq_true.1 hactive)] at hshort
      exact Nat.lt_irrefl _ hshort
    rw [hnone]
    rfl
  next => rfl

/-! ## The owners' answers (R179, R186, R190) -/

theorem restartWait_first (t : Ticket) (s : State) (h : s.restart = none) : restartWait t s
    = ⟨[t.station], s.now + 200, if s.bus.ring.length < 8 then [s.bus.nextId] else [], false⟩ := by
  rw [restartWait, h]

theorem restartWait_joins (t : Ticket) (s : State) (w : RestartWait) (h : s.restart = some w) :
    restartWait t s = { w with stations := w.stations ++ [t.station] } := by
  rw [restartWait, h]

theorem restartOwner_eq (t : Ticket) (a : List Byte) (s : State) : restartOwner t a s =
    if ∃ w, s.restart = some w ∧ w.stations.contains t.station = true then .reply .busy [] s
    else if s.meter.keyOffTaken = true then .reply .refusedState [] s
    else if holds s t.station .technician = true then
      .reply .done [] { renewGrant t.station s with restart := some (restartWait t (renewGrant t.station s)) }
    else .reply .refusedLevel [] s := by
  have hwaits : s.restart.any (fun w => w.stations.contains t.station) = true
      ↔ ∃ w, s.restart = some w ∧ w.stations.contains t.station = true := by
    cases s.restart <;> simp
  unfold restartOwner
  simp only [hwaits]
  rfl

section
variable (t : Ticket) (a : List Byte) (s : State) (hout : inHold s = false)
  (hlevel : holds s t.station .technician = true)
include hout hlevel

theorem clearFaultsOwner_eq : clearFaultsOwner t a s =
    let d := clearInactive s.diag (stampNow s)
    .reply .done (le 2 (s.diag.entries.filter fun e => !e.active).length ++ le 2 d.entries.length)
      { renewGrant t.station s with diag := d } := by
  unfold clearFaultsOwner
  rw [if_neg (by simp [hout]), checkLevel_passed _ _ _ _ hlevel (by decide)]
  rfl

theorem writeImageOwner_eq : writeImageOwner t a s =
    if engineRunning s = true then .reply .refusedState [] (renewGrant t.station s)
    else if 2047 < argU16 a 0 then .reply .badArgument [] (renewGrant t.station s)
    else if 6 ≤ s.store.queue.length then .reply .busy [] (renewGrant t.station s)
    else .flight (queueJob (.imageBlock (argU16 a 0) (argU32 a 2) t) (renewGrant t.station s)) := by
  have hplace : (!placeFree (renewGrant t.station s)) = true ↔ 6 ≤ s.store.queue.length := by
    show (!decide (s.store.queue.length < 6)) = true ↔ _
    simp
  unfold writeImageOwner
  rw [if_neg (by simp [hout]), checkLevel_passed _ _ _ _ hlevel (by decide)]
  simp only [hplace]
  rfl

end

/-! ## The commands -/

theorem exec_restart (r : Request) (s : State) (ht : taken 3#8 r s = true) : exec (.restart r) s =
    if ∃ w, s.restart = some w ∧ w.stations.contains r.station = true then
      repliedWith 3#8 .busy [] r s (noted r s)
    else if s.meter.keyOffTaken = true then repliedWith 3#8 .refusedState [] r s (noted r s)
    else if holds s r.station .technician = true then
      doneWith 3#8 [] r s { leveled r s with restart := some (restartWait (ticketOf 3#8 r s) (leveled r s)) }
    else repliedWith 3#8 .refusedLevel [] r s (noted r s) := by
  have ho := restartOwner_eq (ticketOf 3#8 r s) r.args (noted r s)
  rw [noted_restart, noted_meter, noted_holds] at ho
  refine (congrArg (fun u => Host.Outcome.next (settle s u)) (takeRequest_taken 3#8 restartOwner r s ht)).trans ?_
  rw [ho]
  change Host.Outcome.next (settle s (answered _ (if ∃ w, s.restart = some w ∧ w.stations.contains r.station = true
    then _ else _))) = _
  split
  · rfl
  · split
    · rfl
    · change Host.Outcome.next (settle s (answered _ (if holds s r.station .technician = true then _ else _))) = _
      split <;> rfl

section
variable (r : Request) (s : State) (hlevel : holds s r.station .technician = true)
include hlevel

theorem exec_clearFaults (ht : taken 4#8 r s = true) (hout : inHold s = false) :
    let d := clearInactive s.diag (stampNow s)
    exec (.clearFaults r) s = doneWith 4#8
      (le 2 (s.diag.entries.filter fun e => !e.active).length ++ le 2 d.entries.length) r s
      { leveled r s with diag := d } := by
  have hstamp : stampNow (noted r s) = stampNow s := by rw [stampNow_eq, stampNow_eq, noted_time]
  have ho := clearFaultsOwner_eq (ticketOf 4#8 r s) r.args (noted r s) (by simpa using hout)
    (by rw [noted_holds]; exact hlevel)
  rw [noted_diag, hstamp] at ho
  exact repliedWith_of_owner 4#8 clearFaultsOwner _ r s _ _ _ ht rfl ho

theorem exec_writeImage (ht : taken 5#8 r s = true) (hout : inHold s = false) : exec (.writeImage r) s =
    if engineRunning s = true then repliedWith 5#8 .refusedState [] r s (leveled r s)
    else if 2047 < argU16 r.args 0 then repliedWith 5#8 .badArgument [] r s (leveled r s)
    else if 6 ≤ s.store.queue.length then repliedWith 5#8 .busy [] r s (leveled r s)
    else inFlightWith r s (queueJob (.imageBlock (argU16 r.args 0) (argU32 r.args 2) (ticketOf 5#8 r s))
      (leveled r s)) := by
  have ho := writeImageOwner_eq (ticketOf 5#8 r s) r.args (noted r s) (by simpa using hout)
    (by rw [noted_holds]; exact hlevel)
  rw [noted_engineRunning, noted_store] at ho
  refine (congrArg (fun u => Host.Outcome.next (settle s u)) (takeRequest_taken 5#8 writeImageOwner r s ht)).trans ?_
  rw [ho]
  split
  · rfl
  · split
    · rfl
    · split <;> rfl

end

theorem refusedBelow_tools : RefusedBelow .technician [(4#8, .clearFaults), (5#8, .writeImage)] := by
  refine refusedBelow_of_owners _ _ fun x hx => ?_
  simp only [List.mem_cons, List.not_mem_nil, or_false] at hx
  rcases hx with rfl | rfl
  · exact ⟨clearFaultsOwner, fun _ _ => rfl, fun t a s _ hout hlevel => by
      simp [clearFaultsOwner, hout, checkLevel_refused _ _ _ _ hlevel]⟩
  · exact ⟨writeImageOwner, fun _ _ => rfl, fun t a s _ hout hlevel => by
      simp [writeImageOwner, hout, checkLevel_refused _ _ _ _ hlevel]⟩

theorem refusedInHold_tools : RefusedInHold [(4#8, .clearFaults), (5#8, .writeImage)] := by
  refine refusedInHold_of_owners _ fun x hx => ?_
  simp only [List.mem_cons, List.not_mem_nil, or_false] at hx
  rcases hx with rfl | rfl
  · exact ⟨clearFaultsOwner, fun _ _ => rfl, fun t a s hhold => by simp [clearFaultsOwner, hhold, refuse]⟩
  · exact ⟨writeImageOwner, fun _ _ => rfl, fun t a s hhold => by simp [writeImageOwner, hhold, refuse]⟩

/-- Settles O35: the three owners' answers, then the end of a condition by the entry that it names and by what waits. -/
theorem technicianToolRequests : Obligations.TechnicianToolRequests := by
  refine ⟨fun r s hlevel => ⟨fun ht hkey hnone => ?_, fun w ht hkey hw hjoins => ?_,
      exec_clearFaults r s hlevel, fun ht hout hengine hblock hroom => ?_, fun ht hout hengine => ?_,
      fun ht hout hengine hblock => ?_, fun ht hout hengine hblock hfull => ?_⟩,
    refusedBelow_tools, refusedInHold_tools, fun r s ht => ?_, fun s code src hfault hunentered => ?_⟩
  · intro w
    rw [exec_restart r s ht, if_neg (by simp [hnone]), if_neg (by simp [hkey]), if_pos hlevel,
      restartWait_first _ _ (show (leveled r s).restart = none from (noted_restart r s).trans hnone)]
    have hnow : (leveled r s).now = s.now := noted_now r s
    have hbus : (leveled r s).bus = s.bus := noted_bus r s
    rw [hnow, hbus]
    rfl
  · rw [exec_restart r s ht, if_neg (by simpa [hw] using hjoins), if_neg (by simp [hkey]), if_pos hlevel,
      restartWait_joins _ _ w (show (leveled r s).restart = some w from (noted_restart r s).trans hw)]
    rfl
  · intro job
    have hstore : (leveled r s).store = s.store := noted_store r s
    rw [exec_writeImage r s hlevel ht hout, if_neg (by simp [hengine]), if_neg (by omega), if_neg (by omega),
      queueJob, setQueue, hstore]
  · rw [exec_writeImage r s hlevel ht hout, if_pos hengine]
  · rw [exec_writeImage r s hlevel ht hout, if_neg (by simp [hengine]), if_pos hblock]
  · rw [exec_writeImage r s hlevel ht hout, if_neg (by simp [hengine]), if_neg (by omega), if_pos hfull]
  · intro waits
    rw [exec_restart r s ht]
    exact ⟨fun hw => if_pos hw, fun hw hkey => (if_neg hw).trans (if_pos hkey), fun hw hkey hbelow =>
      (if_neg hw).trans ((if_neg (by simp [hkey])).trans (if_neg (by simp [hbelow])))⟩
  · intro stamp t l waiting
    have hstamp : stampNow s = stamp := stampNow_eq s
    have hdiag : t.diag = endIn s.diag stamp code src := by
      rw [← hstamp]
      rfl
    have hdistinct := distinct_of_faultLaw hfault
    refine ⟨rfl, ?_, clearInactive_entries s stamp hunentered, fun hnew => ?_, ?_⟩
    · rw [hdiag]
      exact endIn_attention _ _ _ _ (attention_of_faultLaw hfault)
    · rw [hdiag, endIn_unlisted _ _ _ _ hnew]
      exact ⟨rfl, rfl⟩
    · rintro e he rfl rfl
      rw [hdiag]
      refine ⟨endIn_inactive _ _ e he hdistinct, fun hactive hnone => ?_, fun _ c hc hleast => ?_⟩
      · rw [endIn_none_waiting _ _ e he hdistinct hactive hnone, endedEntries_eq]
        exact ⟨rfl, rfl⟩
      · rw [endIn_lowest_enters _ _ e he hdistinct (stuck_of_unenteredLaw hunentered (List.ne_nil_of_mem hc))
          (nodup_of_unenteredLaw hunentered) c hc hleast]
        exact ⟨rfl, rfl⟩

end Sys2Proof.Machine
end

section
/-! PROOFS. What the request framework answers itself: repeats, requests beside one in flight, incomplete arguments,
Limp and the key-off; the refusal in Hold; the arguments that a request needs (R63, R167, R185, R186, R197). -/

namespace Sys2Proof.Machine

/-! ## Repeats (R167 step 1, R186) -/

/-- A byte read with another byte as its default. -/
theorem getD_eq_iff (l : List Byte) (i : Nat) (x y : Byte) (h : x ≠ y) : l.getD i x = y ↔ l[i]? = some y := by
  rw [List.getD_eq_getElem?_getD]
  cases l[i]? <;> simp [h]

theorem noteRequeued_none (e : SubEntry) (d : List Byte) (s : State) (h : s.restart = none) :
    noteRequeued e d s = s := by
  unfold noteRequeued
  split
  · rfl
  · rw [h, Option.map_none, ← h]

/-- The reply queued again counts as the wait's own where it is the Done reply of its first station's RESTART. -/
theorem noteRequeued_some (e : SubEntry) (d : List Byte) (s : State) (w : RestartWait) (h : s.restart = some w) :
    noteRequeued e d s = { s with
      restart := some (if s.bus.ring.length < 8 ∧ w.stations.head? = some e.config.station
          ∧ d[1]? = some 3#8 ∧ d[3]? = some 0#8 then
        { w with replyIds := w.replyIds ++ [s.bus.nextId] } else w) } := by
  unfold noteRequeued
  by_cases hroom : s.bus.ring.length < 8
  · rw [if_neg (by omega), h, Option.map_some]
    simp only [Bool.and_eq_true, beq_iff_eq, getD_eq_iff d 1 0 3#8 (by decide), getD_eq_iff d 3 1 0#8 (by decide),
      and_assoc, hroom, true_and]
  · rw [if_pos (by omega), if_neg fun hown => hroom hown.1, ← h]

section
variable (e : SubEntry) (n : Counter) (s : State) (hrepeat : e.counter = some n)
include hrepeat

theorem repeatRequest_unanswered (h : e.inFlight = some n ∨ e.stored = none) : repeatRequest e s = s := by
  unfold repeatRequest
  split
  · rfl
  next hflight =>
    rw [h.resolve_left fun h => hflight (by simp [hrepeat, h])]

theorem repeatRequest_stored (d : List Byte) (hflight : e.inFlight ≠ some n) (hd : e.stored = some d) :
    repeatRequest e s = { noteRequeued e d s with bus := (noteRequeued e d s).bus.queueReply d } := by
  unfold repeatRequest
  rw [if_neg (by simpa [hrepeat] using hflight.symm), hd]

end

/-! ## New frames (R167 steps 2 to 4, R185) -/

section
variable (code : Byte) (own : Owner) (t : Ticket) (r : Request) (s : State)

theorem judgeRequest_incomplete (hargs : argsComplete code.toNat r = false) :
    judgeRequest code (some own) t r s = sendReply t .badArgument [] s :=
  if_pos (by simp [hargs])

theorem judgeRequest_limp (hargs : argsComplete code.toNat r = true) (hlimp : s.power = .limp)
    (hcode : takenInLimp code = false) :
    judgeRequest code (some own) t r s = sendReply t .refusedState [] s :=
  (if_neg (by simp [hargs])).trans (if_pos (by simp [hlimp, hcode]))

theorem judgeRequest_keyOff (hargs : argsComplete code.toNat r = true)
    (hlimp : s.power ≠ .limp ∨ takenInLimp code = true) (hkey : s.meter.keyOffTaken = true) (hread : code ≠ 1#8)
    (hrestart : code ≠ 3#8) : judgeRequest code (some own) t r s = sendReply t .refusedState [] s := by
  have hin : ¬ (s.power == .limp && !takenInLimp code) = true := by
    rcases hlimp with h | h <;> simp [h]
  exact (if_neg (by simp [hargs])).trans ((if_neg hin).trans (if_pos (by simp [hkey, passesKeyOff, hread, hrestart])))

end

section
variable (code : Byte) (owner : Option Owner) (r : Request) (s : State)

theorem takeRequest_elsewhere (h : requestEntry s r.station = none ∨ receiving s = false) :
    takeRequest code owner r s = s := by
  unfold takeRequest
  split
  · rfl
  next e he => exact if_pos (by simp [h.resolve_left (by simp [he])])

variable (e : SubEntry) (he : requestEntry s r.station = some e) (hreceiving : receiving s = true)
include he hreceiving

theorem takeRequest_repeat (hrepeat : e.counter = some r.counter) : takeRequest code owner r s
    = repeatRequest e (modifyRequest r.station (fun e => { e with assembly := none }) s) := by
  unfold takeRequest
  rw [he]
  dsimp only
  rw [if_neg (by simp [hreceiving]), if_pos (by simp [hrepeat])]

theorem takeRequest_new (hnew : e.counter ≠ some r.counter) : takeRequest code owner r s
    = newRequest code owner e r (modifyRequest r.station (fun e => { e with assembly := none }) s) := by
  unfold takeRequest
  rw [he]
  dsimp only
  rw [if_neg (by simp [hreceiving]), if_neg (by simpa using hnew)]

theorem takeRequest_busy (hnew : e.counter ≠ some r.counter) (hflight : e.inFlight ≠ none) :
    takeRequest code owner r s = sendReply (ticketOf code r s) .busy [] (noted r s) :=
  (takeRequest_new code owner r s e he hreceiving hnew).trans
    (if_pos (Option.isSome_iff_ne_none.2 hflight))

theorem takeRequest_judged (hnew : e.counter ≠ some r.counter) (hflight : e.inFlight = none) :
    takeRequest code owner r s = judgeRequest code owner (ticketOf code r s) r (noted r s) :=
  (takeRequest_new code owner r s e he hreceiving hnew).trans (if_neg (by simp [hflight]))

end

/-! ## The request commands and their owners -/

/-- Every request command hands its request to the framework under its code, with an owner. -/
theorem exec_requestCommand (x : Byte × (Request → Instr)) (hx : x ∈ requestCommands) :
    ∃ own : Owner, ∀ r s, exec (x.2 r) s = .next (settle s (takeRequest x.1 (some own) r s)) := by
  simp only [requestCommands, List.mem_cons, List.not_mem_nil, or_false] at hx
  rcases hx with rfl | rfl | rfl | rfl | rfl | rfl | rfl | rfl | rfl | rfl | rfl | rfl | rfl | rfl | rfl | rfl
    | rfl | rfl | rfl | rfl | rfl | rfl
  all_goals exact ⟨_, fun _ _ => rfl⟩

/-- An owner whose first check is Limp or Hold refuses in Hold. -/
theorem refusesHold_of_first (own rest : Owner)
    (h : ∀ t a s, own t a s = if limpOrHold s then refuse .refusedState s else rest t a s)
    (t : Ticket) (a : List Byte) (s : State) (hhold : inHold s = true) : own t a s = .reply .refusedState [] s :=
  (h t a s).trans (if_pos (by simp [limpOrHold, hhold]))

theorem refusedInHold_cons (x : Byte × (Request → Instr)) (l : List (Byte × (Request → Instr))) :
    RefusedInHold (x :: l) ↔ RefusedInHold [x] ∧ RefusedInHold l := by
  simp [RefusedInHold]

theorem refusedInHold_units : RefusedInHold [(7#8, .teachLimit), (8#8, .setLimit), (9#8, .enableLimit),
    (10#8, .disableLimit), (11#8, .release), (12#8, .override), (13#8, .resume), (14#8, .benchmark), (15#8, .setGrade),
    (16#8, .powerMode), (17#8, .tableRecall), (18#8, .setClock), (19#8, .setTrim), (20#8, .setMeter),
    (21#8, .serviceDone), (22#8, .ackReminder)] := by
  refine refusedInHold_of_owners _ fun x hx => ?_
  simp only [List.mem_cons, List.not_mem_nil, or_false] at hx
  rcases hx with rfl | rfl | rfl | rfl | rfl | rfl | rfl | rfl | rfl | rfl | rfl | rfl | rfl | rfl | rfl | rfl
  all_goals exact ⟨_, fun _ _ => rfl, refusesHold_of_first _ _ fun _ _ _ => rfl⟩

/-! ## The arguments that a request needs (R197) -/

theorem argNat_eq_iff (a : List Byte) (i n : Nat) (h : n < 256) : argNat a i = n ↔ a.getD i 0 = BitVec.ofNat 8 n := by
  rw [← BitVec.toNat_inj, BitVec.toNat_ofNat, Nat.mod_eq_of_lt h]
  rfl

theorem argsComplete_iff (code : Nat) (r : Request) :
    argsComplete code r = true ↔ neededArgs code r.args ≤ r.args.length := decide_eq_true_iff

/-- Settles O32: each of the framework's answers for any code and owner, the refusals in Hold from the owners' first
checks, then the needed arguments by their codes. -/
theorem requestFramework : Obligations.RequestFramework := by
  refine ⟨fun x hx r s => ?_, ?_, fun code => List.contains_iff_mem, fun code r => ?_⟩
  · obtain ⟨own, hexec⟩ := exec_requestCommand x hx
    intro code cmd cleared
    have hcmd (u : State) (h : takeRequest code (some own) r s = u) : exec cmd s = .next (settle s u) :=
      h ▸ hexec r s
    refine ⟨fun h => hcmd _ (takeRequest_elsewhere code (some own) r s h), fun e he hreceiving => ?_⟩
    have hrepeats (hrepeat : e.counter = some r.counter) :
        takeRequest code (some own) r s = repeatRequest e cleared :=
      takeRequest_repeat code (some own) r s e he hreceiving hrepeat
    have hjudged (hnew : e.counter ≠ some r.counter) (hflight : e.inFlight = none) :=
      takeRequest_judged code (some own) r s e he hreceiving hnew hflight
    refine ⟨fun hrepeat h => hcmd _ ?_, fun d hrepeat hflight hd hnone => hcmd _ ?_,
      fun d w hrepeat hflight hd hw => ?_, fun hnew hflight => hcmd _ ?_, fun hnew hflight hargs => hcmd _ ?_,
      fun hnew hflight hargs hlimp hcode => hcmd _ ?_,
      fun hnew hflight hargs hlimp hkey hread hrestart => hcmd _ ?_⟩
    · rw [hrepeats hrepeat, repeatRequest_unanswered e r.counter _ hrepeat h]
    · rw [hrepeats hrepeat, repeatRequest_stored e r.counter _ hrepeat d hflight hd, noteRequeued_none e d cleared hnone]
      rfl
    · intro own
      refine hcmd _ ?_
      rw [hrepeats hrepeat, repeatRequest_stored e r.counter _ hrepeat d hflight hd, noteRequeued_some e d cleared w hw]
      rfl
    · exact takeRequest_busy code (some own) r s e he hreceiving hnew hflight
    · rw [hjudged hnew hflight, judgeRequest_incomplete code own _ r _ hargs]
    · rw [hjudged hnew hflight, judgeRequest_limp code own _ r _ hargs (by simpa using hlimp) hcode]
    · rw [hjudged hnew hflight, judgeRequest_keyOff code own _ r _ hargs (by simpa using hlimp) (by simpa using hkey)
        hread hrestart]
  · obtain ⟨hclear, hwrite⟩ := (refusedInHold_cons _ _).1 refusedInHold_tools
    obtain ⟨hwarning, -⟩ := (refusedInHold_cons _ _).1 refusedInHold_acknowledgements
    exact (refusedInHold_cons _ _).2 ⟨hclear, (refusedInHold_cons _ _).2
      ⟨hwrite, (refusedInHold_cons _ _).2 ⟨hwarning, refusedInHold_units⟩⟩⟩
  · intro a needed
    have hneeded : neededArgs code r.args = needed := by
      unfold neededArgs
      simp only [Bool.or_eq_true, beq_iff_eq, argNat_eq_iff r.args 0 1 (by decide),
        argNat_eq_iff r.args 0 2 (by decide), argNat_eq_iff r.args 1 0 (by decide)]
      rfl
    rw [argsComplete_iff, hneeded]
    rfl

end Sys2Proof.Machine
end

section
/-! PROOFS. The guidance result: its reason, the segment that the scan found, the tip error with its band, and the
nearest depth floor (R77, R78). -/

namespace Sys2Proof.Machine

/-! ## The reason and the found segment (R77) -/

theorem clampInt_eq_max_min (lo hi n : Int) (h : lo ≤ hi) : clampInt lo hi n = max lo (min hi n) := by
  unfold clampInt
  split
  · omega
  · split <;> omega

theorem guidanceResult_reason (s : State) : (guidanceResult s).reason = reasonOf s := rfl

theorem guidanceResult_segment (s : State) : (guidanceResult s).segment = (foundSegment s.guidance).map (·.1) := rfl

theorem guidanceResult_floor (s : State) :
    (guidanceResult s).floor = nearestFloor s.pose.pose.slewAngle (indexed s.limits) := rfl

/-- Without a benchmark the reason is the pose's, or NoBenchmark. -/
theorem reasonOf_no_benchmark (s : State) (h : s.guidance.benchmark = none) :
    reasonOf s = match s.pose.pose.quality with
      | .invalid => .poseInvalid
      | .degraded => .poseDegraded
      | .valid => .noBenchmark := by
  unfold reasonOf
  cases s.pose.pose.quality <;> simp [h]

theorem reasonOf_ne_none (s : State) (h : s.guidance.benchmark = none) : reasonOf s ≠ .none := by
  rw [reasonOf_no_benchmark s h]
  cases s.pose.pose.quality <;> simp

theorem foundSegment_of_found (g : GuidanceUnit) (i : Nat) (x : Segment) (hscan : g.scan = .found i)
    (hx : g.profile[i]? = some (some x)) : foundSegment g = some (i, x) := by
  simp [foundSegment, hscan, hx]

theorem foundSegment_of_not_found (g : GuidanceUnit) (h : ∀ i, g.scan ≠ .found i) : foundSegment g = none := by
  unfold foundSegment
  split
  next i hscan => exact absurd hscan (h i)
  next => rfl

/-! ## The tip error, its band and the height (R77) -/

/-- A result with a reason has no tip error, and so no band. -/
theorem guidanceResult_no_error (s : State) (h : reasonOf s ≠ .none) :
    (guidanceResult s).tipError = none ∧ (guidanceResult s).band = none := by
  revert h
  unfold guidanceResult
  cases reasonOf s <;> simp

/-- A height is shown without a reason, and at a Degraded pose. -/
theorem guidanceResult_height (s : State) : (guidanceResult s).height =
    if reasonOf s = .none ∨ reasonOf s = .poseDegraded then
      (foundSegment s.guidance).map fun x => x.2.heightAt s.pose.pose.reach
    else none := by
  unfold guidanceResult
  cases reasonOf s <;> simp

theorem guidanceResult_error (s : State) (i : Nat) (x : Segment) (m : Int) (hreason : reasonOf s = .none)
    (hfound : foundSegment s.guidance = some (i, x)) (hm : s.guidance.benchmark = some m) :
    let e := max (-32767) (min 32767 (s.pose.pose.tip - (m + x.heightAt s.pose.pose.reach)))
    (guidanceResult s).tipError = some e ∧ (guidanceResult s).band = some (bandOf s.config.fineBand e) := by
  simp only [guidanceResult, hreason, hfound, hm, Option.map_some]
  rw [clampInt_eq_max_min _ _ _ (by decide)]
  exact ⟨rfl, rfl⟩

/-- The design height is to the nearest millimetre (R73). -/
theorem nearest_heightAt (g : Segment) (r : Int) :
    Nearest (1000 * g.height + g.slope * (r - g.reachFrom)) 1000 (g.heightAt r) :=
  nearest_roundDiv _ _ (by decide)

/-- The result by its reason, its found segment and its benchmark (R77). -/
theorem guidanceResult_parts (s : State) :
    (∀ i x, s.guidance.scan = .found i → s.guidance.profile[i]? = some (some x) →
      (guidanceResult s).segment = some i
        ∧ (reasonOf s = .none ∨ reasonOf s = .poseDegraded →
          (guidanceResult s).height = some (x.heightAt s.pose.pose.reach))
        ∧ ∀ m, reasonOf s = .none → s.guidance.benchmark = some m →
          let e := max (-32767) (min 32767 (s.pose.pose.tip - (m + x.heightAt s.pose.pose.reach)))
          (guidanceResult s).tipError = some e ∧ (guidanceResult s).band = some (bandOf s.config.fineBand e))
      ∧ (reasonOf s ≠ .none → reasonOf s ≠ .poseDegraded → (guidanceResult s).height = none)
      ∧ ((∀ i, s.guidance.scan ≠ .found i) →
        (guidanceResult s).segment = none ∧ (guidanceResult s).height = none) := by
  rw [guidanceResult_segment, guidanceResult_height]
  refine ⟨fun i x hscan hx => ?_, fun hnone hdegraded => if_neg (not_or.2 ⟨hnone, hdegraded⟩), fun hscan => ?_⟩
  · have hfound := foundSegment_of_found s.guidance i x hscan hx
    refine ⟨by rw [hfound]; rfl, fun h => ?_, fun m hreason hm => guidanceResult_error s i x m hreason hfound hm⟩
    rw [if_pos h, hfound]
    rfl
  · rw [foundSegment_of_not_found s.guidance hscan]
    exact ⟨rfl, ite_self _⟩

/-! ## The nearest depth floor (R78) -/

theorem indexed_sorted {α : Type} (l : List α) : (indexed l).Pairwise fun x y => x.1 < y.1 := by
  unfold indexed
  rw [List.pairwise_iff_getElem]
  intro i j hi hj hij
  simpa using hij

/-- An entry that R78 considers, with its last clearance. -/
def FloorAt (slew : BinAngle) (e : LimitEntry) (c : Int) : Prop :=
  e.config.kind = .depthFloor ∧ e.state ≠ .disabled ∧ e.last = some c ∧ inScope e.config.scope slew = true

theorem floorAt_iff (slew : BinAngle) (e : LimitEntry) (c : Int) :
    FloorAt slew e c ↔ floorConsidered slew e = true ∧ e.last = some c := by
  simp only [FloorAt, floorConsidered, Bool.and_eq_true, beq_iff_eq, bne_iff_ne]
  constructor
  · rintro ⟨hkind, hstate, hlast, hscope⟩
    exact ⟨⟨⟨⟨hkind, hstate⟩, by simp [hlast]⟩, hscope⟩, hlast⟩
  · rintro ⟨⟨⟨⟨hkind, hstate⟩, -⟩, hscope⟩, hlast⟩
    exact ⟨hkind, hstate, hlast, hscope⟩

/-- The floor that an entry gives. -/
def LimitEntry.floorOf (e : LimitEntry) (i : Nat) (c : Int) : Floor := ⟨i, c, e.state, e.warning⟩

theorem nearestFloor_other (slew : BinAngle) (i : Nat) (e : LimitEntry) (l : List (Nat × LimitEntry))
    (h : ∀ c, ¬ FloorAt slew e c) : nearestFloor slew ((i, e) :: l) = nearestFloor slew l := by
  simp only [floorAt_iff] at h
  rw [nearestFloor]
  split
  next c hconsidered hlast _ => exact absurd ⟨hconsidered, hlast⟩ (h c)
  next c _ hconsidered hlast _ => exact absurd ⟨hconsidered, hlast⟩ (h c)
  next => rfl

theorem nearestFloor_considered (slew : BinAngle) (i : Nat) (e : LimitEntry) (c : Int) (l : List (Nat × LimitEntry))
    (h : FloorAt slew e c) : nearestFloor slew ((i, e) :: l) = match nearestFloor slew l with
      | none => some (e.floorOf i c)
      | some f => if c ≤ f.clearance then some (e.floorOf i c) else some f := by
  obtain ⟨hconsidered, hlast⟩ := (floorAt_iff slew e c).1 h
  rw [nearestFloor, hconsidered, hlast]
  cases nearestFloor slew l <;> rfl

theorem nearestFloor_none (slew : BinAngle) (l : List (Nat × LimitEntry))
    (h : ∀ x ∈ l, ∀ c, ¬ FloorAt slew x.2 c) : nearestFloor slew l = none := by
  induction l with
  | nil => rfl
  | cons x l ih =>
    obtain ⟨i, e⟩ := x
    rw [nearestFloor_other slew i e l (h _ List.mem_cons_self)]
    exact ih fun y hy => h y (List.mem_cons_of_mem _ hy)

/-- The floor found is that of a considered entry. -/
theorem nearestFloor_mem (slew : BinAngle) (l : List (Nat × LimitEntry)) (f : Floor)
    (h : nearestFloor slew l = some f) : ∃ x ∈ l, ∃ c, FloorAt slew x.2 c ∧ f = x.2.floorOf x.1 c := by
  induction l with
  | nil => cases h
  | cons x l ih =>
    obtain ⟨i, e⟩ := x
    have hlater (hl : nearestFloor slew l = some f) :
        ∃ x ∈ (i, e) :: l, ∃ c, FloorAt slew x.2 c ∧ f = x.2.floorOf x.1 c := by
      obtain ⟨y, hy, hf⟩ := ih hl
      exact ⟨y, List.mem_cons_of_mem _ hy, hf⟩
    by_cases he : ∃ c, FloorAt slew e c
    · obtain ⟨c, hc⟩ := he
      have hhere (heq : e.floorOf i c = f) : ∃ x ∈ (i, e) :: l, ∃ c, FloorAt slew x.2 c ∧ f = x.2.floorOf x.1 c :=
        ⟨(i, e), List.mem_cons_self, c, hc, heq.symm⟩
      rw [nearestFloor_considered slew i e c l hc] at h
      split at h
      · exact hhere (Option.some.inj h)
      · split at h
        · exact hhere (Option.some.inj h)
        · next hl _ => exact hlater (hl.trans h)
    · rw [nearestFloor_other slew i e l (not_exists.1 he)] at h
      exact hlater h

/-- Of entries in index order, the floor is that of smallest clearance, of equal ones the lowest index. -/
theorem nearestFloor_least (slew : BinAngle) (l : List (Nat × LimitEntry)) (hl : l.Pairwise fun x y => x.1 < y.1)
    (i : Nat) (e : LimitEntry) (c : Int) (hmem : (i, e) ∈ l) (hc : FloorAt slew e c)
    (hleast : ∀ x ∈ l, ∀ k, FloorAt slew x.2 k → c < k ∨ (c = k ∧ i ≤ x.1)) :
    nearestFloor slew l = some (e.floorOf i c) := by
  induction l with
  | nil => cases hmem
  | cons x l ih =>
    obtain ⟨hfirst, hl⟩ := List.pairwise_cons.1 hl
    have hleast' : ∀ y ∈ l, ∀ k, FloorAt slew y.2 k → c < k ∨ (c = k ∧ i ≤ y.1) :=
      fun y hy => hleast y (List.mem_cons_of_mem _ hy)
    rcases List.mem_cons.1 hmem with rfl | hmem
    · rw [nearestFloor_considered slew i e c l hc]
      split
      next => rfl
      next f hf =>
        obtain ⟨y, hy, k, hk, rfl⟩ := nearestFloor_mem slew l f hf
        exact if_pos (by rcases hleast' y hy k hk with h | h <;> simp only [LimitEntry.floorOf] <;> omega)
    · have hrest := ih hl hmem hleast'
      by_cases hx : ∃ k, FloorAt slew x.2 k
      · obtain ⟨k, hk⟩ := hx
        have hlt : c < k := (hleast x List.mem_cons_self k hk).resolve_right fun h =>
          absurd (hfirst _ hmem) (Nat.not_lt.2 h.2)
        rw [nearestFloor_considered slew x.1 x.2 k l hk, hrest]
        exact if_neg (Int.not_le.2 hlt)
      · exact (nearestFloor_other slew x.1 x.2 l (not_exists.1 hx)).trans hrest

end Sys2Proof.Machine
end

section
/-! PROOFS. The scan of the grade profile: the ends of a list in order, the places that a scan examines, and where it
ends (R74, R76). -/

namespace Sys2Proof.Machine

/-! ## The ends of a list in order -/

/-- The head of a list in order is its member that none precedes. -/
theorem head?_eq_some_iff_first {α : Type} {r : α → α → Prop} (hr : ∀ a b, r a b → ¬ r b a) (l : List α)
    (hl : l.Pairwise r) (x : α) : l.head? = some x ↔ x ∈ l ∧ ∀ y ∈ l, ¬ r y x := by
  cases l with
  | nil => simp
  | cons a l =>
    have hfirst := (List.pairwise_cons.1 hl).1
    rw [List.head?_cons, Option.some.injEq]
    constructor
    · rintro rfl
      refine ⟨List.mem_cons_self, fun y hy => ?_⟩
      rcases List.mem_cons.1 hy with rfl | hy
      · exact fun h => hr _ _ h h
      · exact hr _ _ (hfirst y hy)
    · rintro ⟨hx, hnone⟩
      rcases List.mem_cons.1 hx with rfl | hx
      · rfl
      · exact absurd (hfirst x hx) (hnone a List.mem_cons_self)

section
variable {α : Type} (l : List (Nat × α)) (hl : l.Pairwise fun x y => x.1 < y.1)
include hl

theorem head?_eq_some_iff_lowest (x : Nat × α) : l.head? = some x ↔ x ∈ l ∧ ∀ y ∈ l, x.1 ≤ y.1 := by
  simp only [head?_eq_some_iff_first (fun a b h => Nat.lt_asymm h) l hl x, Nat.not_lt]

theorem getLast?_eq_some_iff_highest (x : Nat × α) : l.getLast? = some x ↔ x ∈ l ∧ ∀ y ∈ l, y.1 ≤ x.1 := by
  rw [← List.head?_reverse,
    head?_eq_some_iff_first (fun a b h => Nat.lt_asymm h) l.reverse (List.pairwise_reverse.2 hl) x]
  simp only [List.mem_reverse, Nat.not_lt]

end

/-! ## A segment between its neighbours (R74) -/

/-- A test of the place at an end of a list, by what makes a place stand at that end. -/
theorem end_satisfies_iff {α : Type} (o : Option (Nat × α)) (isEnd : Nat × α → Prop)
    (h : ∀ x, o = some x ↔ isEnd x) (ok : α → Bool) : o.all (fun x => ok x.2) = true ↔ ∀ x, isEnd x → ok x.2 = true := by
  simp only [← h]
  cases o <;> simp

theorem segmentFits_eq (p : List (Option Segment)) (i : Nat) (g : Segment) : segmentFits p i g =
    ((((presentPlaces p).filter fun x => decide (x.1 < i)).getLast?.all fun x =>
        decide (x.2.reachTo ≤ g.reachFrom))
      && (((presentPlaces p).filter fun x => decide (i < x.1)).head?.all fun x =>
        decide (g.reachTo ≤ x.2.reachFrom))) := by
  unfold segmentFits
  cases ((presentPlaces p).filter fun x => decide (x.1 < i)).getLast? <;>
    cases ((presentPlaces p).filter fun x => decide (i < x.1)).head? <;> rfl

/-- The places of the nearest present segments on either side decide whether a segment fits. -/
theorem segmentFits_iff (p : List (Option Segment)) (i : Nat) (g : Segment) :
    let present := fun (j : Nat) (x : Segment) => p[j]? = some (some x)
    segmentFits p i g = true ↔
      (∀ j x, j < i → present j x → (∀ k y, present k y → k < i → k ≤ j) → x.reachTo ≤ g.reachFrom)
        ∧ ∀ j x, i < j → present j x → (∀ k y, present k y → i < k → j ≤ k) → g.reachTo ≤ x.reachFrom := by
  intro present
  have hsorted := presentPlaces_sorted p
  rw [segmentFits_eq, Bool.and_eq_true,
    end_satisfies_iff _ _ (getLast?_eq_some_iff_highest _ (hsorted.filter _)) (fun y => decide (y.reachTo ≤ g.reachFrom)),
    end_satisfies_iff _ _ (head?_eq_some_iff_lowest _ (hsorted.filter _)) (fun y => decide (g.reachTo ≤ y.reachFrom))]
  simp only [List.mem_filter, decide_eq_true_eq, Prod.forall, mem_presentPlaces, and_imp]
  exact and_congr
    ⟨fun h j x hj hx hmax => h j x hx hj hmax, fun h j x hx hj hmax => h j x hj hx hmax⟩
    ⟨fun h j x hj hx hmin => h j x hx hj hmin, fun h j x hx hj hmin => h j x hj hx hmin⟩

/-! ## Where the walk ends (R76) -/

/-- The first place past which the walk does not go on, or the last one. -/
def walkEnd (d : Direction) (r : Int) (l : List (Nat × Segment)) : Option (Nat × Segment) :=
  (l.find? fun x => !goesOn d x.2 r).or l.getLast?

/-- The walk does not go on past a segment that contains the reach. -/
theorem goesOn_of_contains (d : Direction) (g : Segment) (r : Int) (h : g.contains r = true) : goesOn d g r = false := by
  simp only [Segment.contains, Bool.and_eq_true, decide_eq_true_eq] at h
  obtain ⟨hfrom, hto⟩ := h
  cases d <;> simp [goesOn, hfrom, hto]

theorem walk_eq (d : Direction) (r : Int) (l : List (Nat × Segment)) :
    walk d r l = (walkEnd d r l).map fun x => (x.1, x.2.contains r) := by
  induction l with
  | nil => rfl
  | cons x l ih =>
    obtain ⟨i, g⟩ := x
    rw [walk, ih]
    by_cases hin : g.contains r = true
    · simp [walkEnd, hin, goesOn_of_contains d g r hin]
    · have hout : g.contains r = false := by simpa using hin
      cases hgo : goesOn d g r
      · simp [walkEnd, hout, hgo]
      · have hend : walkEnd d r ((i, g) :: l) = (walkEnd d r l).or (some (i, g)) := by
          simp [walkEnd, hgo, List.getLast?_cons]
        rw [hend]
        cases walkEnd d r l <;> simp [hout]

/-- A place of a list in order ends the walk when the walk goes on past all before it, and does not go on past it
or has none left. -/
theorem walkEnd_eq {rel : Nat × Segment → Nat × Segment → Prop} (d : Direction) (r : Int)
    (l : List (Nat × Segment)) (hl : l.Pairwise rel) (x : Nat × Segment) (hx : x ∈ l)
    (hbefore : ∀ y ∈ l, rel y x → goesOn d y.2 r = true)
    (hend : goesOn d x.2 r = false ∨ ∀ y ∈ l, ¬ rel x y) : walkEnd d r l = some x := by
  induction l with
  | nil => cases hx
  | cons a l ih =>
    obtain ⟨hfirst, hl⟩ := List.pairwise_cons.1 hl
    rcases List.mem_cons.1 hx with rfl | hx
    · cases hgo : goesOn d x.2 r
      · simp [walkEnd, hgo]
      · have hnone : l = [] := List.eq_nil_iff_forall_not_mem.2 fun y hy =>
          hend.resolve_left (by simp [hgo]) y (List.mem_cons_of_mem _ hy) (hfirst y hy)
        simp [walkEnd, hgo, hnone]
    · have hrest := ih hl hx (fun y hy => hbefore y (List.mem_cons_of_mem _ hy))
        (hend.imp_right fun h y hy => h y (List.mem_cons_of_mem _ hy))
      have hgo := hbefore a List.mem_cons_self (hfirst x hx)
      rw [← hrest]
      obtain ⟨z, hz⟩ := Option.isSome_iff_exists.1 (List.getLast?_isSome.2 (List.ne_nil_of_mem hx))
      simp [walkEnd, hgo, List.getLast?_cons, hz]

/-! ## The places that a scan examines (R76) -/

/-- The place that a scan begins at. -/
def scanStart (places : List (Nat × Segment)) (i : Nat) : Nat :=
  match (places.filter fun x => decide (i ≤ x.1)).head? with
  | some (j, _) => j
  | none => ((places.getLast?).map (·.1)).getD i

theorem scanOrder_outward (places : List (Nat × Segment)) (i : Nat) :
    scanOrder places i .outward = places.filter fun x => decide (scanStart places i ≤ x.1) := rfl

theorem scanOrder_inward (places : List (Nat × Segment)) (i : Nat) :
    scanOrder places i .inward = (places.filter fun x => decide (x.1 ≤ scanStart places i)).reverse := rfl

theorem scanOrder_inPlace (places : List (Nat × Segment)) (i : Nat) :
    scanOrder places i .inPlace = places.filter fun x => x.1 == scanStart places i := rfl

section
variable (places : List (Nat × Segment)) (hp : places.Pairwise fun x y => x.1 < y.1)
include hp

/-- A scan begins at the lowest present place from its index on. -/
theorem scanStart_from (i : Nat) (x : Nat × Segment) (hx : x ∈ places) (hi : i ≤ x.1)
    (hlow : ∀ y ∈ places, i ≤ y.1 → x.1 ≤ y.1) : scanStart places i = x.1 := by
  have hhead : (places.filter fun x => decide (i ≤ x.1)).head? = some x := by
    rw [head?_eq_some_iff_lowest _ (hp.filter _)]
    simpa [hx, hi] using fun a b hy => hlow (a, b) hy
  rw [scanStart, hhead]

/-- Beyond the highest present place a scan begins at that place. -/
theorem scanStart_beyond (i : Nat) (x : Nat × Segment) (hx : x ∈ places) (hi : x.1 < i)
    (hhigh : ∀ y ∈ places, y.1 ≤ x.1) : scanStart places i = x.1 := by
  have hnone : places.filter (fun x => decide (i ≤ x.1)) = [] :=
    List.filter_eq_nil_iff.2 fun y hy => by simpa using (hhigh y hy).trans_lt hi
  rw [scanStart, hnone, (getLast?_eq_some_iff_highest places hp x).2 ⟨hx, hhigh⟩]
  rfl

variable (r : Int) (i : Nat) (x : Nat × Segment) (hx : x ∈ places)
include hx

theorem walkEnd_outward (hstart : scanStart places i ≤ x.1)
    (hbefore : ∀ y ∈ places, scanStart places i ≤ y.1 → y.1 < x.1 → y.2.reachTo ≤ r)
    (hend : r < x.2.reachTo ∨ ∀ y ∈ places, y.1 ≤ x.1) :
    walkEnd .outward r (scanOrder places i .outward) = some x := by
  rw [scanOrder_outward]
  refine walkEnd_eq _ _ _ (hp.filter _) x (by simp [hx, hstart]) (fun y hy hlt => ?_)
    (hend.imp (fun h => by simpa [goesOn] using h) fun h y hy => Nat.not_lt.2 (h y (List.mem_of_mem_filter hy)))
  simp only [List.mem_filter, decide_eq_true_eq] at hy
  simpa [goesOn] using hbefore y hy.1 hy.2 hlt

theorem walkEnd_inward (hstart : x.1 ≤ scanStart places i)
    (hbefore : ∀ y ∈ places, x.1 < y.1 → y.1 ≤ scanStart places i → r < y.2.reachFrom)
    (hend : x.2.reachFrom ≤ r ∨ ∀ y ∈ places, x.1 ≤ y.1) :
    walkEnd .inward r (scanOrder places i .inward) = some x := by
  rw [scanOrder_inward]
  refine walkEnd_eq _ _ _ (List.pairwise_reverse.2 (hp.filter _)) x (by simp [hx, hstart]) (fun y hy hlt => ?_)
    (hend.imp (fun h => by simpa [goesOn] using h) fun h y hy =>
      Nat.not_lt.2 (h y (List.mem_of_mem_filter (List.mem_reverse.1 hy))))
  simp only [List.mem_reverse, List.mem_filter, decide_eq_true_eq] at hy
  simpa [goesOn] using hbefore y hy.1 hlt hy.2

theorem walkEnd_inPlace (hstart : x.1 = scanStart places i) :
    walkEnd .inPlace r (scanOrder places i .inPlace) = some x := by
  rw [scanOrder_inPlace]
  refine walkEnd_eq _ _ _ (hp.filter _) x (by simp [hx, hstart]) (fun y hy hlt => ?_) (.inl rfl)
  simp only [List.mem_filter, beq_iff_eq] at hy
  omega

end

/-! ## The scan (R76) -/

theorem scanAt_no_segment (g : GuidanceUnit) (r : Int) (h : presentPlaces g.profile = []) :
    g.scanAt r = { g with scan := .noProfile } := by
  have horder (d : Direction) : scanOrder [] g.scanIndex d = [] := by cases d <;> rfl
  unfold GuidanceUnit.scanAt
  simp only [h, horder, walk]

/-- A scan that ends at a place finds its segment there, or the region of the reach. -/
theorem scanAt_of_walkEnd (g : GuidanceUnit) (r : Int) (x : Nat × Segment)
    (h : let d := directionOf g.previousReach r
      walkEnd d r (scanOrder (presentPlaces g.profile) g.scanIndex d) = some x) :
    g.scanAt r = { g with
      scanIndex := x.1, previousReach := some r
      scan := if x.2.contains r = true then .found x.1 else regionOf (presentPlaces g.profile) r } := by
  unfold GuidanceUnit.scanAt
  simp only [walk_eq, h, Option.map_some]

/-- The region of a reach, by the lowest and the highest present segment (R73). -/
theorem regionOf_eq (places : List (Nat × Segment)) (hp : places.Pairwise fun x y => x.1 < y.1)
    (x y : Nat × Segment) (hx : x ∈ places) (hlow : ∀ z ∈ places, x.1 ≤ z.1) (hy : y ∈ places)
    (hhigh : ∀ z ∈ places, z.1 ≤ y.1) (r : Int) :
    regionOf places r = if r < x.2.reachFrom ∨ y.2.reachTo ≤ r then .offProfile else .inGap := by
  have hhead := (head?_eq_some_iff_lowest places hp x).2 ⟨hx, hlow⟩
  have hlast := (getLast?_eq_some_iff_highest places hp y).2 ⟨hy, hhigh⟩
  obtain ⟨rest, rfl⟩ : ∃ rest, places = x :: rest := List.head?_eq_some_iff.1 hhead
  simp [regionOf, hlast]

/-! ## The path of a scan, from its first place to its last (R76) -/

theorem directionOf_outward_iff (o : Option Int) (r : Int) :
    directionOf o r = .outward ↔ o = none ∨ ∃ p, o = some p ∧ p < r := by
  cases o with
  | none => simp [directionOf]
  | some p =>
    rcases lt_trichotomy p r with h | rfl | h
    · simp [directionOf, h]
    · simp [directionOf]
    · simp [directionOf, h, h.not_gt]

theorem directionOf_inward_iff (o : Option Int) (r : Int) :
    directionOf o r = .inward ↔ ∃ p, o = some p ∧ r < p := by
  cases o with
  | none => simp [directionOf]
  | some p =>
    rcases lt_trichotomy p r with h | rfl | h
    · simp [directionOf, h, h.le]
    · simp [directionOf]
    · simp [directionOf, h, h.not_gt]

theorem directionOf_inPlace_iff (o : Option Int) (r : Int) : directionOf o r = .inPlace ↔ o = some r := by
  cases o with
  | none => simp [directionOf]
  | some p =>
    rcases lt_trichotomy p r with h | rfl | h
    · simp [directionOf, h, h.ne]
    · simp [directionOf]
    · simp [directionOf, h, h.not_gt, h.ne']

/-- The lowest and the highest present place of a profile, and the places that a scan for a reach begins and ends at. -/
structure ScanPath (g : GuidanceUnit) (r : Int) (low high first last : Nat × Segment) : Prop where
  low_mem : low ∈ presentPlaces g.profile
  high_mem : high ∈ presentPlaces g.profile
  first_mem : first ∈ presentPlaces g.profile
  last_mem : last ∈ presentPlaces g.profile
  between : ∀ y ∈ presentPlaces g.profile, low.1 ≤ y.1 ∧ y.1 ≤ high.1
  start : (g.scanIndex ≤ first.1 ∧ ∀ y ∈ presentPlaces g.profile, g.scanIndex ≤ y.1 → first.1 ≤ y.1)
    ∨ (first.1 = high.1 ∧ high.1 < g.scanIndex)
  outward : directionOf g.previousReach r = .outward → first.1 ≤ last.1
    ∧ (∀ y ∈ presentPlaces g.profile, first.1 ≤ y.1 → y.1 < last.1 → y.2.reachTo ≤ r)
    ∧ (r < last.2.reachTo ∨ last.1 = high.1)
  inward : directionOf g.previousReach r = .inward → last.1 ≤ first.1
    ∧ (∀ y ∈ presentPlaces g.profile, last.1 < y.1 → y.1 ≤ first.1 → r < y.2.reachFrom)
    ∧ (last.2.reachFrom ≤ r ∨ last.1 = low.1)
  inPlace : directionOf g.previousReach r = .inPlace → last.1 = first.1

section
variable {g : GuidanceUnit} {r : Int} {low high first last : Nat × Segment} (h : ScanPath g r low high first last)
include h

theorem ScanPath.scanStart_eq : scanStart (presentPlaces g.profile) g.scanIndex = first.1 := by
  have hsorted := presentPlaces_sorted g.profile
  rcases h.start with ⟨hfrom, hleast⟩ | ⟨heq, hbeyond⟩
  · exact scanStart_from _ hsorted _ _ h.first_mem hfrom hleast
  · exact scanStart_beyond _ hsorted _ _ h.first_mem (by omega) fun y hy => heq ▸ (h.between y hy).2

theorem ScanPath.walkEnd_eq :
    walkEnd (directionOf g.previousReach r) r
      (scanOrder (presentPlaces g.profile) g.scanIndex (directionOf g.previousReach r)) = some last := by
  have hsorted := presentPlaces_sorted g.profile
  have hstart := h.scanStart_eq
  cases hd : directionOf g.previousReach r with
  | outward =>
    obtain ⟨hle, hpast, hend⟩ := h.outward hd
    exact walkEnd_outward _ hsorted r _ last h.last_mem (by omega) (fun y hy hfrom => hpast y hy (by omega))
      (hend.imp_right fun heq y hy => (h.between y hy).2.trans_eq heq.symm)
  | inward =>
    obtain ⟨hle, hpast, hend⟩ := h.inward hd
    exact walkEnd_inward _ hsorted r _ last h.last_mem (by omega) (fun y hy hto hfrom => hpast y hy hto (by omega))
      (hend.imp_right fun heq y hy => heq.trans_le (h.between y hy).1)
  | inPlace => exact walkEnd_inPlace _ hsorted r _ last h.last_mem (by rw [hstart]; exact h.inPlace hd)

/-- A scan ends at its path's last place and finds its segment, the gap, or the outside of the profile. -/
theorem ScanPath.scanAt_eq : g.scanAt r = { g with
    scanIndex := last.1, previousReach := some r
    scan := if last.2.reachFrom ≤ r ∧ r < last.2.reachTo then .found last.1
      else if r < low.2.reachFrom ∨ high.2.reachTo ≤ r then .offProfile else .inGap } := by
  rw [scanAt_of_walkEnd g r last h.walkEnd_eq, regionOf_eq _ (presentPlaces_sorted g.profile) low high h.low_mem
    (fun z hz => (h.between z hz).1) h.high_mem (fun z hz => (h.between z hz).2)]
  simp only [Segment.contains, Bool.and_eq_true, decide_eq_true_eq]

end

end Sys2Proof.Machine
end

section
/-! PROOFS. BENCHMARK and SET_GRADE with their refusals, and the grade-profile job that carries a change (R71, R73 to
R75, R192). -/

namespace Sys2Proof.Machine

/-! ## The job that carries a change (R75) -/

theorem isGrade_iff (j : Job) : j.isGrade = true ↔ ∃ l, j = .gradeProfile l := by
  cases j <;> simp [Job.isGrade]

theorem jobQueued_grade_iff (s : State) :
    jobQueued Job.isGrade s = true ↔ ∃ l, Job.gradeProfile l ∈ s.store.queue := by
  simp only [jobQueued, List.any_eq_true, isGrade_iff]
  constructor
  · rintro ⟨j, hj, l, rfl⟩
    exact ⟨l, hj⟩
  · rintro ⟨l, hl⟩
    exact ⟨_, hl, l, rfl⟩

theorem canCarry_grade_iff (s : State) : canCarry Job.isGrade s = true ↔
    (∃ l, Job.gradeProfile l ∈ s.store.queue) ∨ s.store.queue.length < 6 := by
  simp only [canCarry, placeFree, Bool.or_eq_true, jobQueued_grade_iff, decide_eq_true_eq]

theorem carry_grade_joins (t : Ticket) (s : State) (h : ∃ l, Job.gradeProfile l ∈ s.store.queue) :
    carry Job.isGrade .gradeProfile t s = { s with
      store := { s.store with queue := s.store.queue.map fun
        | .gradeProfile l => .gradeProfile (l ++ [t])
        | j => j } } := by
  have hjoin : mapWhere Job.isGrade (Job.join t) s.store.queue = s.store.queue.map fun
      | .gradeProfile l => .gradeProfile (l ++ [t])
      | j => j := List.map_congr_left fun j _ => by cases j <;> rfl
  rw [carry, if_pos ((jobQueued_grade_iff s).2 h), hjoin]
  rfl

theorem carry_grade_queues (t : Ticket) (s : State) (h : ∀ l, Job.gradeProfile l ∉ s.store.queue) :
    carry Job.isGrade .gradeProfile t s
      = { s with store := { s.store with queue := s.store.queue ++ [.gradeProfile [t]] } } := by
  rw [carry, if_neg (fun hq => (jobQueued_grade_iff s).1 hq |>.elim h)]
  rfl

/-! ## Segments that a request may write (R73) -/

theorem segment_ok_iff (g : Segment) : g.ok = true ↔ -32767 ≤ g.reachFrom ∧ g.reachFrom ≤ 32766
    ∧ g.reachFrom < g.reachTo ∧ g.reachTo ≤ 32767 ∧ -32767 ≤ g.height ∧ g.height ≤ 32767
    ∧ -1000 ≤ g.slope ∧ g.slope ≤ 1000 := by
  simp only [Segment.ok, Bool.and_eq_true, within_iff, decide_eq_true_eq, and_assoc]

/-! ## The owners, past the level check (R71, R74) -/

@[simp] theorem leveled_guidance (r : Request) (s : State) : (leveled r s).guidance = s.guidance := noted_guidance r s

@[simp] theorem leveled_pilotTravel (r : Request) (s : State) : pilotTravel (leveled r s) = pilotTravel s :=
  noted_pilotTravel r s

/-- The segment that SET_GRADE's arguments spell. -/
def segmentArgs (a : List Byte) : Segment := ⟨argS16 a 2, argS16 a 4, argS16 a 6, argS16 a 8⟩

/-- The checks that a segment passes before it is written into a place. -/
def Segment.writable (g : Segment) (p : List (Option Segment)) (i : Nat) : Bool :=
  g.ok && within (-32767) 32767 (g.heightAt g.reachTo) && segmentFits p i g

theorem Segment.writable_iff (g : Segment) (p : List (Option Segment)) (i : Nat) : g.writable p i = true ↔
    g.ok = true ∧ within (-32767) 32767 (g.heightAt g.reachTo) = true ∧ segmentFits p i g = true := by
  simp only [Segment.writable, Bool.and_eq_true, and_assoc]

theorem Segment.writable_eq_false_iff (g : Segment) (p : List (Option Segment)) (i : Nat) :
    g.writable p i = false ↔
      g.ok = false ∨ within (-32767) 32767 (g.heightAt g.reachTo) = false ∨ segmentFits p i g = false := by
  simp only [Segment.writable, Bool.and_eq_false_iff, or_assoc]

/-- The Guidance Unit after a change of a place: scanned from the lowest present place, without a previous reach. -/
def regraded (i : Nat) (place : Option Segment) (s : State) : State :=
  let p := s.guidance.profile.set i place
  scanAndForm (setGuidance { s.guidance with
    profile := p, scanIndex := lowestPresent p, previousReach := none } s)

theorem changeGrade_eq (t : Ticket) (i : Nat) (place : Option Segment) (s : State) :
    changeGrade t i place s = if canCarry Job.isGrade s = true then
        .flight (carry Job.isGrade .gradeProfile { t with index := i } (regraded i place s))
      else .reply .busy [] s := by
  unfold changeGrade
  cases canCarry Job.isGrade s <;> rfl

/-- A taken request whose owner takes it into flight waits. -/
theorem inFlightWith_of_owner (code : Byte) (own : Owner) (c : Instr) (r : Request) (s u : State)
    (ht : taken code r s = true) (hc : exec c s = .next (settle s (takeRequest code (some own) r s)))
    (ho : own (ticketOf code r s) r.args (noted r s) = .flight u) : exec c s = inFlightWith r s u := by
  rw [hc, takeRequest_taken _ _ r s ht, ho]
  rfl

theorem exec_benchmark_answered (r : Request) (s : State) (ht : taken 14#8 r s = true) {res : Result}
    {data : List Byte} {u : State} (ho : benchmarkOwner (ticketOf 14#8 r s) r.args (noted r s) = .reply res data u) :
    exec (.benchmark r) s = repliedWith 14#8 res data r s u :=
  repliedWith_of_owner 14#8 benchmarkOwner _ r s _ _ _ ht rfl ho

theorem exec_setGrade_answered (r : Request) (s : State) (ht : taken 15#8 r s = true) {res : Result}
    {data : List Byte} {u : State} (ho : setGradeOwner (ticketOf 15#8 r s) r.args (noted r s) = .reply res data u) :
    exec (.setGrade r) s = repliedWith 15#8 res data r s u :=
  repliedWith_of_owner 15#8 setGradeOwner _ r s _ _ _ ht rfl ho

/-- A change of a place waits on its grade-profile job, or is Busy without one to join or a place. -/
theorem exec_setGrade_changed (r : Request) (s : State) (ht : taken 15#8 r s = true) (place : Option Segment)
    (ho : setGradeOwner (ticketOf 15#8 r s) r.args (noted r s)
      = changeGrade (ticketOf 15#8 r s) (argNat r.args 0) place (leveled r s)) : exec (.setGrade r) s =
    if canCarry Job.isGrade s = true then
      inFlightWith r s (carry Job.isGrade .gradeProfile { ticketOf 15#8 r s with index := argNat r.args 0 }
        (regraded (argNat r.args 0) place (leveled r s)))
    else repliedWith 15#8 .busy [] r s (leveled r s) := by
  rw [changeGrade_eq, leveled_canCarry] at ho
  split
  next hcarry => exact inFlightWith_of_owner 15#8 setGradeOwner _ r s _ ht rfl (ho.trans (if_pos hcarry))
  next hbusy => exact exec_setGrade_answered r s ht (ho.trans (if_neg hbusy))

section
variable {r : Request} {s : State} (hlimp : limpOrHold s = false) (hlevel : holds s r.station .supervisor = true)
include hlimp hlevel

theorem benchmarkOwner_leveled : benchmarkOwner (ticketOf 14#8 r s) r.args (noted r s) =
    if argNat r.args 0 = 0 then
      if s.pose.pose.quality ≠ .valid ∨ pilotTravel s = true then .reply .refusedState [] (leveled r s)
      else setBenchmark (some s.pose.pose.tip) (leveled r s)
    else if argNat r.args 0 = 1 then setBenchmark none (leveled r s)
    else .reply .badArgument [] (leveled r s) := by
  have hgrant : renewGrant (ticketOf 14#8 r s).station (noted r s) = leveled r s := rfl
  rw [benchmarkOwner, if_neg (by simp [hlimp]),
    checkLevel_passed _ _ _ _ (by rw [noted_holds]; exact hlevel) (by decide), hgrant, leveled_pose, leveled_pilotTravel]
  split
  next h0 => simp only [Bool.or_eq_true, bne_iff_ne, h0, ↓reduceIte]; rfl
  next h1 => rw [if_neg (by omega), if_pos h1]
  next h0 h1 => rw [if_neg h0, if_neg h1]; rfl

theorem setGradeOwner_leveled : setGradeOwner (ticketOf 15#8 r s) r.args (noted r s) =
    if 7 < argNat r.args 0 then .reply .unknownRecord [] (leveled r s)
    else match argNat r.args 1 with
      | 0 =>
        if (segmentArgs r.args).writable s.guidance.profile (argNat r.args 0) = true then
          changeGrade (ticketOf 15#8 r s) (argNat r.args 0) (some (segmentArgs r.args)) (leveled r s)
        else .reply .badArgument [] (leveled r s)
      | 1 =>
        match s.guidance.profile[argNat r.args 0]? with
        | some (some _) => changeGrade (ticketOf 15#8 r s) (argNat r.args 0) none (leveled r s)
        | _ => .reply .done (byte (argNat r.args 0) :: placeBytes none) (leveled r s)
      | _ => .reply .badArgument [] (leveled r s) := by
  have hgrant : renewGrant (ticketOf 15#8 r s).station (noted r s) = leveled r s := rfl
  rw [setGradeOwner, if_neg (by simp [hlimp]),
    checkLevel_passed _ _ _ _ (by rw [noted_holds]; exact hlevel) (by decide), hgrant, leveled_guidance]
  rfl

/-! ## BENCHMARK, taken (R71) -/

/-- BENCHMARK 0 stores the tip height of a Valid pose without travel, and is refused at any other. -/
theorem exec_benchmark_take (ht : taken 14#8 r s = true) (hop : argNat r.args 0 = 0) : exec (.benchmark r) s =
    if s.pose.pose.quality ≠ .valid ∨ pilotTravel s = true then repliedWith 14#8 .refusedState [] r s (leveled r s)
    else doneWith 14#8 (le 2 s.pose.pose.tip) r s
      (formGuidance (setGuidance { s.guidance with benchmark := some s.pose.pose.tip } (leveled r s))) := by
  have ho := benchmarkOwner_leveled hlimp hlevel
  rw [if_pos hop] at ho
  split
  next hrefused => exact exec_benchmark_answered r s ht (ho.trans (if_pos hrefused))
  next htaken =>
    rw [← leveled_guidance r s]
    exact exec_benchmark_answered r s ht (ho.trans (if_neg htaken))

theorem exec_benchmark_clear (ht : taken 14#8 r s = true) (hop : argNat r.args 0 = 1) :
    exec (.benchmark r) s = doneWith 14#8 [0x00#8, 0x80#8] r s
      (formGuidance (setGuidance { s.guidance with benchmark := none } (leveled r s))) := by
  have ho := benchmarkOwner_leveled hlimp hlevel
  rw [if_neg (by omega), if_pos hop] at ho
  rw [← leveled_guidance r s]
  exact exec_benchmark_answered r s ht ho

theorem exec_benchmark_badArgument (ht : taken 14#8 r s = true) (hop : 1 < argNat r.args 0) :
    exec (.benchmark r) s = repliedWith 14#8 .badArgument [] r s (leveled r s) := by
  have ho := benchmarkOwner_leveled hlimp hlevel
  rw [if_neg (by omega), if_neg (by omega)] at ho
  exact exec_benchmark_answered r s ht ho

/-! ## SET_GRADE, taken (R74) -/

theorem exec_setGrade_unknown (ht : taken 15#8 r s = true) (hi : 7 < argNat r.args 0) :
    exec (.setGrade r) s = repliedWith 15#8 .unknownRecord [] r s (leveled r s) :=
  exec_setGrade_answered r s ht ((setGradeOwner_leveled hlimp hlevel).trans (if_pos hi))

variable (hi : argNat r.args 0 ≤ 7)
include hi

/-- What SET_GRADE does with a segment that it may write. -/
theorem setGradeOwner_writes (hop : argNat r.args 1 = 0)
    (hg : (segmentArgs r.args).writable s.guidance.profile (argNat r.args 0) = true) :
    setGradeOwner (ticketOf 15#8 r s) r.args (noted r s)
      = changeGrade (ticketOf 15#8 r s) (argNat r.args 0) (some (segmentArgs r.args)) (leveled r s) := by
  rw [setGradeOwner_leveled hlimp hlevel, if_neg (by omega), hop]
  exact if_pos hg

theorem setGradeOwner_clears (hop : argNat r.args 1 = 1) (old : Segment)
    (hold : s.guidance.profile[argNat r.args 0]? = some (some old)) :
    setGradeOwner (ticketOf 15#8 r s) r.args (noted r s)
      = changeGrade (ticketOf 15#8 r s) (argNat r.args 0) none (leveled r s) := by
  have ho := setGradeOwner_leveled hlimp hlevel
  rw [if_neg (by omega), hop, hold] at ho
  exact ho

theorem exec_setGrade_absent (ht : taken 15#8 r s = true) (hop : argNat r.args 1 = 1)
    (hnone : s.guidance.profile[argNat r.args 0]? = some none) :
    exec (.setGrade r) s = doneWith 15#8 (byte (argNat r.args 0) :: placeBytes none) r s (leveled r s) := by
  have ho := setGradeOwner_leveled hlimp hlevel
  rw [if_neg (by omega), hop, hnone] at ho
  exact exec_setGrade_answered r s ht ho

theorem exec_setGrade_badArgument (ht : taken 15#8 r s = true) (hbad : 1 < argNat r.args 1 ∨ (argNat r.args 1 = 0
      ∧ (segmentArgs r.args).writable s.guidance.profile (argNat r.args 0) = false)) :
    exec (.setGrade r) s = repliedWith 15#8 .badArgument [] r s (leveled r s) := by
  refine exec_setGrade_answered r s ht ?_
  rw [setGradeOwner_leveled hlimp hlevel, if_neg (by omega)]
  rcases hbad with hop | ⟨hop, hg⟩
  · split
    · omega
    · omega
    · rfl
  · rw [hop]
    exact if_neg (by simp [hg])

end

theorem refusedBelow_guidance : RefusedBelow .supervisor [(14#8, .benchmark), (15#8, .setGrade)] := by
  refine refusedBelow_of_owners _ _ fun x hx => ?_
  simp only [List.mem_cons, List.not_mem_nil, or_false] at hx
  rcases hx with rfl | rfl
  · refine ⟨benchmarkOwner, fun _ _ => rfl, fun t a s hlimp _ hlevel => ?_⟩
    rw [benchmarkOwner, if_neg (by simp [hlimp.resolve_left (by decide)]), checkLevel_refused _ _ _ _ hlevel]
  · refine ⟨setGradeOwner, fun _ _ => rfl, fun t a s hlimp _ hlevel => ?_⟩
    rw [setGradeOwner, if_neg (by simp [hlimp.resolve_left (by decide)]), checkLevel_refused _ _ _ _ hlevel]

/-- Settles O39: the requests by their owners past the level check, the scan by its path, the result by its fields,
and the floor as the least of the considered entries. -/
theorem guidanceRequests : Obligations.GuidanceRequests := by
  refine ⟨fun r s hlimp hlevel => ?_, refusedBelow_guidance, segment_ok_iff, segmentFits_iff,
    fun t s => ⟨canCarry_grade_iff s, carry_grade_joins t s, carry_grade_queues t s⟩, fun s => ⟨rfl, rfl⟩,
    fun g r => ?_, fun s => ?_, fun s => ?_⟩
  · intro u i g waits
    have hwaits (place : Option Segment) : waits place = inFlightWith r s
        (carry Job.isGrade .gradeProfile { ticketOf 15#8 r s with index := i } (regraded i place u)) := by
      simp only [regraded, u, leveled_guidance]
      rfl
    refine ⟨fun ht hop hpose htravel => ?_, exec_benchmark_clear hlimp hlevel, fun ht hi hop hok hin hfits hcarry => ?_,
      fun old ht hi hop hold hcarry => ?_, fun ht hi hop => exec_setGrade_absent hlimp hlevel hi ht hop,
      exec_benchmark_badArgument hlimp hlevel, fun ht hop hrefused => ?_, exec_setGrade_unknown hlimp hlevel,
      fun ht hi hbad => ?_, fun ht hi hbusy h => ?_⟩
    · exact (exec_benchmark_take hlimp hlevel ht hop).trans (if_neg (by simp [hpose, htravel]))
    · have ho := setGradeOwner_writes hlimp hlevel hi hop ((Segment.writable_iff _ _ _).2 ⟨hok, hin, hfits⟩)
      exact ((exec_setGrade_changed r s ht _ ho).trans (if_pos hcarry)).trans (hwaits _).symm
    · have ho := setGradeOwner_clears hlimp hlevel hi hop old hold
      exact ((exec_setGrade_changed r s ht _ ho).trans (if_pos hcarry)).trans (hwaits _).symm
    · exact (exec_benchmark_take hlimp hlevel ht hop).trans (if_pos hrefused)
    · refine exec_setGrade_badArgument hlimp hlevel hi ht ?_
      rw [Segment.writable_eq_false_iff]
      exact hbad
    · have hbusy' : ¬ canCarry Job.isGrade s = true := by simp [hbusy]
      rcases h with ⟨hop, hg⟩ | ⟨hop, old, hold⟩
      · have ho := setGradeOwner_writes hlimp hlevel hi hop ((Segment.writable_iff _ _ _).2 hg)
        exact (exec_setGrade_changed r s ht _ ho).trans (if_neg hbusy')
      · have ho := setGradeOwner_clears hlimp hlevel hi hop old hold
        exact (exec_setGrade_changed r s ht _ ho).trans (if_neg hbusy')
  · refine ⟨fun hnone => scanAt_no_segment g r ?_, fun lowest highest first last a b c x hlow hhigh hfirst hlast hbetween
      hstart hout hin hplace => ?_⟩
    · exact List.eq_nil_iff_forall_not_mem.2 fun y hy => hnone y.1 y.2 ((mem_presentPlaces _ _ _).1 hy)
    · have path : ScanPath g r (lowest, a) (highest, b) (first, c) (last, x) := by
        constructor <;> simp only [mem_presentPlaces, Prod.forall, directionOf_outward_iff, directionOf_inward_iff,
          directionOf_inPlace_iff] <;> assumption
      exact path.scanAt_eq
  · obtain ⟨hfound, hheight, hunfound⟩ := guidanceResult_parts s
    refine ⟨?_, fun i x hscan hx => ?_, guidanceResult_no_error s, hheight, hunfound⟩
    · rw [guidanceResult_reason]
      unfold reasonOf
      cases s.pose.pose.quality with
      | invalid => rfl
      | degraded => rfl
      | valid => cases s.guidance.benchmark <;> cases s.guidance.scan <;> rfl
    · obtain ⟨hsegment, hshown, herror⟩ := hfound i x hscan hx
      exact ⟨hsegment, x.heightAt s.pose.pose.reach, nearest_heightAt x _, hshown, herror⟩
  · rw [guidanceResult_floor]
    refine ⟨fun hnone => nearestFloor_none _ _ fun x hx c hc => ?_, fun i e c hc hleast => ?_⟩
    · exact hnone x.1 x.2 c ⟨(mem_indexed _ _ _).1 hx, hc⟩
    · exact nearestFloor_least _ _ (indexed_sorted _) i e c ((mem_indexed _ _ _).2 hc.1) hc.2
        fun x hx k hk => hleast x.1 x.2 k ⟨(mem_indexed _ _ _).1 hx, hk⟩

end Sys2Proof.Machine
end

section
/-! PROOFS. PUMP and PILOT at the work-cycle detector and at the Economy Unit, a pose update at the detector, and the
completed cycle at its consumers (R71, R72, R81 to R85, R92 to R95). -/

namespace Sys2Proof.Machine

/-! ## The arrivals, handed on -/

theorem exec_pump (f : Frame) (s : State) (x : Nat × SubEntry × SubEntry × Payload) (pressure : Nat)
    (h : accepted .pump none f s = some x) (hp : x.2.2.2 = .pump pressure) :
    exec (.pump f) s = .next (settle s (detectorPump (gradedBy x s))) :=
  (finish_takeFrame .pump none f s x h).trans (by rw [hp]; rfl)

theorem exec_pilot (f : Frame) (s : State) (x : Nat × SubEntry × SubEntry × Payload) (m : MotionSet) (travel : Bool)
    (h : accepted .pilot none f s = some x) (hp : x.2.2.2 = .pilot m travel) :
    exec (.pilot f) s = .next (settle s (guidancePilot (economyPilot (gradedBy x s)))) :=
  (finish_takeFrame .pilot none f s x h).trans (by rw [hp]; rfl)

/-! ## PILOT at the economy state machine (R92 to R95) -/

theorem activityAbsent_of_working (s : State) (h : s.economy.state = .working) :
    activityAbsent s = if s.intervention.list = [] then enterIdleWait s else enterEconomy .held s := by
  simp only [activityAbsent, h, List.isEmpty_iff]

theorem activityAbsent_of_resuming (s : State) (h : s.economy.state = .resuming) :
    activityAbsent s = enterIdleWait s := by
  simp only [activityAbsent, h]

/-! ## The conditions of the detector (R81) -/

theorem swungAway_iff (s : State) : swungAway s = true ↔
    ∃ a, s.guidance.digAngle = some a ∧ 5461 < (signedDiff s.pose.pose.slewAngle a).natAbs := by
  unfold swungAway
  cases s.guidance.digAngle <;> simp

theorem pumpAbove_iff (s : State) (n : Nat) :
    pumpAbove s n = true ↔ ∃ p, livePayload s .pump = some (.pump p) ∧ n < p := by
  unfold pumpAbove
  split
  next p hp => simp [hp]
  next hother => simpa using fun p hp => absurd hp (hother p)

/-- A dig begins with a curl and without Travel, under pressure, at a pose that is not Invalid. -/
theorem digBegins_iff (s : State) : digBegins s = true ↔
    (∃ m, livePayload s .pilot = some (.pilot m false) ∧ m &&& 0x10#8 ≠ 0#8)
      ∧ (∃ p, livePayload s .pump = some (.pump p) ∧ s.config.digThreshold < p)
      ∧ s.pose.pose.quality ≠ .invalid := by
  unfold digBegins
  rw [Bool.and_eq_true, Bool.and_eq_true, pumpAbove_iff, bne_iff_ne, and_assoc]
  refine and_congr_left' ?_
  split
  next m travel hp =>
    cases travel <;> simp [hp, MotionSet.meets, MotionSet.bucketCurl]
  next hother => simpa using fun m hm => absurd hm (hother m false)

/-! ## The detector's stages (R81, R82) -/

theorem beginDig_eq (s : State) : beginDig s = setGuidance
    { s.guidance with detector := .digging, stageTimer := some (s.now + 20000),
                      digAngle := some s.pose.pose.slewAngle } s := rfl

theorem detectorPump_eq (s : State) :
    detectorPump s = if s.guidance.detector = .idle ∧ digBegins s = true then beginDig s else s := by
  simp only [detectorPump, Bool.and_eq_true, beq_iff_eq]

theorem completeCycle_eq (s : State) : completeCycle s = economyCycle (meterCycle (setGuidance
    { s.guidance with detector := .idle, digAngle := none, stageTimer := none, outcome := .completed } s)) := rfl

/-- A cycle that ends where a stage was entered ends as one that entered none. -/
theorem completeCycle_enterStage (d : Detector) (s : State) : completeCycle (enterStage d s) = completeCycle s := rfl

theorem testReturn_eq (s : State) : testReturn s =
    if ∃ a, s.guidance.digAngle = some a ∧ 5461 < (signedDiff s.pose.pose.slewAngle a).natAbs then s
    else completeCycle s := by
  simp only [testReturn, swungAway_iff]

/-! ## PILOT at the detector (R81, R84) -/

theorem pilotTravel_of_payload (s : State) (m : MotionSet) (travel : Bool)
    (h : payloadOf s .pilot = some (.pilot m travel)) : pilotTravel s = travel := by
  simp only [pilotTravel, h]

theorem pilotMotions_of_payload (s : State) (m : MotionSet) (travel : Bool)
    (h : payloadOf s .pilot = some (.pilot m travel)) : pilotMotions s = m := by
  simp only [pilotMotions, h]

/-- With Travel the cycle is abandoned, no benchmark is held, and the result is formed. -/
theorem guidancePilot_of_travel (s : State) (h : pilotTravel s = true) : guidancePilot s =
    formGuidance (setGuidance { (abandonCycle s).guidance with benchmark := none } (abandonCycle s)) :=
  if_pos h

theorem guidancePilot_without_travel (s : State) (h : pilotTravel s = false) : guidancePilot s = detectorPilot s :=
  if_neg (by simp [h])

theorem detectorPilot_of_idle (s : State) (h : s.guidance.detector = .idle) :
    detectorPilot s = if digBegins s = true then beginDig s else s := by
  simp only [detectorPilot, h]

theorem detectorPilot_elsewhere (s : State) (h : s.guidance.detector = .digging ∨ s.guidance.detector = .returning) :
    detectorPilot s = s := by
  rcases h with h | h <;> simp only [detectorPilot, h]

theorem detectorPilot_of_swingLoaded (s : State) (h : s.guidance.detector = .swingLoaded) : detectorPilot s =
    if pilotMotions s &&& 0x20#8 ≠ 0#8 then enterStage .dumping s else s := by
  simp only [detectorPilot, h, MotionSet.meets, MotionSet.bucketDump, bne_iff_ne]

/-- Once the bucket no longer dumps, the cycle goes on to Returning, or ends there near the dig. -/
theorem detectorPilot_of_dumping (s : State) (h : s.guidance.detector = .dumping) : detectorPilot s =
    if pilotMotions s &&& 0x20#8 ≠ 0#8 then s
    else if ∃ a, s.guidance.digAngle = some a ∧ 5461 < (signedDiff s.pose.pose.slewAngle a).natAbs then
      enterStage .returning s
    else completeCycle s := by
  rw [← completeCycle_enterStage .returning]
  simp only [detectorPilot, h, MotionSet.meets, MotionSet.bucketDump, bne_iff_ne]
  exact if_congr Iff.rfl rfl (testReturn_eq _)

/-! ## A pose update at the detector (R81, R82, R84) -/

theorem detectorPose_of_invalid (s : State) (h : s.pose.pose.quality = .invalid) :
    detectorPose s = abandonCycle s := by
  simp [detectorPose, h]

theorem detectorPose_of_digging (s : State) (hq : s.pose.pose.quality ≠ .invalid)
    (h : s.guidance.detector = .digging) : detectorPose s =
    if ∃ a, s.guidance.digAngle = some a ∧ 5461 < (signedDiff s.pose.pose.slewAngle a).natAbs then
      enterStage .swingLoaded s
    else s := by
  simp [detectorPose, hq, h, swungAway_iff]

theorem detectorPose_of_returning (s : State) (hq : s.pose.pose.quality ≠ .invalid)
    (h : s.guidance.detector = .returning) : detectorPose s = testReturn s := by
  simp [detectorPose, hq, h]

theorem detectorPose_elsewhere (s : State) (hq : s.pose.pose.quality ≠ .invalid) (h : s.guidance.detector = .idle
    ∨ s.guidance.detector = .swingLoaded ∨ s.guidance.detector = .dumping) : detectorPose s = s := by
  rcases h with h | h | h <;> simp [detectorPose, hq, h]

/-! ## The completed cycle at its consumers (R85, R104, R125) -/

theorem announceMeter_eq (n : Nat) (s : State) :
    announceMeter n s = if s.power = .running then serviceMeter n s else s := by
  simp only [announceMeter, beq_iff_eq]

theorem meterCycle_eq (s : State) : meterCycle s =
    if s.meter.keyOffTaken = true ∨ 999999999 ≤ s.meter.meters.cycles then s
    else announceMeter 7 (setMeterUnit { s.meter with
      meters := { s.meter.meters with cycles := s.meter.meters.cycles + 1 } } s) := by
  simp only [meterCycle, Bool.or_eq_true, decide_eq_true_eq]
  rfl

theorem economyCycle_eq (s : State) : economyCycle s = setEconomy { s.economy with days := { s.economy.days with
    opened := { s.economy.days.opened with cycles := min 65535 (s.economy.days.opened.cycles + 1) } } } s := by
  simp only [economyCycle, modifyOpened, setDays, satAdd_eq_min]

/-- Settles O47: each arrival is handed on from the graded state; the economy state, the detector and the consumers of
a completed cycle have an equation per case. -/
theorem pumpAndPilotArrivals : Obligations.PumpAndPilotArrivals := by
  refine ⟨fun f s x pressure h hp => ?_, exec_pilot, fun s => ⟨fun hactive => ?_, fun hactive => ?_⟩,
    fun s m hp => ?_, fun s m hp => ?_, fun s => ?_, digBegins_iff, fun s => ?_⟩
  · rw [exec_pump f s x pressure h hp, detectorPump_eq, beginDig_eq, gradedBy_now]
  · rw [economyPilot, if_pos hactive, activityPresent]
    cases s.economy.state <;> rfl
  · rw [economyPilot, if_neg (by simp [hactive])]
    cases hstate : s.economy.state with
    | working => exact activityAbsent_of_working s hstate
    | resuming => exact activityAbsent_of_resuming s hstate
    | stopped | idleWait | idling | shutdownPending | held | forced => simp only [activityAbsent, hstate]
  · intro g stopped lost
    have hreason := reasonOf_no_benchmark lost rfl
    obtain ⟨herror, hband⟩ := guidanceResult_no_error lost (reasonOf_ne_none lost rfl)
    refine ⟨?_, herror, hband, hreason⟩
    rw [guidancePilot_of_travel s (pilotTravel_of_payload s m true hp), abandonCycle_eq]
    rfl
  · intro g dumps stage swung
    rw [guidancePilot_without_travel s (pilotTravel_of_payload s m false hp)]
    have hmotions := pilotMotions_of_payload s m false hp
    refine ⟨fun hd hbegins => ?_, fun hd hbegins => ?_, detectorPilot_elsewhere s, fun hd hdumps => ?_,
      fun hd hdumps => ?_, fun hd hdumps => ?_, fun hd hdumps hswung => ?_, fun hd hdumps hswung => ?_⟩
    · rw [detectorPilot_of_idle s hd, if_pos hbegins, beginDig_eq]
    · rw [detectorPilot_of_idle s hd, if_neg (by simp [hbegins])]
    · rw [detectorPilot_of_swingLoaded s hd, hmotions, if_pos hdumps]
      rfl
    · rw [detectorPilot_of_swingLoaded s hd, hmotions, if_neg hdumps]
    · rw [detectorPilot_of_dumping s hd, hmotions, if_pos hdumps]
    · rw [detectorPilot_of_dumping s hd, hmotions, if_neg hdumps, if_pos hswung]
      rfl
    · rw [detectorPilot_of_dumping s hd, hmotions, if_neg hdumps, if_neg hswung, completeCycle_eq]
  · intro u g swung
    have hpose : guidancePose s = detectorPose u := rfl
    rw [hpose]
    refine ⟨fun hq hd => ?_, fun hq hd => ?_, fun hq => ⟨fun hd hswung => ?_, fun hd hswung => ?_, fun hd hswung => ?_,
      fun hd hswung => ?_, detectorPose_elsewhere u hq⟩⟩
    · rw [detectorPose_of_invalid u hq, abandonCycle_eq, if_pos hd]
      rfl
    · rw [detectorPose_of_invalid u hq, abandonCycle_eq, if_neg hd]
    · exact (detectorPose_of_digging u hq hd).trans (if_pos hswung)
    · exact (detectorPose_of_digging u hq hd).trans (if_neg hswung)
    · exact (detectorPose_of_returning u hq hd).trans ((testReturn_eq u).trans (if_pos hswung))
    · exact (detectorPose_of_returning u hq hd).trans ((testReturn_eq u).trans (if_neg hswung))
  · intro counted
    rw [meterCycle_eq]
    refine ⟨fun hstays => if_pos hstays, fun hkey hcycles => ?_, economyCycle_eq s⟩
    rw [if_neg (by simp [hkey, hcycles]), announceMeter_eq]
    rfl

end Sys2Proof.Machine
end

section
/-! PROOFS. What leaves R96's law as it is: the operations of the blocks that neither change the economy state nor list
or remove a record (R85, R102 to R107, R113, R130 to R134, R142 to R152). -/

namespace Sys2Proof.Machine

/-! ## The Diagnostic List, the transmit queue, the replies and the store -/

@[simp] theorem idleLaw_report (c : FaultCode) (f : FaultSource) (s : State) : idleLaw (report c f s) = idleLaw s := rfl
@[simp] theorem idleLaw_endFault (c : FaultCode) (f : FaultSource) (s : State) :
    idleLaw (endFault c f s) = idleLaw s := rfl
@[simp] theorem idleLaw_pulseFault (c : FaultCode) (f : FaultSource) (s : State) :
    idleLaw (pulseFault c f s) = idleLaw s := rfl
@[simp] theorem idleLaw_useFree (s : State) : idleLaw (useFree s) = idleLaw s := rfl
@[simp] theorem idleLaw_placeContent (p : CyclicPub) (d : List Byte) (s : State) :
    idleLaw (placeContent p d s) = idleLaw s := rfl
@[simp] theorem idleLaw_modifyRequest (n : Nat) (f : SubEntry → SubEntry) (s : State) :
    idleLaw (modifyRequest n f s) = idleLaw s := rfl
@[simp] theorem idleLaw_sendReply (t : Ticket) (r : Result) (d : List Byte) (s : State) :
    idleLaw (sendReply t r d s) = idleLaw s := rfl
@[simp] theorem idleLaw_finishRequest (t : Ticket) (r : Result) (d : List Byte) (s : State) :
    idleLaw (finishRequest t r d s) = idleLaw s := rfl
@[simp] theorem idleLaw_setItem (i : Nat) (x : ServiceItem) (s : State) : idleLaw (setItem i x s) = idleLaw s := rfl
@[simp] theorem idleLaw_setService (u : ServiceUnit) (s : State) : idleLaw (setService u s) = idleLaw s := rfl
@[simp] theorem idleLaw_setMeterUnit (u : MeterUnit) (s : State) : idleLaw (setMeterUnit u s) = idleLaw s := rfl
@[simp] theorem idleLaw_setGuidance (g : GuidanceUnit) (s : State) : idleLaw (setGuidance g s) = idleLaw s := rfl
@[simp] theorem idleLaw_setPoseUnit (u : PoseUnit) (s : State) : idleLaw (setPoseUnit u s) = idleLaw s := rfl
@[simp] theorem idleLaw_setLimit (i : Nat) (e : LimitEntry) (s : State) : idleLaw (setLimit i e s) = idleLaw s := rfl
@[simp] theorem idleLaw_setTopic (i : Nat) (e : SubEntry) (s : State) : idleLaw (setTopic i e s) = idleLaw s := rfl
@[simp] theorem idleLaw_setTime (t : TimeBase) (s : State) : idleLaw (setTime t s) = idleLaw s := rfl
@[simp] theorem idleLaw_setDays (f : DayArea → DayArea) (s : State) : idleLaw (setDays f s) = idleLaw s := rfl
@[simp] theorem idleLaw_setQueue (q : List Job) (s : State) : idleLaw (setQueue q s) = idleLaw s := rfl
@[simp] theorem idleLaw_queueJob (j : Job) (s : State) : idleLaw (queueJob j s) = idleLaw s := rfl
@[simp] theorem idleLaw_renewGrant (n : Nat) (s : State) : idleLaw (renewGrant n s) = idleLaw s := rfl
@[simp] theorem idleLaw_setDue (p : CyclicPub) (n : Nat) (s : State) : idleLaw (setDue p n s) = idleLaw s := rfl

@[simp] theorem idleLaw_carry (k : Job → Bool) (j : List Ticket → Job) (t : Ticket) (s : State) :
    idleLaw (carry k j t s) = idleLaw s := by
  unfold carry
  split <;> rfl

@[simp] theorem idleLaw_queueWarning (n : WarnNotice) (s : State) : idleLaw (queueWarning n s) = idleLaw s := by
  unfold queueWarning
  dsimp only
  split <;> rfl

@[simp] theorem idleLaw_queueServiceNotice (i : Nat) (x : ServiceItem) (k : ServiceNoticeKind) (s : State) :
    idleLaw (queueServiceNotice i x k s) = idleLaw s := by
  unfold queueServiceNotice
  split <;> rfl

/-! ## The day records and the fuel accounts (R102 to R106) -/

@[simp] theorem idleLaw_wantDayJob (s : State) : idleLaw (wantDayJob s) = idleLaw s := by
  unfold wantDayJob
  split
  · rfl
  · split <;> rfl

@[simp] theorem idleLaw_economyRollover (s : State) : idleLaw (economyRollover s) = idleLaw s := by
  simp [economyRollover]

@[simp] theorem idleLaw_economyClockSet (d : Date) (s : State) : idleLaw (economyClockSet d s) = idleLaw s := by
  unfold economyClockSet
  dsimp only
  split <;> simp [modifyOpened]

@[simp] theorem idleLaw_economySecond (s : State) : idleLaw (economySecond s) = idleLaw s := by
  unfold economySecond
  split <;> rfl

@[simp] theorem idleLaw_shiftStart (s : State) : idleLaw (shiftStart s) = idleLaw s := rfl
@[simp] theorem idleLaw_integrateFuel (n : Nat) (s : State) : idleLaw (integrateFuel n s) = idleLaw s := rfl
@[simp] theorem idleLaw_economyCycle (s : State) : idleLaw (economyCycle s) = idleLaw s := rfl
@[simp] theorem idleLaw_economyRaise (s : State) : idleLaw (economyRaise s) = idleLaw s := rfl

/-! ## The Service Unit -/

@[simp] theorem idleLaw_wantServiceJob (s : State) : idleLaw (wantServiceJob s) = idleLaw s := by
  unfold wantServiceJob
  split
  · rfl
  · split <;> rfl

@[simp] theorem idleLaw_formDerate (s : State) : idleLaw (formDerate s) = idleLaw s := rfl

@[simp] theorem idleLaw_restand (i : Nat) (x : ServiceItem) (m d : Standing) (s : State) :
    idleLaw (restand i x m d s) = idleLaw s := by
  unfold restand
  dsimp only
  repeat' split
  all_goals simp

theorem idleLaw_forItems (f : Nat → ServiceItem → State → State) (hf : ∀ i x s, idleLaw (f i x s) = idleLaw s)
    (s : State) : idleLaw (forItems f s) = idleLaw s := by
  refine foldl_keeps idleLaw _ (fun s i => ?_) _ s
  split
  · exact hf ..
  · rfl

@[simp] theorem idleLaw_serviceMeter (n : Nat) (s : State) : idleLaw (serviceMeter n s) = idleLaw s := by
  refine idleLaw_forItems _ (fun i x s => ?_) s
  split
  · simp
  · rfl

@[simp] theorem idleLaw_serviceCalendar (s : State) : idleLaw (serviceCalendar s) = idleLaw s := by
  unfold serviceCalendar
  split
  · rfl
  · exact idleLaw_forItems _ (fun i x s => idleLaw_restand ..) s

@[simp] theorem idleLaw_beginDayCounts (s : State) : idleLaw (beginDayCounts s) = idleLaw s := by
  unfold beginDayCounts
  split
  · rfl
  · refine idleLaw_forItems _ (fun i x s => ?_) s
    split
    · simp
    · rfl

@[simp] theorem idleLaw_serviceRollover (s : State) : idleLaw (serviceRollover s) = idleLaw s := by
  simp [serviceRollover]

@[simp] theorem idleLaw_serviceReminder (k : Nat) (s : State) : idleLaw (serviceReminder k s) = idleLaw s := by
  refine idleLaw_forItems _ (fun i x s => ?_) s
  split
  · simp
  · rfl

@[simp] theorem idleLaw_serviceShiftStart (s : State) : idleLaw (serviceShiftStart s) = idleLaw s := rfl

@[simp] theorem idleLaw_recordService (i : Nat) (x : ServiceItem) (t : Ticket) (s : State) :
    idleLaw (recordService i x t s) = idleLaw s := by
  simp [recordService]

/-! ## The Meter Unit -/

@[simp] theorem idleLaw_announceMeter (n : Nat) (s : State) : idleLaw (announceMeter n s) = idleLaw s := by
  unfold announceMeter
  split
  · simp
  · rfl

@[simp] theorem idleLaw_meterCycle (s : State) : idleLaw (meterCycle s) = idleLaw s := by
  unfold meterCycle
  split
  · rfl
  · simp

@[simp] theorem idleLaw_answerWaiters (l : List Waiter) (s : State) : idleLaw (answerWaiters l s) = idleLaw s := by
  unfold answerWaiters
  refine foldl_keeps idleLaw _ (fun s w => ?_) l s
  rw [idleLaw_finishRequest]

@[simp] theorem idleLaw_exhaustCheckpoints (s : State) : idleLaw (exhaustCheckpoints s) = idleLaw s := by
  simp [exhaustCheckpoints]

@[simp] theorem idleLaw_queueCheckpoint (urgent : Bool) (s : State) :
    idleLaw (queueCheckpoint urgent s) = idleLaw s := by
  unfold queueCheckpoint
  dsimp only
  split <;> rfl

@[simp] theorem idleLaw_takeOverPending (s : State) : idleLaw (takeOverPending s) = idleLaw s := rfl

@[simp] theorem idleLaw_wantCheckpoint (s : State) : idleLaw (wantCheckpoint s) = idleLaw s := by
  unfold wantCheckpoint
  repeat' split
  all_goals simp

@[simp] theorem idleLaw_wantCheckpointFor (t : Ticket) (s : State) : idleLaw (wantCheckpointFor t s) = idleLaw s := by
  simp [wantCheckpointFor]

@[simp] theorem idleLaw_urgentCheckpoint (s : State) : idleLaw (urgentCheckpoint s) = idleLaw s := by
  unfold urgentCheckpoint
  dsimp only
  repeat' split
  all_goals simp

@[simp] theorem idleLaw_offerPendingCheckpoint (s : State) : idleLaw (offerPendingCheckpoint s) = idleLaw s := by
  unfold offerPendingCheckpoint
  repeat' split
  all_goals simp

@[simp] theorem idleLaw_checkpointCompleted (n : Nat) (s : State) :
    idleLaw (checkpointCompleted n s) = idleLaw s := by
  simp [checkpointCompleted]

@[simp] theorem idleLaw_meterSecond (s : State) : idleLaw (meterSecond s) = idleLaw s := by
  unfold meterSecond
  split
  · rfl
  · refine (foldl_keeps idleLaw _ (fun s n => idleLaw_announceMeter n s) _ _).trans ?_
    dsimp only
    repeat' split
    all_goals simp

/-! ## The Guidance Unit -/

@[simp] theorem idleLaw_formGuidance (s : State) : idleLaw (formGuidance s) = idleLaw s := rfl
@[simp] theorem idleLaw_scanAndForm (s : State) : idleLaw (scanAndForm s) = idleLaw s := rfl
@[simp] theorem idleLaw_enterStage (d : Detector) (s : State) : idleLaw (enterStage d s) = idleLaw s := rfl
@[simp] theorem idleLaw_endCycle (o : CycleOutcome) (s : State) : idleLaw (endCycle o s) = idleLaw s := rfl
@[simp] theorem idleLaw_beginDig (s : State) : idleLaw (beginDig s) = idleLaw s := rfl

@[simp] theorem idleLaw_abandonCycle (s : State) : idleLaw (abandonCycle s) = idleLaw s := by
  unfold abandonCycle
  split <;> rfl

@[simp] theorem idleLaw_completeCycle (s : State) : idleLaw (completeCycle s) = idleLaw s := by
  simp [completeCycle]

@[simp] theorem idleLaw_testReturn (s : State) : idleLaw (testReturn s) = idleLaw s := by
  unfold testReturn
  split
  · rfl
  · simp

@[simp] theorem idleLaw_detectorPump (s : State) : idleLaw (detectorPump s) = idleLaw s := by
  unfold detectorPump
  split <;> rfl

@[simp] theorem idleLaw_detectorPilot (s : State) : idleLaw (detectorPilot s) = idleLaw s := by
  unfold detectorPilot
  dsimp only
  repeat' split
  all_goals simp

@[simp] theorem idleLaw_detectorPose (s : State) : idleLaw (detectorPose s) = idleLaw s := by
  unfold detectorPose
  repeat' split
  all_goals simp

@[simp] theorem idleLaw_stageExpired (s : State) : idleLaw (stageExpired s) = idleLaw s := by
  unfold stageExpired
  split <;> rfl

@[simp] theorem idleLaw_guidancePilot (s : State) : idleLaw (guidancePilot s) = idleLaw s := by
  unfold guidancePilot
  split <;> simp

@[simp] theorem idleLaw_guidancePose (s : State) : idleLaw (guidancePose s) = idleLaw s := by
  simp [guidancePose]

/-! ## The Envelope and Pose Units -/

@[simp] theorem idleLaw_evaluateEntry (i : Nat) (e : LimitEntry) (s : State) :
    idleLaw (evaluateEntry i e s).1 = idleLaw s := by
  unfold evaluateEntry
  dsimp only
  split <;> simp

@[simp] theorem idleLaw_evaluateAll (s : State) : idleLaw (evaluateAll s).1 = idleLaw s := by
  refine foldl_keeps (fun x : State × List Handed => idleLaw x.1) _ (fun x i => ?_) (List.range 12) (s, [])
  dsimp only
  repeat' split
  all_goals simp

@[simp] theorem idleLaw_envelopePose (s : State) : idleLaw (envelopePose s).1 = idleLaw s := by
  unfold envelopePose
  split
  · rfl
  · simp

@[simp] theorem idleLaw_setDescriptor (i : Nat) (old new : Descriptor) (s : State) :
    idleLaw (setDescriptor i old new s) = idleLaw s := by
  unfold setDescriptor
  dsimp only
  repeat' split
  all_goals rfl

@[simp] theorem idleLaw_recallLookup (i : Nat) (x : Int) (s : State) : idleLaw (recallLookup i x s) = idleLaw s := by
  unfold recallLookup
  split
  · split <;> simp
  · rfl

@[simp] theorem idleLaw_applyGrade (s : State) : idleLaw (applyGrade s) = idleLaw s := by
  unfold applyGrade
  dsimp only
  split <;> rfl

/-! ## The Time Base -/

theorem idleLaw_takeAll (takes : State → Announcement → State) (h : ∀ s a, idleLaw (takes s a) = idleLaw s)
    (l : List Announcement) (s : State) : idleLaw (takeAll takes l s) = idleLaw s := by
  unfold takeAll
  split
  · exact foldl_keeps idleLaw _ h _ _
  · exact foldl_keeps idleLaw _ h _ _

@[simp] theorem idleLaw_economyTakes (s : State) (a : Announcement) : idleLaw (economyTakes s a) = idleLaw s := by
  cases a <;> simp [economyTakes]

@[simp] theorem idleLaw_serviceTakes (s : State) (a : Announcement) : idleLaw (serviceTakes s a) = idleLaw s := by
  cases a <;> simp [serviceTakes]

@[simp] theorem idleLaw_announceCount (s : State) : idleLaw (announceCount s) = idleLaw s := by
  unfold announceCount
  dsimp only
  split
  · rw [idleLaw_takeAll _ idleLaw_serviceTakes, idleLaw_takeAll _ idleLaw_economyTakes, idleLaw_meterSecond]
  · simp

@[simp] theorem idleLaw_clockCounted (s : State) : idleLaw (clockCounted s) = idleLaw s := by
  unfold clockCounted
  dsimp only
  repeat' split
  all_goals simp [countSecond]

@[simp] theorem idleLaw_setClockTo (t : ClockTime) (src : SetSource) (s : State) :
    idleLaw (setClockTo t src s) = idleLaw s := by
  simp [setClockTo]

@[simp] theorem idleLaw_timeSyncArrival (t : ClockTime) (s : State) : idleLaw (timeSyncArrival t s) = idleLaw s := by
  unfold timeSyncArrival
  repeat' split
  all_goals simp

@[simp] theorem idleLaw_oscillatorStopped (s : State) : idleLaw (oscillatorStopped s) = idleLaw s := by
  unfold oscillatorStopped
  dsimp only
  repeat' split
  all_goals rfl

@[simp] theorem idleLaw_oscillatorRestarted (s : State) : idleLaw (oscillatorRestarted s) = idleLaw s := by
  unfold oscillatorRestarted
  dsimp only
  repeat' split
  all_goals rfl

/-! ## The end of a store write -/

@[simp] theorem idleLaw_answerLimit (t : Ticket) (s : State) : idleLaw (answerLimit t s) = idleLaw s := by
  unfold answerLimit
  split <;> rfl

@[simp] theorem idleLaw_answerGrade (t : Ticket) (s : State) : idleLaw (answerGrade t s) = idleLaw s := rfl

@[simp] theorem idleLaw_answerService (t : Ticket) (s : State) : idleLaw (answerService t s) = idleLaw s := by
  unfold answerService
  split <;> rfl

@[simp] theorem idleLaw_jobCompleted (w : Writing) (s : State) : idleLaw (jobCompleted w s) = idleLaw s := by
  unfold jobCompleted
  split
  case h_1 => rfl
  case h_2 => split <;> simp
  case h_3 => exact foldl_keeps idleLaw _ (fun s t => idleLaw_answerGrade t s) _ s
  case h_4 => exact foldl_keeps idleLaw _ (fun s t => idleLaw_answerLimit t s) _ s
  case h_7 => rfl
  all_goals
    refine foldl_keeps idleLaw _ (fun s t => ?_) _ s
    split <;> simp

@[simp] theorem idleLaw_offerDayJob (s : State) : idleLaw (offerDayJob s) = idleLaw s := by
  unfold offerDayJob
  split <;> simp

@[simp] theorem idleLaw_offerServiceJob (s : State) : idleLaw (offerServiceJob s) = idleLaw s := by
  unfold offerServiceJob
  split <;> simp

@[simp] theorem idleLaw_writeCompleted (s : State) : idleLaw (writeCompleted s) = idleLaw s := by
  unfold writeCompleted
  split
  · rfl
  · simp only [idleLaw_offerServiceJob, idleLaw_offerDayJob, idleLaw_offerPendingCheckpoint, idleLaw_jobCompleted]
    rfl

/-! ## Topics, publications, lines and the end of an event -/

@[simp] theorem idleLaw_gradedBy (x : Nat × SubEntry × SubEntry × Payload) (s : State) :
    idleLaw (gradedBy x s) = idleLaw s := by
  unfold gradedBy freshened
  dsimp only
  repeat' split
  all_goals rfl

@[simp] theorem idleLaw_periodic (p : CyclicPub) (s : State) : idleLaw (periodic p s) = idleLaw s := by
  unfold periodic
  split <;> rfl

@[simp] theorem idleLaw_startPeriods (s : State) : idleLaw (startPeriods s) = idleLaw s := by
  rw [startPeriods_eq]
  rfl

@[simp] theorem idleLaw_takeKeyOff (s : State) : idleLaw (takeKeyOff s) = idleLaw s := by
  unfold takeKeyOff
  dsimp only
  split <;> simp

@[simp] theorem idleLaw_supplyDropped (s : State) : idleLaw (supplyDropped s) = idleLaw s := by
  unfold supplyDropped
  dsimp only
  split
  · split
    · exact idleLaw_urgentCheckpoint _
    · rfl
  · rfl

@[simp] theorem idleLaw_detectorRearmed (s : State) : idleLaw (detectorRearmed s) = idleLaw s := by
  unfold detectorRearmed
  split <;> rfl

@[simp] theorem idleLaw_keyTurnedOff (s : State) : idleLaw (keyTurnedOff s) = idleLaw s := by
  unfold keyTurnedOff
  dsimp only
  split
  · split
    · rfl
    · exact idleLaw_takeKeyOff _
  · split <;> rfl

@[simp] theorem idleLaw_busRecovered (s : State) : idleLaw (busRecovered s) = idleLaw s := by
  unfold busRecovered
  split <;> rfl

@[simp] theorem idleLaw_attemptFailed (error : Bool) (s : State) : idleLaw (attemptFailed error s) = idleLaw s := by
  unfold attemptFailed
  split <;> rfl

@[simp] theorem idleLaw_repeatRequest (e : SubEntry) (s : State) : idleLaw (repeatRequest e s) = idleLaw s := by
  unfold repeatRequest noteRequeued
  dsimp only
  repeat' split
  all_goals rfl

@[simp] theorem idleLaw_requestTag (r : Request) (s : State) : idleLaw (requestTag r s).2 = idleLaw s := by
  unfold requestTag
  split <;> rfl

@[simp] theorem idleLaw_tick (s : State) : idleLaw (tick s) = idleLaw s := by
  unfold tick countPeriods
  dsimp only
  split <;> rfl

@[simp] theorem idleLaw_settle (before after : State) : idleLaw (settle before after) = idleLaw after := by
  obtain ⟨-, -, -, hunit, -, heconomy, -⟩ := (eventEnd_settle before after).blocks
  unfold idleLaw
  rw [hunit, heconomy]

end Sys2Proof.Machine
end

section
/-! PROOFS. Every step keeps R96's law: a raise that fills the list leaves the states that no record may stand in, those
states are entered over an empty list only, and Hold forces the economy state (R91 to R97). -/

namespace Sys2Proof.Machine

/-! ## The law, and what keeps it -/

/-- An economy state that no record may stand in (R96). -/
def EconomyState.idles : EconomyState → Bool
  | .idleWait | .idling | .resuming | .shutdownPending => true
  | .stopped | .working | .held | .forced => false

theorem idleLaw_iff (s : State) :
    idleLaw s = true ↔ (s.economy.state.idles = true → s.intervention.list = []) := by
  unfold idleLaw EconomyState.idles
  cases s.economy.state <;> simp

/-- The law holds where nothing is listed. -/
theorem idleLaw_of_nil {s : State} (h : s.intervention.list = []) : idleLaw s = true :=
  (idleLaw_iff s).2 fun _ => h

/-- The law holds in an economy state that a record may stand in. -/
theorem idleLaw_of_busy {s : State} (h : s.economy.state.idles = false) : idleLaw s = true :=
  (idleLaw_iff s).2 fun hidles => absurd hidles (by simp [h])

/-- Where the law holds, nothing is listed in an idle economy state. -/
theorem nil_of_idleLaw {s : State} (h : idleLaw s = true) (hidles : s.economy.state.idles = true) :
    s.intervention.list = [] :=
  (idleLaw_iff s).1 h hidles

/-- What an effect keeps of the law. -/
structure IdleKept (s t : State) : Prop where
  law : idleLaw s = true → idleLaw t = true

@[refl] theorem IdleKept.refl (s : State) : IdleKept s s := ⟨id⟩

theorem IdleKept.trans {s t u : State} (h : IdleKept s t) (h' : IdleKept t u) : IdleKept s u := ⟨h'.law ∘ h.law⟩

theorem IdleKept.same {s t : State} (h : idleLaw t = idleLaw s) : IdleKept s t := ⟨fun hs => h.trans hs⟩

/-- An effect from a state that meets the law where `s` does. -/
theorem IdleKept.after {s t u : State} (h : IdleKept t u) (hs : idleLaw t = idleLaw s) : IdleKept s u :=
  (IdleKept.same hs).trans h

theorem IdleKept.of_busy {s t : State} (h : t.economy.state.idles = false) : IdleKept s t :=
  ⟨fun _ => idleLaw_of_busy h⟩

/-- An economy state entered from an idle one, which nothing is listed in. -/
theorem IdleKept.of_idles {s : State} {st : EconomyState} (e : EconomyUnit) (hst : s.economy.state = st)
    (hidles : st.idles = true) : IdleKept s (setEconomy e s) :=
  ⟨fun hs => idleLaw_of_nil (nil_of_idleLaw (s := s) hs (hst ▸ hidles))⟩

/-- A change of the list that empties no more than it fills, in the same economy state. -/
theorem IdleKept.of_list {s t : State} (heconomy : t.economy.state = s.economy.state)
    (hlist : s.intervention.list = [] → t.intervention.list = []) : IdleKept s t := by
  constructor
  rw [idleLaw_iff, idleLaw_iff, heconomy]
  exact fun h hidles => hlist (h hidles)

/-! ## The economy state machine (R91 to R97) -/

theorem idleKept_engineStopped (s : State) : IdleKept s (engineStopped s) := by
  rw [engineStopped_eq]
  split
  · rfl
  · exact .of_busy rfl

theorem idleKept_economyEngineRun (running : Bool) (speed : Nat) (s : State) :
    IdleKept s (economyEngineRun running speed s) := by
  unfold economyEngineRun
  split
  · exact idleKept_engineStopped s
  · split
    · exact .of_busy rfl
    · split
      · exact .of_busy rfl
      · rfl
    · rfl

theorem idleKept_activityPresent (s : State) : IdleKept s (activityPresent s) := by
  unfold activityPresent
  split
  · exact .of_busy rfl
  next h => exact .of_idles _ h rfl
  next h => exact .of_idles _ h rfl
  · rfl

theorem idleKept_activityAbsent (s : State) : IdleKept s (activityAbsent s) := by
  unfold activityAbsent
  split
  · split
    next h => exact ⟨fun _ => idleLaw_of_nil (List.isEmpty_iff.1 h)⟩
    next => exact .of_busy rfl
  next h => exact .of_idles _ h rfl
  · rfl

theorem idleKept_economyPilot (s : State) : IdleKept s (economyPilot s) := by
  unfold economyPilot
  split
  · exact idleKept_activityPresent s
  · exact idleKept_activityAbsent s

theorem idleKept_waitExpired (s : State) : IdleKept s (waitExpired s) := by
  unfold waitExpired
  split
  next h => exact .of_idles _ h rfl
  next => rfl

theorem idleKept_shutdownExpired (s : State) : IdleKept s (shutdownExpired s) := by
  unfold shutdownExpired
  split
  next h => exact .of_idles _ h rfl
  next => rfl

theorem idleKept_resumeExpired (s : State) : IdleKept s (resumeExpired s) := by
  unfold resumeExpired
  split
  · exact .of_busy rfl
  · rfl

/-- Hold forces the economy state. -/
theorem idleKept_enterHold (s : State) : IdleKept s (enterHold s) := by
  unfold enterHold
  split
  · rfl
  · exact .of_busy rfl

/-! ## The steps of an event at the list (R46 to R54, R96) -/

theorem mapWhere_nil_iff {α : Type} (p : α → Bool) (f : α → α) (l : List α) : mapWhere p f l = [] ↔ l = [] := by
  simp [mapWhere]

theorem idleKept_change (p : Record → Bool) (f : Record → Record) (a : Record → Bool) (w : Work) :
    IdleKept w.state (w.change p f a).state := by
  rw [Work.change_eq]
  exact .of_list rfl (mapWhere_nil_iff p f _).2

/-- A removal empties the list for more states, and its economy state is one that a record may stand in. -/
theorem idleKept_remove (p : Record → Bool) (w : Work) : IdleKept w.state (w.remove p).state := by
  rw [Work.remove_eq]
  dsimp only
  split
  · exact .of_busy rfl
  · refine .of_list rfl fun h => ?_
    simp [h]

/-- A listed record leaves the economy state held, or as it was over records listed before. -/
theorem idleKept_listing (r : Record) (s : State) : IdleKept s (listing r s) := by
  refine ⟨fun hs => idleLaw_of_busy ?_⟩
  show (if leavesIdle s then s.economy.countRaise.enter .held else s.economy.countRaise).state.idles = false
  split
  next => rfl
  next hstays =>
    by_contra hidles
    have hstate : s.economy.state.idles = true := Bool.not_eq_false _ ▸ hidles
    refine hstays ((leavesIdle_iff s).2 ⟨nil_of_idleLaw hs hstate, ?_⟩)
    revert hstate
    cases s.economy.state <;> simp [EconomyState.idles]

theorem idleKept_raise (k : RecordKind) (src : Option Nat) (c : RecordCause) (b : MotionSet) (w : Work) :
    IdleKept w.state (w.raise k src c b).state := by
  rcases Nat.lt_or_ge w.state.intervention.lastSeq 65535 with hlast | hlast
  · rw [raise_eq k src c b w hlast]
    dsimp only
    split
    · rw [exhaustSequence_listing]
      exact (idleKept_listing _ _).trans ((idleKept_enterHold _).after rfl)
    · exact idleKept_listing _ _
  · rw [raise_of_exhausted k src c b w hlast]

theorem idleKept_unlessHold (f : Work → Work) (w : Work) (hf : IdleKept w.state (f w).state) :
    IdleKept w.state (w.unlessHold f).state := by
  unfold Work.unlessHold
  split
  · rfl
  · exact hf

theorem idleKept_raiseRequest (i : Nat) (k : RecordKind) (c : BreachCause) (b : MotionSet) (w : Work) :
    IdleKept w.state (w.raiseRequest i k c b).state := by
  unfold Work.raiseRequest
  split
  · exact idleKept_change ..
  · exact idleKept_raise ..

theorem idleKept_breachReport (i : Nat) (gone : Bool) (w : Work) :
    IdleKept w.state (w.breachReport i gone).state := by
  unfold Work.breachReport
  split
  · exact (idleKept_change _ _ _ w).trans (idleKept_remove ..)
  · exact idleKept_change ..

theorem idleKept_lossOfPose (w : Work) : IdleKept w.state w.lossOfPose.state := by
  unfold Work.lossOfPose
  split
  · exact idleKept_change ..
  · split
    · exact idleKept_raise ..
    · rfl

theorem idleKept_poseQuality (before : PoseQuality) (w : Work) : IdleKept w.state (w.poseQuality before).state := by
  refine idleKept_unlessHold _ w ?_
  split
  · exact idleKept_change ..
  · rfl
  · split
    · rfl
    · exact idleKept_lossOfPose w

theorem idleKept_take (w : Work) (h : Handed) : IdleKept w.state (w.take h).state := by
  refine idleKept_unlessHold _ w ?_
  cases h with
  | raise i k c b => exact idleKept_raiseRequest i k c b w
  | cause i c => exact idleKept_change ..
  | report i gone => exact idleKept_breachReport i gone w

theorem idleKept_takes (l : List Handed) (w : Work) : IdleKept w.state (l.foldl Work.take w).state := by
  induction l generalizing w with
  | nil => rfl
  | cons h l ih => exact (idleKept_take w h).trans (ih _)

theorem idleKept_extCut (st : Nat) (m : MotionSet) (w : Work) : IdleKept w.state (w.extCut st m).state := by
  unfold Work.extCut
  split
  · exact idleKept_remove ..
  · split
    · exact idleKept_change ..
    · exact idleKept_raise ..

theorem idleKept_overrideExpired (n : Nat) (w : Work) : IdleKept w.state (w.overrideExpired n).state :=
  (idleKept_remove _ w).trans (idleKept_change ..)

/-! ## The end of an event at the list (R54, R55) -/

@[simp] theorem formSets_economy (s : State) : (formSets s).economy = s.economy := by
  unfold formSets
  dsimp only
  repeat' split
  all_goals rfl

theorem idleKept_formSets (s : State) : IdleKept s (formSets s) :=
  .of_list (congrArg EconomyUnit.state (formSets_economy s)) fun h => (formSets_lists s).1.trans h

theorem idleKept_queueRecordNotice (n : Nat) (d : List Byte) (s : State) :
    IdleKept s (queueRecordNotice n d s) := by
  unfold queueRecordNotice
  split
  · exact .same rfl
  · exact .of_list rfl (mapWhere_nil_iff _ _ _).2

theorem idleKept_close (w : Work) : IdleKept w.state w.close := by
  have hnotices (l : List (Nat × List Byte)) (s : State) :
      IdleKept s (l.foldl (fun s n => queueRecordNotice n.1 n.2 s) s) := by
    induction l generalizing s with
    | nil => rfl
    | cons n l ih => exact (idleKept_queueRecordNotice _ _ s).trans (ih _)
  refine IdleKept.trans ?_ (hnotices _ _)
  split
  · rfl
  · exact idleKept_formSets _

theorem idleKept_interventionEvent (f : Work → Work) (s : State) (hf : IdleKept s (f ⟨s, []⟩).state) :
    IdleKept s (interventionEvent f s) :=
  (idleKept_unlessHold f ⟨s, []⟩ hf).trans (idleKept_close _)

/-! ## Confirmation and notices owed (R54, R58 to R62, R164) -/

theorem idleKept_valveCutArrival (echo : BitVec 8) (applied : MotionSet) (s : State) :
    IdleKept s (valveCutArrival echo applied s) := by
  unfold valveCutArrival
  split
  · rfl
  · refine .of_list rfl fun h => ?_
    have hlist : (s.intervention.echoed s.now applied).list = s.intervention.list.map (Record.confirm applied) := by
      unfold InterventionUnit.echoed
      dsimp only
      repeat' split
      all_goals rfl
    rw [setIntervention_intervention, hlist, h, List.map_nil]

theorem idleKept_confirmExpired (s : State) : IdleKept s (confirmExpired s) := by
  unfold confirmExpired
  split
  · exact .of_list rfl id
  · exact (idleKept_enterHold s).trans (.same rfl)
  · rfl
  · rfl

theorem idleKept_valveLost (s : State) : IdleKept s (valveLost s) := by
  unfold valveLost
  split
  · split
    · exact .of_list rfl id
    · rfl
  · split
    · exact .of_list rfl id
    · rfl
  · exact (idleKept_enterHold s).trans (.same rfl)
  · rfl

theorem idleKept_offerOwed (s : State) : IdleKept s (offerOwed s) := by
  unfold offerOwed
  split
  · rfl
  · split
    · exact .of_list rfl (mapWhere_nil_iff _ _ _).2
    · split
      · exact .same rfl
      · split
        · exact .same rfl
        · rfl

theorem idleKept_offerOwedTimes (n : Nat) (s : State) : IdleKept s (offerOwedTimes n s) := by
  induction n generalizing s with
  | zero => rfl
  | succ n ih => exact (idleKept_offerOwed s).trans (ih _)

theorem idleKept_frameSent (s : State) : IdleKept s (frameSent s) := by
  unfold frameSent sentRing
  dsimp only
  split
  · rfl
  · exact .same rfl
  · split
    · split
      · exact .same rfl
      · exact (idleKept_offerOwed _).after rfl
    · rfl

/-! ## The pose and the arrivals -/

theorem idleKept_consumePose (before : PoseQuality) (s : State) : IdleKept s (consumePose before s) := by
  have hevent (l : List Handed) (u : State) :
      IdleKept u (interventionEvent (fun w => (l.foldl Work.take w).poseQuality before) u) :=
    idleKept_interventionEvent _ u ((idleKept_takes l ⟨u, []⟩).trans (idleKept_poseQuality before _))
  rw [consumePose_eq]
  refine (hevent _ _).after ?_
  rw [idleLaw_guidancePose]
  repeat' split
  all_goals simp

theorem idleKept_announcePose (before : PoseQuality) (s : State) : IdleKept s (announcePose before s) := by
  unfold announcePose
  exact (idleKept_consumePose ..).after (idleLaw_setPoseUnit ..)

theorem idleKept_gradeOnly (s : State) : IdleKept s (gradeOnly s) := by
  unfold gradeOnly
  dsimp only
  split
  · exact (idleKept_announcePose ..).after (idleLaw_applyGrade s)
  · exact .same (idleLaw_applyGrade s)

theorem idleKept_solveAndGrade (s : State) : IdleKept s (solveAndGrade s) := by
  cases hsolve : solvePose s with
  | some p =>
    rw [solveAndGrade_of_solve s p hsolve]
    exact (idleKept_announcePose ..).after ((idleLaw_applyGrade _).trans (idleLaw_setPoseUnit ..))
  | none =>
    rw [solveAndGrade_no_solve s hsolve]
    exact idleKept_gradeOnly s

theorem idleKept_poseArrival (p : Payload) (s : State) : IdleKept s (poseArrival p s) := by
  unfold poseArrival
  split
  · exact (idleKept_solveAndGrade _).after (idleLaw_recallLookup ..)
  · exact (idleKept_solveAndGrade _).after (idleLaw_recallLookup ..)
  · exact idleKept_solveAndGrade s

theorem idleKept_degradedExpired (s : State) : IdleKept s (degradedExpired s) := by
  unfold degradedExpired
  exact (idleKept_announcePose ..).after ((idleLaw_report ..).trans (idleLaw_setPoseUnit ..))

theorem idleKept_handArrival (st : Nat) (p : Payload) (s : State) : IdleKept s (handArrival st p s) := by
  unfold handArrival
  split
  case h_6 => exact idleKept_economyEngineRun _ _ s
  case h_7 => exact .same rfl
  case h_8 => exact .same (idleLaw_recallLookup ..)
  case h_9 => exact .same (idleLaw_detectorPump s)
  case h_10 => exact (idleKept_economyPilot s).trans (.same (idleLaw_guidancePilot _))
  case h_11 => exact idleKept_valveCutArrival _ _ s
  case h_12 => exact idleKept_interventionEvent _ s (idleKept_extCut _ _ ⟨s, []⟩)
  case h_13 => exact .same (idleLaw_timeSyncArrival ..)
  all_goals exact idleKept_poseArrival _ s

theorem idleKept_takeFrame (role : Role) (station : Option Nat) (f : Frame) (s : State) :
    IdleKept s (takeFrame role station f s) := by
  unfold takeFrame
  split
  · rfl
  · split
    next i e p _ _ _ =>
      split
      · rfl
      next new _ =>
        exact (idleKept_handArrival e.config.station p _).after (idleLaw_gradedBy (i, e, new, p) s)
    · rfl

theorem idleKept_staleEntry (i : Nat) (s : State) : IdleKept s (staleEntry i s) := by
  unfold staleEntry
  dsimp only
  split
  · split
    · split
      · exact (idleKept_gradeOnly _).after (idleLaw_setTopic ..)
      · exact .same rfl
    · rfl
  · rfl

theorem idleKept_handLost (e : SubEntry) (s : State) : IdleKept s (handLost e s) := by
  unfold handLost
  split
  case h_6 => exact idleKept_engineStopped s
  case h_7 => exact (idleKept_activityPresent s).trans (.same (idleLaw_abandonCycle _))
  case h_8 => exact idleKept_valveLost s
  case h_9 => exact idleKept_interventionEvent _ s (idleKept_change _ _ _ ⟨s, []⟩)
  case h_10 | h_11 | h_12 | h_13 | h_14 => rfl
  all_goals exact idleKept_gradeOnly s

theorem idleKept_lostEntry (i : Nat) (s : State) : IdleKept s (lostEntry i s) := by
  unfold lostEntry
  split
  · split
    · exact (idleKept_handLost ..).after ((idleLaw_report ..).trans (idleLaw_setTopic ..))
    · rfl
  · rfl

theorem idleKept_busWentOff (s : State) : IdleKept s (busWentOff s) := by
  unfold busWentOff
  dsimp only
  split
  · split
    · exact .same rfl
    · split
      · exact (idleKept_enterHold _).after rfl
      · exact .same rfl
  · rfl

end Sys2Proof.Machine
end

section
/-! PROOFS. Every step keeps R96's law: the requests, the starts and the supplies, and every command. -/

namespace Sys2Proof.Machine

/-! ## The requests -/

/-- An owner whose answer keeps the law. -/
def Owner.KeepsIdle (own : Owner) : Prop := ∀ t a s, IdleKept s (own t a s).after

/-- An answer at once over a state that meets the law where `s` does. -/
theorem idleKept_accept (data : List Byte) {s u : State} (h : idleLaw u = idleLaw s) :
    IdleKept s (accept data u).after :=
  .same h

theorem idleKept_checkLevel (need : Level) (t : Ticket) (s : State) (rest : State → Answer)
    (h : ∀ s, IdleKept s (rest s).after) : IdleKept s (checkLevel need t s rest).after := by
  unfold checkLevel
  split
  · split
    · exact h s
    · exact (h _).after (idleLaw_renewGrant ..)
  · rfl

theorem idleKept_limitRequest (t : Ticket) (a : List Byte) (s : State) (rest : Nat → LimitEntry → State → Answer)
    (h : ∀ i e s, IdleKept s (rest i e s).after) : IdleKept s (limitRequest t a s rest).after := by
  unfold limitRequest
  split
  · rfl
  · refine idleKept_checkLevel _ _ _ _ fun s => ?_
    split
    · rfl
    · split
      · rfl
      · exact h _ _ _

theorem idleKept_makePending (i : Nat) (e : LimitEntry) (c : LimitConfig) (s : State) :
    IdleKept s (makePending i e c s) := by
  unfold makePending
  dsimp only
  split
  · exact (idleKept_interventionEvent _ _ (idleKept_breachReport i false ⟨_, []⟩)).after (idleLaw_setLimit ..)
  · exact .same (idleLaw_setLimit ..)

/-- A change of a limit that waits on its job. -/
theorem idleKept_carryLimit (t : Ticket) (i : Nat) {s u : State} (h : IdleKept s u) :
    IdleKept s (carryLimit t i u).after :=
  h.trans (.same (idleLaw_carry ..))

theorem keepsIdle_readOwner : readOwner.KeepsIdle := by
  intro t a s
  unfold readOwner
  dsimp only
  split
  · rfl
  · rfl
  · split
    · rfl
    · refine idleKept_accept _ ?_
      split <;> rfl

theorem keepsIdle_keyOwner : keyOwner.KeepsIdle := by
  intro t a s
  unfold keyOwner checkKey
  repeat' split
  all_goals exact .same rfl

theorem keepsIdle_restartOwner : restartOwner.KeepsIdle := by
  intro t a s
  unfold restartOwner
  split
  · rfl
  · split
    · rfl
    · exact idleKept_checkLevel _ _ _ _ fun _ => .same rfl

theorem keepsIdle_clearFaultsOwner : clearFaultsOwner.KeepsIdle := by
  intro t a s
  unfold clearFaultsOwner
  split
  · rfl
  · exact idleKept_checkLevel _ _ _ _ fun _ => .same rfl

theorem keepsIdle_writeImageOwner : writeImageOwner.KeepsIdle := by
  intro t a s
  unfold writeImageOwner
  split
  · rfl
  · refine idleKept_checkLevel _ _ _ _ fun s => ?_
    repeat' split
    all_goals exact .same rfl

theorem keepsIdle_ackWarningOwner : ackWarningOwner.KeepsIdle := by
  intro t a s
  unfold ackWarningOwner ackAllWarnings
  dsimp only
  repeat' split
  all_goals exact .same rfl

theorem keepsIdle_teachLimitOwner : teachLimitOwner.KeepsIdle := by
  intro t a s
  refine idleKept_limitRequest _ _ _ _ fun i e s => ?_
  repeat' split
  case h_2.isFalse.isFalse => exact idleKept_carryLimit _ _ (idleKept_makePending ..)
  all_goals rfl

theorem keepsIdle_setLimitOwner : setLimitOwner.KeepsIdle := by
  intro t a s
  refine idleKept_limitRequest _ _ _ _ fun i e s => ?_
  repeat' split
  case h_2.isFalse.isFalse => exact idleKept_carryLimit _ _ (idleKept_makePending ..)
  all_goals rfl

theorem keepsIdle_enableLimitOwner : enableLimitOwner.KeepsIdle := by
  intro t a s
  refine idleKept_limitRequest _ _ _ _ fun i e s => ?_
  repeat' split
  case isFalse.isFalse => exact idleKept_carryLimit _ _ (idleKept_makePending ..)
  all_goals rfl

theorem keepsIdle_disableLimitOwner : disableLimitOwner.KeepsIdle := by
  intro t a s
  refine idleKept_limitRequest _ _ _ _ fun i e s => ?_
  repeat' split
  case isFalse.isFalse.isFalse => exact idleKept_carryLimit _ _ (.same (idleLaw_setLimit ..))
  all_goals rfl

theorem idleKept_releaseRecord (r : Record) (s : State) : IdleKept s (releaseRecord r s).after := by
  unfold releaseRecord
  split
  · exact idleKept_interventionEvent _ s (idleKept_remove _ ⟨s, []⟩)
  · rfl

theorem keepsIdle_releaseOwner : releaseOwner.KeepsIdle := by
  intro t a s
  unfold releaseOwner
  dsimp only
  split
  · rfl
  · split
    · rfl
    · split
      · rfl
      · split
        · exact idleKept_checkLevel _ _ _ _ (idleKept_releaseRecord _)
        · exact idleKept_releaseRecord _ s

theorem keepsIdle_overrideOwner : overrideOwner.KeepsIdle := by
  intro t a s
  unfold overrideOwner
  dsimp only
  split
  · rfl
  · refine idleKept_checkLevel _ _ _ _ fun s => ?_
    split
    · rfl
    · split
      · rfl
      · split
        · rfl
        · exact idleKept_interventionEvent _ s (idleKept_change _ _ _ ⟨s, []⟩)

theorem keepsIdle_resumeOwner : resumeOwner.KeepsIdle := by
  intro t a s
  unfold resumeOwner
  split
  · rfl
  · refine idleKept_checkLevel _ _ _ _ fun s => ?_
    dsimp only
    split
    · exact .of_list rfl id
    · rfl

theorem keepsIdle_benchmarkOwner : benchmarkOwner.KeepsIdle := by
  intro t a s
  unfold benchmarkOwner setBenchmark
  split
  · rfl
  · refine idleKept_checkLevel _ _ _ _ fun s => ?_
    repeat' split
    all_goals exact .same rfl

theorem keepsIdle_setGradeOwner : setGradeOwner.KeepsIdle := by
  have hchange (t : Ticket) (i : Nat) (g : Option Segment) (s : State) : IdleKept s (changeGrade t i g s).after := by
    unfold changeGrade
    split
    · rfl
    · exact .same (idleLaw_carry ..)
  intro t a s
  unfold setGradeOwner
  dsimp only
  split
  · rfl
  · refine idleKept_checkLevel _ _ _ _ fun s => ?_
    split
    · rfl
    · split
      · split
        · exact hchange ..
        · rfl
      · split
        · exact hchange ..
        · rfl
      · rfl

theorem keepsIdle_powerModeOwner : powerModeOwner.KeepsIdle := by
  intro t a s
  unfold powerModeOwner
  dsimp only
  repeat' split
  all_goals exact .same rfl

theorem keepsIdle_tableRecallOwner : tableRecallOwner.KeepsIdle := by
  have hrecall (i : Nat) (old new : Descriptor) (s : State) : IdleKept s (doneRecall i old new s).after := by
    simp only [doneRecall, accept, Answer.after, recallPose]
    split
    · exact (idleKept_solveAndGrade _).after (idleLaw_setDescriptor ..)
    · exact .same (idleLaw_setDescriptor ..)
  intro t a s
  unfold tableRecallOwner
  dsimp only
  split
  · rfl
  · refine idleKept_checkLevel _ _ _ _ fun s => ?_
    split
    · rfl
    · split
      · rfl
      · split
        · exact hrecall ..
        · split
          · rfl
          · exact hrecall ..
        · rfl

theorem keepsIdle_setClockOwner : setClockOwner.KeepsIdle := by
  intro t a s
  unfold setClockOwner
  split
  · rfl
  · refine idleKept_checkLevel _ _ _ _ fun s => ?_
    split
    · rfl
    · split
      · rfl
      · exact idleKept_accept _ (idleLaw_setClockTo ..)

theorem keepsIdle_setTrimOwner : setTrimOwner.KeepsIdle := by
  intro t a s
  unfold setTrimOwner
  dsimp only
  split
  · rfl
  · refine idleKept_checkLevel _ _ _ _ fun s => ?_
    split <;> exact .same rfl

theorem keepsIdle_setMeterOwner : setMeterOwner.KeepsIdle := by
  have hraise (t : Ticket) (n : Nat) (v : MeterValue) (s : State) : IdleKept s (raiseMeter t n v s).after := by
    unfold raiseMeter
    dsimp only
    split
    · exact idleKept_accept _ (by simp)
    · exact .same (by simp [Answer.after])
  intro t a s
  unfold setMeterOwner
  dsimp only
  split
  · rfl
  · refine idleKept_checkLevel _ _ _ _ fun s => ?_
    split
    · rfl
    · split
      · rfl
      · split
        · rfl
        · split
          · rfl
          · split
            · rfl
            · exact hraise ..

theorem keepsIdle_serviceDoneOwner : serviceDoneOwner.KeepsIdle := by
  intro t a s
  unfold serviceDoneOwner
  dsimp only
  split
  · rfl
  · refine idleKept_checkLevel _ _ _ _ fun s => ?_
    split
    · split
      · rfl
      · split
        · rfl
        · exact .same (idleLaw_recordService ..)
    · rfl

theorem keepsIdle_ackReminderOwner : ackReminderOwner.KeepsIdle := by
  intro t a s
  unfold ackReminderOwner ackAllReminders
  dsimp only
  repeat' split
  all_goals exact .same rfl

/-- Every code's owner keeps the law. -/
theorem keepsIdle_ownerOf (code : Byte) (own : Owner) (h : ownerOf code = some own) : own.KeepsIdle := by
  unfold ownerOf at h
  split at h
  all_goals cases h
  exacts [keepsIdle_readOwner, keepsIdle_keyOwner, keepsIdle_restartOwner, keepsIdle_clearFaultsOwner,
    keepsIdle_writeImageOwner, keepsIdle_ackWarningOwner, keepsIdle_teachLimitOwner, keepsIdle_setLimitOwner,
    keepsIdle_enableLimitOwner, keepsIdle_disableLimitOwner, keepsIdle_releaseOwner, keepsIdle_overrideOwner,
    keepsIdle_resumeOwner, keepsIdle_benchmarkOwner, keepsIdle_setGradeOwner, keepsIdle_powerModeOwner,
    keepsIdle_tableRecallOwner, keepsIdle_setClockOwner, keepsIdle_setTrimOwner, keepsIdle_setMeterOwner,
    keepsIdle_serviceDoneOwner, keepsIdle_ackReminderOwner]

theorem idleKept_judgeRequest (code : Byte) (owner : Option Owner) (h : ∀ own, owner = some own → own.KeepsIdle)
    (t : Ticket) (r : Request) (s : State) : IdleKept s (judgeRequest code owner t r s) := by
  unfold judgeRequest
  cases owner with
  | none => exact .same rfl
  | some own =>
    have hown := h own rfl t r.args s
    dsimp only
    repeat' split
    case h_1 res data u hanswer => exact (hanswer ▸ hown).trans (.same rfl)
    case h_2 u hanswer => exact (hanswer ▸ hown).trans (.same rfl)
    all_goals exact .same rfl

theorem idleKept_takeRequest (code : Byte) (owner : Option Owner) (h : ∀ own, owner = some own → own.KeepsIdle)
    (r : Request) (s : State) : IdleKept s (takeRequest code owner r s) := by
  unfold takeRequest newRequest
  dsimp only
  split
  · rfl
  · split
    · rfl
    · split
      · exact .same (by simp)
      · split
        · exact .same (by simp)
        · exact (idleKept_judgeRequest code owner h _ r _).after (by simp)

theorem idleKept_takeByCode (code : Option Byte) (r : Request) (s : State) : IdleKept s (takeByCode code r s) := by
  unfold takeByCode
  split
  · exact idleKept_takeRequest _ _ (keepsIdle_ownerOf _) r s
  · exact (idleKept_takeRequest _ none (fun _ h => nomatch h) r _).after (idleLaw_useFree s)

theorem idleKept_takeFragment (st : Nat) (f : Frame) (s : State) : IdleKept s (takeFragment st f s) := by
  unfold takeFragment
  split
  · rfl
  · split
    · rfl
    · split
      · split
        · exact idleKept_takeByCode ..
        · exact .same rfl
      · exact .same rfl

/-! ## Starts and supplies (R181, R183, R185) -/

/-- A state that a start or a loss of supply leaves lists no record. -/
theorem Restarted.idleKept {s t : State} (h : Restarted t) : IdleKept s t :=
  ⟨fun _ => idleLaw_of_nil (congrArg InterventionUnit.list h.1)⟩

theorem idleKept_endStart (clash : Bool) (s : State) : IdleKept s (endStart clash s) := by
  have hkeyOff (t : State) (h : IdleKept s t) :
      IdleKept s (if t.keyOffHeld || !t.pins.keyOn then takeKeyOff { t with keyOffHeld := false } else t) := by
    split
    · exact h.trans ((IdleKept.same (idleLaw_takeKeyOff _)).after rfl)
    · exact h
  refine hkeyOff _ ?_
  split
  · exact .same (idleLaw_startPeriods _)
  · exact (idleKept_offerOwedTimes 8 _).after (idleLaw_startPeriods _)

theorem idleKept_startIfKeyOn (s : State) : IdleKept s (startIfKeyOn s) := by
  unfold startIfKeyOn
  split
  · exact (restarted_beginStart s).idleKept
  · rfl

theorem idleKept_clashHeard (n : Nat) (s : State) : IdleKept s (clashHeard n s) := by
  unfold clashHeard
  dsimp only
  repeat' split
  · rfl
  · exact (idleKept_endStart true _).after (idleLaw_pulseFault ..)
  · exact (idleKept_enterHold _).after (idleLaw_pulseFault ..)
  · exact .same (idleLaw_pulseFault ..)
  · rfl

theorem idleKept_batteryConnected (k : Bool) (n : BitVec 5) (s : State) : IdleKept s (batteryConnected k n s) := by
  unfold batteryConnected
  split
  · exact (idleKept_startIfKeyOn _).after rfl
  · rfl

theorem idleKept_keepAliveLost (s : State) : IdleKept s (keepAliveLost s) := by
  unfold keepAliveLost
  split
  · rfl
  · exact ⟨fun _ => idleLaw_of_nil rfl⟩

theorem idleKept_mainSupplyLost (s : State) : IdleKept s (mainSupplyLost s) := by
  unfold mainSupplyLost
  split
  · exact (restarted_enterKeepAlive _).idleKept
  · rfl

theorem idleKept_keyTurnedOn (n : BitVec 5) (s : State) : IdleKept s (keyTurnedOn n s) := by
  unfold keyTurnedOn
  dsimp only
  split
  · exact (restarted_beginStart _).idleKept
  · exact .same rfl

theorem idleKept_shutdownCompleted (s : State) : IdleKept s (shutdownCompleted s) := by
  unfold shutdownCompleted
  split
  · exact (restarted_enterKeepAlive s).idleKept.trans (idleKept_startIfKeyOn _)
  · rfl

theorem idleKept_restartBegun (s : State) : IdleKept s (restartBegun s) := by
  unfold restartBegun
  split
  · exact (restarted_beginStart s).idleKept
  · rfl

theorem idleKept_listenEnded (s : State) : IdleKept s (listenEnded s) := by
  unfold listenEnded
  split
  · exact idleKept_endStart false s
  · rfl

/-! ## Every command -/

/-- A command keeps the law. -/
def IdleKeptBy (s : State) (o : Host.Outcome State Fault Refusal) : Prop := ∀ t, o = .next t → IdleKept s t

theorem idleKeptBy_finish {s b t : State} (h : IdleKept s t) : IdleKeptBy s (finish b t) := by
  rintro _ ⟨⟩
  exact h.trans (.same (idleLaw_settle b t))

theorem idleKeptBy_request (code : Byte) (own : Owner) (h : own.KeepsIdle) (r : Request) (s : State) :
    IdleKeptBy s (finish s (takeRequest code (some own) r s)) :=
  idleKeptBy_finish (idleKept_takeRequest code _ (fun _ h' => Option.some.inj h' ▸ h) r s)

theorem idleKeptBy_frame (role : Role) (station : Option Nat) (f : Frame) (s : State) :
    IdleKeptBy s (finish s (takeFrame role station f s)) :=
  idleKeptBy_finish (idleKept_takeFrame role station f s)

/-- An expiry, or the end of a write, where it is due. -/
theorem idleKeptBy_ite {b : Prop} [Decidable b] {s t : State} (h : IdleKept s t) :
    IdleKeptBy s (finish s (if b then t else s)) := by
  refine idleKeptBy_finish ?_
  split
  · exact h
  · rfl

theorem idleKeptBy_same {s b t : State} (h : idleLaw t = idleLaw s) : IdleKeptBy s (finish b t) :=
  idleKeptBy_finish (.same h)

/-- Every command keeps the law. -/
theorem idleKeptBy_exec (c : Instr) (s : State) : IdleKeptBy s (exec c s) :=
  match c with
  | .read r => idleKeptBy_request _ _ keepsIdle_readOwner r s
  | .key r => idleKeptBy_request _ _ keepsIdle_keyOwner r s
  | .restart r => idleKeptBy_request _ _ keepsIdle_restartOwner r s
  | .clearFaults r => idleKeptBy_request _ _ keepsIdle_clearFaultsOwner r s
  | .writeImage r => idleKeptBy_request _ _ keepsIdle_writeImageOwner r s
  | .ackWarning r => idleKeptBy_request _ _ keepsIdle_ackWarningOwner r s
  | .teachLimit r => idleKeptBy_request _ _ keepsIdle_teachLimitOwner r s
  | .setLimit r => idleKeptBy_request _ _ keepsIdle_setLimitOwner r s
  | .enableLimit r => idleKeptBy_request _ _ keepsIdle_enableLimitOwner r s
  | .disableLimit r => idleKeptBy_request _ _ keepsIdle_disableLimitOwner r s
  | .release r => idleKeptBy_request _ _ keepsIdle_releaseOwner r s
  | .override r => idleKeptBy_request _ _ keepsIdle_overrideOwner r s
  | .resume r => idleKeptBy_request _ _ keepsIdle_resumeOwner r s
  | .benchmark r => idleKeptBy_request _ _ keepsIdle_benchmarkOwner r s
  | .setGrade r => idleKeptBy_request _ _ keepsIdle_setGradeOwner r s
  | .powerMode r => idleKeptBy_request _ _ keepsIdle_powerModeOwner r s
  | .tableRecall r => idleKeptBy_request _ _ keepsIdle_tableRecallOwner r s
  | .setClock r => idleKeptBy_request _ _ keepsIdle_setClockOwner r s
  | .setTrim r => idleKeptBy_request _ _ keepsIdle_setTrimOwner r s
  | .setMeter r => idleKeptBy_request _ _ keepsIdle_setMeterOwner r s
  | .serviceDone r => idleKeptBy_request _ _ keepsIdle_serviceDoneOwner r s
  | .ackReminder r => idleKeptBy_request _ _ keepsIdle_ackReminderOwner r s
  | .unknownRequestCode code r => idleKeptBy_finish (idleKept_takeByCode code r s)
  | .requestFragment station f => idleKeptBy_finish (idleKept_takeFragment station f s)
  | .poseInputArrival role f => idleKeptBy_frame role.role none f s
  | .engineRun f => idleKeptBy_frame .engineRun none f s
  | .engineFuel f => idleKeptBy_frame .engineFuel none f s
  | .coolant f => idleKeptBy_frame .coolant none f s
  | .pump f => idleKeptBy_frame .pump none f s
  | .pilot f => idleKeptBy_frame .pilot none f s
  | .valveCut f => idleKeptBy_frame .valveCut none f s
  | .extCut station f => idleKeptBy_frame .extCut (some station) f s
  | .timeSync f => idleKeptBy_frame .timeSync none f s
  | .topicClash topic => idleKeptBy_finish (idleKept_clashHeard topic s)
  | .staleLimitPassed entry => idleKeptBy_finish (idleKept_staleEntry entry s)
  | .lostLimitPassed entry => idleKeptBy_finish (idleKept_lostEntry entry s)
  | .degradedTimerExpiry => idleKeptBy_ite (idleKept_degradedExpired s)
  | .confirmTimerExpiry => idleKeptBy_ite (idleKept_confirmExpired s)
  | .overrideTimerExpiry sequence =>
    idleKeptBy_ite (idleKept_interventionEvent _ s (idleKept_overrideExpired sequence ⟨s, []⟩))
  | .stageTimerExpiry => idleKeptBy_ite (.same (idleLaw_stageExpired s))
  | .waitTimerExpiry => idleKeptBy_ite (idleKept_waitExpired s)
  | .shutdownTimerExpiry => idleKeptBy_ite (idleKept_shutdownExpired s)
  | .resumeTimerExpiry => idleKeptBy_ite (idleKept_resumeExpired s)
  | .grantExpiry _ | .lockoutExpiry _ => idleKeptBy_same rfl
  | .cutDemandPeriod | .guidancePeriod | .engineReqPeriod | .metersPeriod | .statusPeriod =>
    idleKeptBy_same (idleLaw_periodic _ s)
  | .clockCount => idleKeptBy_same (idleLaw_clockCounted s)
  | .oscillatorStop => idleKeptBy_same (idleLaw_oscillatorStopped s)
  | .oscillatorRestart => idleKeptBy_same (idleLaw_oscillatorRestarted s)
  | .supplyDrop => idleKeptBy_same (idleLaw_supplyDropped s)
  | .detectorRearm => idleKeptBy_same (idleLaw_detectorRearmed s)
  | .storeWriteComplete => idleKeptBy_ite (.same (idleLaw_writeCompleted s))
  | .frameTransmitted => idleKeptBy_finish (idleKept_frameSent s)
  | .transmitAttemptFailed error => idleKeptBy_same (idleLaw_attemptFailed error s)
  | .busOff => idleKeptBy_finish (idleKept_busWentOff s)
  | .busRecovery => idleKeptBy_same (idleLaw_busRecovered s)
  | .batteryConnect keyOn straps => idleKeptBy_finish (idleKept_batteryConnected keyOn straps s)
  | .keepAliveSupplyLoss => idleKeptBy_finish (idleKept_keepAliveLost s)
  | .mainSupplyLoss => idleKeptBy_finish (idleKept_mainSupplyLost s)
  | .keyOn straps => idleKeptBy_finish (idleKept_keyTurnedOn straps s)
  | .keyOff => idleKeptBy_same (idleLaw_keyTurnedOff s)
  | .shutdownComplete => idleKeptBy_finish (idleKept_shutdownCompleted s)
  | .restartBegin => idleKeptBy_finish (idleKept_restartBegun s)
  | .listenEnd => idleKeptBy_finish (idleKept_listenEnded s)

/-- Settles O6: the law is kept by every command, and time's passing leaves the list and the economy state. -/
theorem stepKeepsIdleLaw : Obligations.StepKeepsIdleLaw := by
  intro s t hs hstep
  unfold step at hstep
  split at hstep
  next c rest _ => exact (idleKeptBy_exec c { s with pending := rest } t hstep).law hs
  next =>
    cases hstep
    exact (idleLaw_tick s).trans hs

end Sys2Proof.Machine
end

section
/-! PROOFS. The pump power limit (R100). -/

namespace Sys2Proof.Machine

/-! ## The pump power limit -/

theorem pumpLimit_forced (s : State) (h : s.economy.state = .forced) :
    pumpLimit s = s.config.economy.minimumPump :=
  if_pos (beq_iff_eq.2 h)

theorem pumpLimit_free (s : State) (h : s.economy.state ≠ .forced) (hslow : s.intervention.slowSet = 0#8) :
    pumpLimit s = modePumpLimit s (modeInForce s) :=
  (if_neg (by rwa [beq_iff_eq])).trans (if_pos (beq_iff_eq.2 hslow))

theorem pumpLimit_slowed (s : State) (h : s.economy.state ≠ .forced) (hslow : s.intervention.slowSet ≠ 0#8) :
    pumpLimit s = min (modePumpLimit s (modeInForce s)) s.config.economy.slowLimit :=
  (if_neg (by rwa [beq_iff_eq])).trans (if_neg (mt beq_iff_eq.1 hslow))

/-- Settles O28: the minimum pump power while forced, else the mode's limit, below the slow limit while an axis slows. -/
theorem pumpPowerLimit : Obligations.PumpPowerLimit :=
  fun s => ⟨pumpLimit_forced s, pumpLimit_free s, pumpLimit_slowed s⟩

end Sys2Proof.Machine
end

section
/-! PROOFS. READ answers a part of the record that its selector and index name; the fields of each record and their cut
into parts (R169, R170, R200). -/

namespace Sys2Proof.Machine

/-! ## The answer to READ -/

theorem readOwner_part (t : Ticket) (a : List Byte) (s : State) (parts : List (List Byte)) (bytes : List Byte)
    (hrec : recordOf s (argNat a 0) (argU16 a 1) = some (some parts)) (hpart : parts[argNat a 3]? = some bytes) :
    readOwner t a s = accept ([byte (argNat a 0)] ++ le 2 (argU16 a 1) ++ [byte (argNat a 3), byte parts.length] ++ bytes)
      (if readsFree s (argNat a 0) (argU16 a 1) then useFree s else s) := by
  simp only [readOwner, hrec, hpart, u16Bytes]

theorem readOwner_noPart (t : Ticket) (a : List Byte) (s : State) (parts : List (List Byte))
    (hrec : recordOf s (argNat a 0) (argU16 a 1) = some (some parts)) (hpart : parts.length ≤ argNat a 3) :
    readOwner t a s = refuse .badArgument s := by
  simp only [readOwner, hrec, List.getElem?_eq_none hpart]

theorem readOwner_noRecord (t : Ticket) (a : List Byte) (s : State)
    (hrec : recordOf s (argNat a 0) (argU16 a 1) = some none) :
    readOwner t a s = refuse .unknownRecord s := by
  simp only [readOwner, hrec]

theorem readOwner_noSelector (t : Ticket) (a : List Byte) (s : State)
    (hrec : recordOf s (argNat a 0) (argU16 a 1) = none) :
    readOwner t a s = refuse .badArgument s := by
  simp only [readOwner, hrec]

/-- A READ that is taken answers as its owner does. -/
theorem exec_read_of_owner (r : Request) (s u : State) (res : Result) (data : List Byte) (ht : taken 1#8 r s = true)
    (hown : readOwner (ticketOf 1#8 r s) r.args (noted r s) = .reply res data u) :
    exec (.read r) s = repliedWith 1#8 res data r s u :=
  repliedWith_of_owner 1#8 readOwner _ r s u res data ht rfl hown

/-! ## Which record a selector and index name -/

theorem recordOf_noSelector (s : State) (selector index : Nat) (h : selector = 0 ∨ 9 < selector) :
    recordOf s selector index = none := by
  unfold recordOf
  split
  case h_10 => rfl
  all_goals omega

theorem readsFree_iff (s : State) (selector index : Nat) :
    readsFree s selector index = true ↔ selector = 1 ∧ s.power = .running
      ∧ ∃ e, s.topics[index]? = some e ∧ e.config.role ≠ .request ∧ 65535 < s.now - e.ageFrom := by
  unfold readsFree
  cases s.topics[index]? with
  | none => simp
  | some e =>
    have hage : decide (65535 < e.age s.now) = true ↔ 65535 < s.now - e.ageFrom := decide_eq_true_iff
    simp [hage, and_assoc]

/-! ## The fields of each record -/

theorem ageBytes_eq (s : State) (e : SubEntry) :
    ageBytes s e = le 2 (if s.power ≠ .running then 0
      else if s.now - e.ageFrom ≤ 65535 then s.now - e.ageFrom else (Config.ageBeyond s.freeCount).toNat : Nat) := by
  simp only [ageBytes, SubEntry.age, u16Bytes, bne_iff_ne]
  split
  · rfl
  · exact (apply_ite (fun n : Nat => le 2 n) _ _ _).symm

theorem storedReplyFields_eq (r : Option (List Byte)) :
    storedReplyFields r = [flagByte r.isSome] :: [byte (r.getD []).length]
      :: (r.getD [] ++ List.replicate (35 - (r.getD []).length) 0#8).map fun x => [x] := rfl

theorem subscriptionFields_request (s : State) (e : SubEntry) (h : e.config.role = .request) :
    subscriptionFields s e = [counterBytes e.counter]
      ++ [u16Bytes e.config.topic, [byte e.config.station], [byte e.config.role.num]]
      ++ [counterBytes e.inFlight] ++ storedReplyFields e.stored ++ [u16Bytes e.run, u16Bytes e.gaps] :=
  if_pos (beq_iff_eq.2 h)

theorem subscriptionFields_other (s : State) (e : SubEntry) (h : e.config.role ≠ .request) :
    subscriptionFields s e = [counterBytes e.counter, [byte e.state.num]]
      ++ [u16Bytes e.config.topic, [byte e.config.station], [byte e.config.role.num]]
      ++ [u16Bytes e.config.staleLimit, u16Bytes e.config.lostLimit, ageBytes s e, u16Bytes e.run, u16Bytes e.gaps] :=
  if_neg (by rwa [beq_iff_eq])

theorem recordOf_meter (s : State) (i : Nat) (h : i < 8) :
    recordOf s 4 i = some (some (padParts 2 (pack (meterFields s.meter.meters i)))) := by
  simp only [recordOf, if_neg (by omega : ¬ 8 < i), beq_iff_eq, if_neg (by omega : i ≠ 8)]

theorem recordOf_noMeter (s : State) (i : Nat) (h : 8 < i) : recordOf s 4 i = some none :=
  congrArg some (if_pos h)

theorem meterFields_time (m : Meters) (i h sec : Nat) (hv : m.value i = some (.time h sec)) :
    meterFields m i = [[byte i], [0#8], le 4 h, le 2 sec] := by
  simp only [meterFields, hv, u32Bytes, u16Bytes]

theorem meterFields_count (m : Meters) (i n : Nat) (hv : m.value i = some (.count n)) :
    meterFields m i = [[byte i], [1#8], le 4 n] := by
  simp only [meterFields, hv, u32Bytes]

theorem dayAt_ring (a : DayArea) (i : Nat) (hpos : 1 ≤ i) (h : i ≠ 15) :
    dayAt a i = (a.ring.reverse[i - 1]?).map dayFields := by
  simp only [dayAt, beq_iff_eq, if_neg h, if_neg (by omega : i ≠ 0)]

theorem recordOf_ringDay (s : State) (i : Nat) (hpos : 1 ≤ i) (h : i ≠ 15) :
    recordOf s 7 i = some ((s.economy.days.ring.reverse[i - 1]?).map fun x => padParts 3 (pack (dayFields x))) := by
  simp only [recordOf, dayAt_ring _ _ hpos h, Option.map_map]
  rfl

theorem recordOf_noClock (s : State) (i : Nat) (h : i ≠ 0) : recordOf s 9 i = some none :=
  congrArg some (if_neg (by rwa [beq_iff_eq]))

theorem recordOf_subscription (s : State) (i : Nat) :
    recordOf s 1 i = some ((s.topics[i]?).map fun e => padParts 5 (pack (subscriptionFields s e))) := rfl

/-- The clock's parts with the six time-match entries after the first (log 25). -/
theorem recordOf_clock (s : State) : recordOf s 9 0 = some (some (clockParts s.time)) := rfl

/-! ## The statement -/

/-- Settles O33: the owner's answer by the record found, the records by their selectors, and the cut into parts. -/
theorem readAnswersPart : Obligations.ReadAnswersPart := by
  unfold Obligations.ReadAnswersPart
  refine ⟨fun r s ht => ⟨fun parts bytes hrec hpart => ?_, fun parts hrec hpart => ?_, fun hrec => ?_, fun hrec => ?_⟩,
    fun s selector index => ⟨readsFree_iff s selector index, recordOf_noSelector s selector index⟩,
    fun s i => ?_, fun n part field rest parts => ?_, fun n k h sec v b t d => ?_⟩
  · exact exec_read_of_owner r s _ _ _ ht (readOwner_part _ _ _ parts bytes hrec hpart)
  · exact exec_read_of_owner r s _ _ _ ht (readOwner_noPart _ _ _ parts hrec hpart)
  · exact exec_read_of_owner r s _ _ _ ht (readOwner_noRecord _ _ _ hrec)
  · exact exec_read_of_owner r s _ _ _ ht (readOwner_noSelector _ _ _ hrec)
  · refine ⟨?subscription, rfl, rfl, recordOf_noMeter s i, fun h sec hi hv => ?time, fun n hi hv => ?count, rfl, rfl, rfl,
      ⟨rfl, recordOf_ringDay s i, rfl⟩, rfl, recordOf_noClock s i, rfl⟩
    case subscription =>
      rw [recordOf_subscription]
      refine congrArg some (congrArg (Option.map · _) (funext fun e => congrArg (fun f => padParts 5 (pack f)) ?_))
      split
      case isTrue hrole => exact subscriptionFields_request s e hrole
      case isFalse hrole => rw [subscriptionFields_other s e hrole, ageBytes_eq]; rfl
    case time => rw [recordOf_meter s i hi, meterFields_time _ _ _ _ hv]
    case count => rw [recordOf_meter s i hi, meterFields_count _ _ _ hv]
  · exact ⟨rfl, rfl, rfl, rfl⟩
  · exact ⟨rfl, rfl, rfl, rfl, rfl, rfl, rfl, rfl, rfl, rfl, rfl, rfl, rfl, rfl, rfl⟩

end Sys2Proof.Machine
end

section
/-! PROOFS. A count of the clock, a stopped and a restarted crystal (R109, R110, R112), and what a count announces
(R113, R119; log 12). -/

namespace Sys2Proof.Machine

/-! ## The count, the crystal's stop and its restart -/

theorem countDue_iff (s : State) : countDue s = true ↔
    s.power ≠ .off ∧ s.time.stopped = false ∧ s.time.length ≤ s.time.prescaler + s.time.carried := by
  simp [countDue, powered, and_assoc]

theorem clockCounted_due (s : State) (h : countDue s = true) :
    clockCounted s = if awake s then announceCount (countSecond s) else countSecond s :=
  if_pos h

theorem clockCounted_early (s : State) (h : countDue s ≠ true) : clockCounted s = s := if_neg h

theorem oscillatorStopped_running (s : State) (hpower : s.power ≠ .off) (hrun : s.time.stopped = false) :
    oscillatorStopped s =
      let lost := setTime { s.time with
                              clock := .origin, prescaler := 0, carried := 0, length := 32768,
                              unsetCause := some .oscillatorStop, stopped := true, lastSet := ⟨.none, none, none⟩ } s
      if awake s then
        (if s.time.unsetCause = none then report .clockUnset timeBlock (report .oscillatorStop timeBlock lost)
          else report .oscillatorStop timeBlock lost)
      else lost := by
  have hpowered : powered s = true := bne_iff_ne.2 hpower
  rw [oscillatorStopped, if_neg (by simp [hpowered, hrun])]
  simp only [clockRunning, Option.isNone_iff_eq_none]
  rfl

theorem oscillatorStopped_again (s : State) (h : s.time.stopped = true) : oscillatorStopped s = s :=
  if_pos (by simp [h])

theorem listTakes_iff (s : State) : listTakes s = true ↔ awake s = true ∨ s.power = .startUp := by
  simp [listTakes]

theorem oscillatorRestarted_stopped (s : State) (hpower : s.power ≠ .off) (h : s.time.stopped = true) :
    oscillatorRestarted s =
      let back := setTime { s.time with stopped := false } s
      if awake s ∨ s.power = .startUp then endFault .oscillatorStop timeBlock back else back := by
  have hpowered : powered s = true := bne_iff_ne.2 hpower
  rw [oscillatorRestarted, if_neg (by simp [hpowered, h])]
  simp only [listTakes_iff]
  rfl

theorem oscillatorRestarted_running (s : State) (h : s.time.stopped = false) : oscillatorRestarted s = s :=
  if_pos (by simp [h])

/-! ## The announcements of a count -/

theorem firesAt_iff (t : ClockTime) (m : TimeMatch) : TimeMatch.firesAt t m = true ↔
    m.enabled = true ∧ m.minute = t.minute ∧ m.hour = t.hour ∧ m.days.getLsbD t.dayOfWeek = true := by
  simp [TimeMatch.firesAt, and_assoc]

theorem dayCount_iff (t : ClockTime) : dayCount t = true ↔ t.second = 0 ∧ t.minute = 0 ∧ t.hour = 0 := by
  simp [dayCount, and_assoc]

theorem mem_firings (s : State) (t : ClockTime) (i : Nat) (p : MatchPurpose) :
    (i, p) ∈ firings s t ↔ s.time.unsetCause = none ∧ t.second = 0
      ∧ ∃ m, s.time.timeMatches[i]? = some m ∧ m.purpose = p ∧ m.enabled = true ∧ m.minute = t.minute
        ∧ m.hour = t.hour ∧ m.days.getLsbD t.dayOfWeek = true := by
  unfold firings
  split
  case isTrue hcounts =>
    obtain ⟨hrun, hsecond⟩ : s.time.unsetCause = none ∧ t.second = 0 := by simpa [clockRunning] using hcounts
    simp only [hrun, hsecond, true_and, List.mem_filterMap, Prod.exists, mem_indexed]
    constructor
    · rintro ⟨j, m, hm, hfired⟩
      obtain ⟨hfires, hjp⟩ := Option.ite_none_right_eq_some.1 hfired
      cases hjp
      exact ⟨m, hm, rfl, (firesAt_iff t m).1 hfires⟩
    · rintro ⟨m, hm, rfl, hfires⟩
      exact ⟨i, m, hm, if_pos ((firesAt_iff t m).2 hfires)⟩
  case isFalse hcounts =>
    refine iff_of_false List.not_mem_nil ?_
    rintro ⟨hrun, hsecond, -⟩
    exact hcounts (by simp [clockRunning, hrun, hsecond])

/-- The entries fire in index order, so that none fires twice. -/
theorem firings_nodup (s : State) (t : ClockTime) : ((firings s t).map Prod.fst).Nodup := by
  unfold firings
  split
  case isFalse => exact List.nodup_nil
  case isTrue =>
    refine List.pairwise_map.2 (((indexed_sorted s.time.timeMatches).filterMap _ ?_).imp fun hlt => ne_of_lt hlt)
    rintro ⟨i, m⟩ ⟨j, n⟩ hlt x hx y hy
    obtain ⟨-, hx⟩ := Option.ite_none_right_eq_some.1 hx
    obtain ⟨-, hy⟩ := Option.ite_none_right_eq_some.1 hy
    cases hx
    cases hy
    exact hlt

/-- What a count announces of the day, to either consumer. -/
theorem mem_midnight (t : ClockTime) (a : Announcement) :
    a ∈ (if dayCount t then [Announcement.rollover] else [])
      ↔ a = .rollover ∧ t.second = 0 ∧ t.minute = 0 ∧ t.hour = 0 := by
  rw [← dayCount_iff]
  cases dayCount t <;> simp

theorem count_midnight (t : ClockTime) (a : Announcement) :
    (if dayCount t then [Announcement.rollover] else []).count a
      = if a = .rollover ∧ t.second = 0 ∧ t.minute = 0 ∧ t.hour = 0 then 1 else 0 := by
  simp only [← dayCount_iff]
  cases dayCount t <;> simp [List.count_singleton, @eq_comm _ a]

theorem mem_economyAnnouncements (t : ClockTime) (fired : List (Nat × MatchPurpose)) (a : Announcement) :
    a ∈ economyAnnouncements t fired ↔ a = .second
      ∨ (a = .rollover ∧ t.second = 0 ∧ t.minute = 0 ∧ t.hour = 0)
      ∨ (a = .shiftStart ∧ ∃ i, (i, .shiftStart) ∈ fired) := by
  have hshift : a ∈ (fired.filterMap fun f => if f.2 == .shiftStart then some Announcement.shiftStart else none)
      ↔ a = .shiftStart ∧ ∃ i, (i, .shiftStart) ∈ fired := by
    simp only [List.mem_filterMap, Option.ite_none_right_eq_some, Option.some.injEq, Prod.exists, beq_iff_eq]
    constructor
    · rintro ⟨i, p, hmem, rfl, rfl⟩
      exact ⟨rfl, i, hmem⟩
    · rintro ⟨rfl, i, hmem⟩
      exact ⟨i, .shiftStart, hmem, rfl, rfl⟩
  rw [economyAnnouncements, List.mem_append, List.mem_append, mem_midnight, hshift, List.mem_singleton, or_assoc]

theorem mem_serviceAnnouncements (t : ClockTime) (fired : List (Nat × MatchPurpose)) (a : Announcement) :
    a ∈ serviceAnnouncements t fired ↔ (a = .rollover ∧ t.second = 0 ∧ t.minute = 0 ∧ t.hour = 0)
      ∨ (a = .shiftStart ∧ ∃ i, (i, .shiftStart) ∈ fired)
      ∨ ∃ i, a = .reminder i ∧ (i, .reminderTime) ∈ fired := by
  rw [serviceAnnouncements, List.mem_append, mem_midnight, List.mem_map]
  refine or_congr_right ⟨?_, ?_⟩
  · rintro ⟨⟨i, p⟩, hmem, rfl⟩
    cases p with
    | shiftStart => exact .inl ⟨rfl, i, hmem⟩
    | reminderTime => exact .inr ⟨i, rfl, hmem⟩
  · rintro (⟨rfl, i, hmem⟩ | ⟨i, rfl, hmem⟩)
    · exact ⟨(i, .shiftStart), hmem, rfl⟩
    · exact ⟨(i, .reminderTime), hmem, rfl⟩

/-! ## How often each is announced -/

/-- The announcement of a firing to the Service Unit. -/
def firingAnnouncement (f : Nat × MatchPurpose) : Announcement :=
  if f.2 == .shiftStart then .shiftStart else .reminder f.1

theorem serviceAnnouncements_eq (t : ClockTime) (fired : List (Nat × MatchPurpose)) :
    serviceAnnouncements t fired = (if dayCount t then [.rollover] else []) ++ fired.map firingAnnouncement := rfl

theorem firingAnnouncement_eq_shiftStart (f : Nat × MatchPurpose) :
    firingAnnouncement f = .shiftStart ↔ f.2 = .shiftStart := by
  obtain ⟨i, p⟩ := f
  cases p <;> simp [firingAnnouncement]

theorem firingAnnouncement_eq_reminder (f : Nat × MatchPurpose) (i : Nat) :
    firingAnnouncement f = .reminder i ↔ f = (i, .reminderTime) := by
  obtain ⟨j, p⟩ := f
  cases p <;> simp [firingAnnouncement]

theorem firingAnnouncement_ne_rollover (f : Nat × MatchPurpose) : firingAnnouncement f ≠ .rollover := by
  obtain ⟨i, p⟩ := f
  cases p <;> simp [firingAnnouncement]

theorem count_shiftFirings (fired : List (Nat × MatchPurpose)) :
    (fired.filterMap fun f => if f.2 == .shiftStart then some Announcement.shiftStart else none)
      = List.replicate (fired.filter fun f => f.2 == .shiftStart).length .shiftStart := by
  induction fired with
  | nil => rfl
  | cons f l ih =>
    rw [List.filterMap_cons, List.filter_cons]
    cases f.2 == .shiftStart
    · exact ih
    · exact congrArg (Announcement.shiftStart :: ·) ih

theorem count_economyAnnouncements (t : ClockTime) (fired : List (Nat × MatchPurpose)) (a : Announcement) :
    (economyAnnouncements t fired).count a = (if a = .second then 1 else 0)
      + (if a = .rollover ∧ t.second = 0 ∧ t.minute = 0 ∧ t.hour = 0 then 1 else 0)
      + if a = .shiftStart then (fired.filter fun f => f.2 == .shiftStart).length else 0 := by
  rw [economyAnnouncements, List.count_append, List.count_append, count_midnight, count_shiftFirings,
    List.count_replicate, List.count_singleton]
  simp only [beq_iff_eq, @eq_comm _ a]

theorem count_serviceAnnouncements (t : ClockTime) (fired : List (Nat × MatchPurpose)) (a : Announcement) :
    (serviceAnnouncements t fired).count a
      = (if a = .rollover ∧ t.second = 0 ∧ t.minute = 0 ∧ t.hour = 0 then 1 else 0)
        + fired.countP fun f => firingAnnouncement f == a := by
  rw [serviceAnnouncements_eq, List.count_append, count_midnight, List.count, List.countP_map]
  rfl

theorem countP_shiftStart (fired : List (Nat × MatchPurpose)) :
    (fired.countP fun f => firingAnnouncement f == .shiftStart) = (fired.filter fun f => f.2 == .shiftStart).length := by
  rw [← List.countP_eq_length_filter]
  exact List.countP_congr fun f _ => by rw [beq_iff_eq, beq_iff_eq, firingAnnouncement_eq_shiftStart]

/-- A reminder is announced once, since its entry fires once. -/
theorem countP_reminder (fired : List (Nat × MatchPurpose)) (hnodup : (fired.map Prod.fst).Nodup) (i : Nat)
    (hmem : (i, .reminderTime) ∈ fired) : (fired.countP fun f => firingAnnouncement f == .reminder i) = 1 := by
  calc (fired.countP fun f => firingAnnouncement f == .reminder i)
      = fired.count (i, .reminderTime) :=
        List.countP_congr fun f _ => by rw [beq_iff_eq, beq_iff_eq, firingAnnouncement_eq_reminder]
    _ = 1 := List.count_eq_one_of_mem (List.Nodup.of_map _ hnodup) hmem

/-! ## The orders in which a consumer takes them -/

theorem insertAt_perm {α : Type} (x : α) (l : List α) (i : Nat) : (insertAt x l i).Perm (x :: l) := by
  induction l generalizing i with
  | nil => exact .refl _
  | cons y ys ih =>
    cases i with
    | zero => exact .refl _
    | succ i => exact ((ih i).cons y).trans (.swap x y ys)

theorem permute_perm {α : Type} (l : List α) (code : Nat) : (permute l code).Perm l := by
  induction l generalizing code with
  | nil => exact .refl _
  | cons x xs ih => exact (insertAt_perm x _ _).trans ((ih _).cons x)

theorem takeAll_short (takes : State → Announcement → State) (l : List Announcement) (s : State) (h : l.length < 2) :
    takeAll takes l s = l.foldl takes s :=
  if_pos h

theorem takeAll_long (takes : State → Announcement → State) (l : List Announcement) (s : State) (h : 2 ≤ l.length) :
    ∃ l' : List Announcement, l'.Perm l ∧ takeAll takes l s = useFree (l'.foldl takes s) :=
  ⟨_, permute_perm l _, if_neg (by omega)⟩

@[simp] theorem meterSecond_power (s : State) : (meterSecond s).power = s.power :=
  congrArg (fun f => f.1.1.2.1) (frame_meterSecond s)

theorem announceCount_running (s : State) (h : s.power = .running) :
    announceCount s = takeAll serviceTakes (serviceAnnouncements s.time.clock (firings s s.time.clock))
      (takeAll economyTakes (economyAnnouncements s.time.clock (firings s s.time.clock)) (meterSecond s)) := by
  simp only [announceCount, meterSecond_power, h, beq_self_eq_true, if_true]

/-- Outside Running the Economy and Service Units take no announcement (R90, R154). -/
theorem announceCount_other (s : State) (h : s.power ≠ .running) : announceCount s = meterSecond s := by
  simp only [announceCount, meterSecond_power, beq_iff_eq, if_neg h]

end Sys2Proof.Machine
end

section
/-! PROOFS. What the Economy Unit, the Service Unit and the Meter Unit make of a count (R103 to R105, R122, R123, R125,
R130, R141, R143, R144, R146, R148, R152). -/

namespace Sys2Proof.Machine

/-! ## The Economy Unit -/

theorem close_eq (a : DayArea) (d : Option Date) : a.close d = { a with
    ring := (a.ring ++ [a.opened]).drop ((a.ring ++ [a.opened]).length - 14), opened := ⟨d, 0, 0, 0, 0, 0, false⟩ } := rfl

theorem economyTakes_rollover (s : State) : economyTakes s .rollover
    = wantDayJob (setEconomy { s.economy with days := s.economy.days.close (datedNow s) } s) := rfl

theorem economyTakes_second (s : State) : economyTakes s .second = if engineRunning s then
    setDays (fun a => { a with
      opened := { a.opened with engineSeconds := satAdd maxEngineSeconds a.opened.engineSeconds 1 }
      shift := { a.shift with engineSeconds := satAdd maxEngineSeconds a.shift.engineSeconds 1 } }) s
    else s := rfl

/-! ## The Service Unit -/

theorem forItems_congr {f g : Nat → ServiceItem → State → State} (h : ∀ i item u, f i item u = g i item u) (s : State) :
    forItems f s = forItems g s := by
  rw [show f = g from funext fun i => funext fun item => funext fun u => h i item u]

/-- A service-state write joins a queued one, takes a free place, or stays wanted. -/
theorem wantServiceJob_eq (s : State) : wantServiceJob s =
    if s.store.queue.any Job.isService then s
    else if s.store.queue.length < 6 then { s with
      store := { s.store with queue := s.store.queue ++ [.serviceState []] }
      service := { s.service with writePending := false } }
    else { s with service := { s.service with writePending := true } } := by
  simp only [wantServiceJob, jobQueued, placeFree, decide_eq_true_eq]
  rfl

theorem serviceTakes_rollover_unset (s : State) (h : s.time.unsetCause ≠ none) : serviceTakes s .rollover = s := by
  have hdate : datedNow s = none := by rw [datedNow_eq, if_neg h]
  show serviceCalendar (beginDayCounts s) = s
  have hbegun : beginDayCounts s = s := by simp only [beginDayCounts, hdate]
  rw [hbegun]
  simp only [serviceCalendar, hdate]

/-- The day counts that begin leave the clock as it is. -/
theorem datedNow_forItems (f : Nat → ServiceItem → State → State) (hf : ∀ i x s, (f i x s).time = s.time) (s : State) :
    datedNow (forItems f s) = datedNow s := by
  have htime : (forItems f s).time = s.time := by
    refine foldl_keeps (·.time) _ (fun u i => ?_) _ s
    split
    · exact hf ..
    · rfl
  rw [datedNow_eq, datedNow_eq, htime]

theorem wantServiceJob_time (s : State) : (wantServiceJob s).time = s.time := by
  rw [wantServiceJob_eq]
  split
  · rfl
  · split <;> rfl

/-- A day count that begins at a rollover (R141, log 38). -/
def dayCountBegun (day : Date) (i : Nat) (item : ServiceItem) (u : State) : State :=
  if item.lastDate = none then wantServiceJob (setItem i { item with lastDate := some day } u) else u

theorem dayCountBegun_time (day : Date) (i : Nat) (item : ServiceItem) (u : State) :
    (dayCountBegun day i item u).time = u.time := by
  unfold dayCountBegun
  split
  · exact wantServiceJob_time _
  · rfl

theorem beginDayCounts_dated (s : State) (day : Date) (h : datedNow s = some day) :
    beginDayCounts s = forItems (dayCountBegun day) s := by
  simp only [beginDayCounts, h]
  refine forItems_congr (fun i item u => ?_) s
  simp only [dayCountBegun, Option.isNone_iff_eq_none]

theorem serviceTakes_rollover_running (s : State) (h : s.time.unsetCause = none) :
    serviceTakes s .rollover = forItems (fun i item u =>
      restand i item item.meterStanding (dayStandingOf item s.time.clock.day) u)
        (forItems (dayCountBegun s.time.clock.day) s) := by
  have hdate : datedNow s = some s.time.clock.day := by rw [datedNow_eq, if_pos h]
  show serviceCalendar (beginDayCounts s) = _
  rw [beginDayCounts_dated s _ hdate, serviceCalendar, datedNow_forItems _ (dayCountBegun_time _) s, hdate]

/-- A reminder to an item (R146). -/
def reminded (k i : Nat) (item : ServiceItem) (u : State) : State :=
  if item.config.reminder = some k ∧ item.state ≠ .ok ∧ item.acknowledged = false then
    queueServiceNotice i item .reminder u
  else u

/-- The reminders of entry `k` go to the items in index order (log 69). -/
theorem serviceReminder_eq (s : State) (k : Nat) : serviceReminder k s = forItems (reminded k) s := by
  refine forItems_congr (fun i item u => ?_) s
  simp only [reminded, Bool.and_eq_true, beq_iff_eq, bne_iff_ne, Bool.not_eq_true', and_assoc]

/-- A meter evaluation of an item whose basis is the meter (R143). -/
def metered (n i : Nat) (item : ServiceItem) (u : State) : State :=
  if item.config.basis = some n then restand i item (meterStandingOf item u.meter.meters) item.dayStanding u else u

theorem serviceMeter_eq (s : State) (n : Nat) : serviceMeter n s = forItems (metered n) s := by
  refine forItems_congr (fun i item u => ?_) s
  simp only [metered, beq_iff_eq]

/-! ## The time meters -/

theorem advance_second (m : TimeMeter) (h : m.seconds < 3599) : m.advance = { m with seconds := m.seconds + 1 } :=
  if_pos h

theorem advance_hour (m : TimeMeter) (h : 3599 ≤ m.seconds) (hroom : m.hours < 999999) :
    m.advance = ⟨m.hours + 1, 0⟩ := by
  rw [TimeMeter.advance, if_neg (by omega), maxHours, if_pos hroom]

theorem advance_full (m : TimeMeter) (h : 3599 ≤ m.seconds) (hfull : 999999 ≤ m.hours) : m.advance = m := by
  rw [TimeMeter.advance, if_neg (by omega), maxHours, if_neg (by omega)]

theorem tenthReached_iff (m : TimeMeter) : m.tenthReached = true ↔ m.advance ≠ m ∧ m.advance.seconds % 360 = 0 := by
  simp [TimeMeter.tenthReached]

theorem mem_tenthHours (s : State) (n : Nat) : n ∈ tenthHours s ↔ ∃ m, s.meter.meters.times[n]? = some m
    ∧ meterCondition s n = true ∧ m.advance ≠ m ∧ m.advance.seconds % 360 = 0 := by
  simp only [tenthHours, List.mem_filterMap, Prod.exists, mem_indexed, Option.ite_none_right_eq_some, Option.some.injEq,
    Bool.and_eq_true, tenthReached_iff]
  constructor
  · rintro ⟨n, m, hm, hreached, rfl⟩
    exact ⟨m, hm, hreached⟩
  · rintro ⟨m, hm, hreached⟩
    exact ⟨n, m, hm, hreached, rfl⟩

theorem tenthHours_sorted (s : State) : (tenthHours s).Pairwise (· < ·) := by
  refine (indexed_sorted s.meter.meters.times).filterMap _ ?_
  rintro ⟨i, m⟩ ⟨j, n⟩ hlt x hx y hy
  obtain ⟨-, hx⟩ := Option.ite_none_right_eq_some.1 hx
  obtain ⟨-, hy⟩ := Option.ite_none_right_eq_some.1 hy
  cases hx
  cases hy
  exact hlt

/-! ## The Meter Unit's second -/

/-- The meters as they have advanced by a second. -/
def secondAdvanced (s : State) : MeterUnit :=
  { s.meter with meters := { s.meter.meters with times := advancedTimes s } }

/-- The periodic checkpoint's count at a second, with the key on (R130). -/
def periodicChecked (u : MeterUnit) (s : State) : State :=
  if s.pins.keyOn = false then setMeterUnit u s
  else if s.meter.periodic < 359 then setMeterUnit { u with periodic := s.meter.periodic + 1 } s
  else wantCheckpoint (setMeterUnit { u with periodic := 0 } s)

theorem meterSecond_keyOff (s : State) (h : s.meter.keyOffTaken = true) : meterSecond s = s := if_pos h

theorem meterSecond_counting (s : State) (h : s.meter.keyOffTaken = false) :
    meterSecond s = (tenthHours s).foldl (fun u n => if u.power = .running then serviceMeter n u else u)
      (periodicChecked (secondAdvanced s) s) := by
  have hann : (fun (u : State) n => announceMeter n u)
      = fun u n => if u.power = .running then serviceMeter n u else u :=
    funext fun u => funext fun n => announceMeter_eq n u
  rw [meterSecond, if_neg (by simp [h]), ← hann, periodicChecked]
  simp only [setMeterUnit_pins, Bool.not_eq_true']
  rfl

/-! ## The conditions of the time meters (R122) -/

theorem engineRunning_iff (s : State) :
    engineRunning s = true ↔ ∃ speed, livePayload s .engineRun = some (.engineRun true speed) := by
  unfold engineRunning
  split
  next running speed h => simp [h]
  next hother => exact iff_of_false Bool.false_ne_true fun ⟨speed, h⟩ => hother true speed h

theorem controlsInUse_iff (s : State) :
    controlsInUse s = true ↔ ∃ m travel, livePayload s .pilot = some (.pilot m travel) ∧ m ≠ 0#8 := by
  unfold controlsInUse
  split
  next m travel h => simp [h]
  next hother => exact iff_of_false Bool.false_ne_true fun ⟨m, travel, h, _⟩ => hother m travel h

theorem travelReported_iff (s : State) :
    travelReported s = true ↔ ∃ m, livePayload s .pilot = some (.pilot m true) := by
  unfold travelReported
  split
  next m travel h => simp [h]
  next hother => exact iff_of_false Bool.false_ne_true fun ⟨m, h⟩ => hother m true h

theorem slewing_iff (s : State) : slewing s = true
    ↔ ∃ angle rate, livePayload s .slewPos = some (.slewPos angle rate) ∧ 10 < rate.natAbs := by
  unfold slewing
  split
  next angle rate h => simp [h]
  next hother => exact iff_of_false Bool.false_ne_true fun ⟨angle, rate, h, _⟩ => hother angle rate h

/-- The conditions of the meters that advance in Running only. -/
theorem meterCondition_running (s : State) (n : Nat) (c : Bool) (hn : meterCondition s n = (s.power == .running && c)) :
    meterCondition s n = true ↔ s.power = .running ∧ c = true := by
  rw [hn, Bool.and_eq_true, beq_iff_eq]

theorem meterCondition_engineRun (s : State) : meterCondition s 0 = true
    ↔ s.power = .running ∧ ∃ speed, livePayload s .engineRun = some (.engineRun true speed) :=
  (meterCondition_running s 0 _ rfl).trans (and_congr_right' (engineRunning_iff s))

theorem meterCondition_work (s : State) : meterCondition s 1 = true ↔ s.power = .running
    ∧ (∃ p, livePayload s .pump = some (.pump p) ∧ s.config.workThreshold < p)
    ∧ ∃ m travel, livePayload s .pilot = some (.pilot m travel) ∧ m ≠ 0#8 := by
  rw [meterCondition_running s 1 (pumpAbove s s.config.workThreshold && controlsInUse s) rfl, Bool.and_eq_true, pumpAbove_iff, controlsInUse_iff]

theorem meterCondition_idling (s : State) :
    meterCondition s 2 = true ↔ s.power = .running ∧ s.economy.state = .idling :=
  (meterCondition_running s 2 _ rfl).trans (and_congr_right' beq_iff_eq)

theorem meterCondition_heavy (s : State) : meterCondition s 3 = true
    ↔ s.power = .running ∧ ∃ p, livePayload s .pump = some (.pump p) ∧ s.config.heavyThreshold < p :=
  (meterCondition_running s 3 _ rfl).trans (and_congr_right' (pumpAbove_iff s _))

theorem meterCondition_slew (s : State) : meterCondition s 4 = true ↔ s.power = .running
    ∧ ∃ angle rate, livePayload s .slewPos = some (.slewPos angle rate) ∧ 10 < rate.natAbs :=
  (meterCondition_running s 4 _ rfl).trans (and_congr_right' (slewing_iff s))

theorem meterCondition_travel (s : State) : meterCondition s 5 = true
    ↔ s.power = .running ∧ ∃ m, livePayload s .pilot = some (.pilot m true) :=
  (meterCondition_running s 5 _ rfl).trans (and_congr_right' (travelReported_iff s))

/-! ## The statement -/

/-- Settles O54: the commands, what a count announces, and what each unit makes of it. -/
theorem clockCommands : Obligations.ClockCommands := by
  unfold Obligations.ClockCommands
  refine ⟨fun s hpower => ⟨fun hrun hdue => ?due, fun hearly => ?early, fun hstop => ⟨?stopped, ?stoppedAgain⟩,
      fun hrun => ?stops, fun hstop => ?restarts, fun hrun => ?runsOn⟩,
    fun s => ⟨announceCount_other s, announceCount_running s, fun i p => mem_firings s _ i p,
      fun a => mem_economyAnnouncements _ _ a, fun a => mem_serviceAnnouncements _ _ a, firings_nodup s _, ?counts⟩,
    fun takes l s => ⟨takeAll_short takes l s, takeAll_long takes l s⟩,
    fun s => ⟨?rollover, rfl, economyTakes_second s, rfl⟩,
    fun s => ⟨serviceTakes_rollover_unset s, serviceTakes_rollover_running s, serviceReminder_eq s, serviceMeter_eq s,
      wantServiceJob_eq s⟩,
    fun s => ⟨meterSecond_keyOff s, meterSecond_counting s, tenthHours_sorted s, mem_tenthHours s⟩,
    fun m => ⟨advance_second m, advance_hour m, advance_full m⟩,
    fun s => ⟨meterCondition_engineRun s, meterCondition_work s, meterCondition_idling s, meterCondition_heavy s,
      meterCondition_slew s, meterCondition_travel s, Iff.rfl⟩⟩
  case due =>
    show finish s (clockCounted s) = _
    rw [clockCounted_due s ((countDue_iff s).2 ⟨hpower, hrun, hdue⟩), countSecond, secondLength_eq]
    rfl
  case early =>
    show finish s (clockCounted s) = _
    rw [clockCounted_early s fun hdue => ?_]
    · rfl
    · have := ((countDue_iff s).1 hdue).2.2
      omega
  case stopped =>
    show finish s (clockCounted s) = _
    rw [clockCounted_early s fun hdue => ?_]
    · rfl
    · obtain ⟨-, hrun, -⟩ := (countDue_iff s).1 hdue
      exact absurd (hstop.symm.trans hrun) (by decide)
  case stoppedAgain => exact congrArg (finish s) (oscillatorStopped_again s hstop)
  case stops => exact congrArg (finish s) (oscillatorStopped_running s hpower hrun)
  case restarts => exact congrArg (finish s) (oscillatorRestarted_stopped s hpower hstop)
  case runsOn => exact congrArg (finish s) (oscillatorRestarted_running s hrun)
  case counts =>
    refine ⟨?_, ?_, ?_, ?_, ?_, fun i hmem => ?_⟩
    · simp [count_economyAnnouncements]
    · simp [count_economyAnnouncements]
    · simp [count_economyAnnouncements]
    · simp [count_serviceAnnouncements, firingAnnouncement_ne_rollover]
    · simp [count_serviceAnnouncements, countP_shiftStart]
    · simp [count_serviceAnnouncements, countP_reminder _ (firings_nodup s _) i hmem]
  case rollover => rw [economyTakes_rollover, close_eq, datedNow_eq]

end Sys2Proof.Machine
end

section
/-! PROOFS. The supplies and the key, what the sleep states give up, what a write that is cut off can touch, and the
checkpoint and day-record job of a key-off and of a supply drop (R108, R128, R130 to R134, R181, R182, R185, R186,
R189). -/

namespace Sys2Proof.Machine

/-! ## The supplies, the key and the supply-drop detector, each by the power state -/

/-- Awake or in Start-up is neither Off nor Keep-alive. -/
theorem awake_or_startUp_iff (s : State) : (awake s || s.power == .startUp) = true ↔ awake s = true ∨ s.power = .startUp := by
  simp

theorem batteryConnected_off (keyOn : Bool) (straps : BitVec 5) (s : State) (h : s.power = .off) :
    batteryConnected keyOn straps s = startIfKeyOn { s with
      power := .keepAlive, time := .atBatteryConnect, pins := { s.pins with keyOn := keyOn, straps := straps } } :=
  if_pos (beq_iff_eq.2 h)

theorem keepAliveLost_powered (s : State) (h : s.power ≠ .off) :
    keepAliveLost s = { giveUp (cutOffStore s) with power := .off, time := .atBatteryConnect } :=
  if_neg (mt beq_iff_eq.1 h)

theorem mainSupplyLost_started (s : State) (h : awake s = true ∨ s.power = .startUp) :
    mainSupplyLost s = { giveUp (cutOffStore s) with power := .keepAlive } :=
  if_pos ((awake_or_startUp_iff s).2 h)

theorem keyTurnedOn_eq (straps : BitVec 5) (s : State) :
    keyTurnedOn straps s =
      let u := { s with pins := { s.pins with keyOn := true, straps := straps } }
      if s.power = .keepAlive then beginStart u else u := by
  simp only [keyTurnedOn, beq_iff_eq]

/-- KEYON's low level as the lines carry it (R181). -/
def keyOffLine (s : State) : State := { s with pins := { s.pins with keyOn := false } }

theorem keyTurnedOff_eq (s : State) : keyTurnedOff s =
    if awake s then (if s.meter.keyOffTaken then keyOffLine s else takeKeyOff (keyOffLine s))
    else if s.power = .startUp then { keyOffLine s with keyOffHeld := true }
    else keyOffLine s := by
  simp only [keyTurnedOff, beq_iff_eq]
  rfl

theorem keyTurnedOff_awake (s : State) (h : awake s = true) :
    keyTurnedOff s = if s.meter.keyOffTaken then keyOffLine s else takeKeyOff (keyOffLine s) := by
  rw [keyTurnedOff_eq, if_pos h]

theorem keyTurnedOff_asleep (s : State) (h : awake s ≠ true) :
    keyTurnedOff s = if s.power = .startUp then { keyOffLine s with keyOffHeld := true } else keyOffLine s := by
  rw [keyTurnedOff_eq, if_neg h]

theorem not_awake_of {s : State} {p : PowerState} (h : s.power = p) (hrun : p ≠ .running) (hlimp : p ≠ .limp) :
    awake s ≠ true := by
  rw [ne_eq, awake_iff, h]
  exact not_or_intro hrun hlimp

theorem keyTurnedOff_startUp (s : State) (h : s.power = .startUp) :
    keyTurnedOff s = { keyOffLine s with keyOffHeld := true } := by
  rw [keyTurnedOff_asleep s (not_awake_of h (by decide) (by decide)), if_pos h]

/-- A key-off that nothing has to take changes the line alone. -/
theorem keyTurnedOff_idle (s : State)
    (h : s.power = .off ∨ s.power = .keepAlive ∨ (awake s = true ∧ s.meter.keyOffTaken = true)) :
    keyTurnedOff s = keyOffLine s := by
  rcases h with hoff | hkeep | ⟨hawake, htaken⟩
  · rw [keyTurnedOff_asleep s (not_awake_of hoff (by decide) (by decide)), if_neg (by rw [hoff]; decide)]
  · rw [keyTurnedOff_asleep s (not_awake_of hkeep (by decide) (by decide)), if_neg (by rw [hkeep]; decide)]
  · rw [keyTurnedOff_awake s hawake, if_pos htaken]

theorem powered_of {s : State} (h : s.power ≠ .off) : powered s = true := bne_iff_ne.2 h

theorem supplyDropped_armed (s : State) (hpower : s.power ≠ .off) (harmed : s.detectorArmed = true) :
    supplyDropped s = if awake s then urgentCheckpoint { s with detectorArmed := false }
      else { s with detectorArmed := false } :=
  if_pos (by rw [powered_of hpower, harmed]; rfl)

theorem detectorRearmed_powered (s : State) (h : s.power ≠ .off) : detectorRearmed s = { s with detectorArmed := true } :=
  if_pos (powered_of h)

/-! ## The write that is cut off (R181, R189; log 10) -/

theorem cutOffStore_idle (s : State) (h : s.store.writing = none) :
    cutOffStore s = { s with store := { s.store with queue := [] } } := by
  unfold cutOffStore
  split
  next => rfl
  next w hw => cases h.symm.trans hw

theorem cutOffStore_writing (s : State) (w : Writing) (h : s.store.writing = some w) :
    cutOffStore s = { s with
      freeCount := s.freeCount + 1
      store := { s.store.spoiled w.content s.freeCount with queue := [], writing := none } } := by
  unfold cutOffStore
  split
  next hnone => cases h.symm.trans hnone
  next v hv =>
    cases h.symm.trans hv
    rfl

theorem spoiled_slot (p : ParameterStore) (x : Checkpoint) (y : Slot) (free : Nat)
    (h : p.slots[x.sequence % 8]? = some y) :
    p.spoiled (.checkpoint x) free = if Config.cutOffKeepsOld free then p
      else { p with slots := p.slots.set (x.sequence % 8) { y with checksumOk := false } } := by
  rw [ParameterStore.spoiled, modify_eq_set _ p.slots _ y h]

theorem Area.cutOff_of_target {α : Type} (ok : α → Bool) (a : Area α) (free : Nat) (one : Bool)
    (h : a.target ok = one) : a.cutOff ok free = if Config.cutOffKeepsOld free then a
      else if one then { a with copy1 := { a.copy1 with checksumOk := false } }
      else { a with copy0 := { a.copy0 with checksumOk := false } } := by
  subst h
  unfold Area.cutOff Area.setCopy Area.copy
  cases a.target ok <;> rfl

theorem Area.target_of_best {α : Type} {ok : α → Bool} {a : Area α} {best : Option Bool} (h : a.best ok = best) :
    a.target ok = (best.map (!·)).getD false := by
  rw [Area.target, h]
  cases best <;> rfl

/-! ## The checkpoint (R130 to R134) -/

theorem checkpointExhausted_iff (s : State) : checkpointExhausted s = true ↔ 4294967295 ≤ s.meter.sequence :=
  decide_eq_true_iff

theorem not_exhausted {s : State} (h : s.meter.sequence < 4294967295) : ¬ checkpointExhausted s = true := by
  rw [checkpointExhausted_iff]
  omega

theorem wantCheckpoint_exhausted (s : State) (h : 4294967295 ≤ s.meter.sequence) :
    wantCheckpoint s = exhaustCheckpoints s :=
  if_pos ((checkpointExhausted_iff s).2 h)

theorem wantCheckpoint_free (s : State) (h : s.meter.sequence < 4294967295) (hjob : s.meter.job = .none)
    (hroom : s.store.queue.length < 6) : wantCheckpoint s = queueCheckpoint false s := by
  simp only [wantCheckpoint, if_neg (not_exhausted h), hjob, placeFree, hroom, decide_true, if_true]

theorem wantCheckpoint_full (s : State) (h : s.meter.sequence < 4294967295) (hjob : s.meter.job = .none)
    (hfull : 6 ≤ s.store.queue.length) : wantCheckpoint s = setMeterUnit { s.meter with pending := .set } s := by
  simp only [wantCheckpoint, if_neg (not_exhausted h), hjob, placeFree, decide_eq_true_eq,
    if_neg (by omega : ¬ s.store.queue.length < 6)]

theorem PendingMark.wanted_eq (p : PendingMark) : p.wanted = if p = .setUrgent then .setUrgent else .set := by
  cases p <;> rfl

theorem wantCheckpoint_waits (s : State) (h : s.meter.sequence < 4294967295) (hjob : s.meter.job ≠ .none) :
    wantCheckpoint s = setMeterUnit { s.meter with
      pending := if s.meter.pending = .setUrgent then .setUrgent else .set } s := by
  rw [wantCheckpoint, if_neg (not_exhausted h), ← PendingMark.wanted_eq]
  split
  next hnone => exact absurd hnone hjob
  next => rfl
  next => rfl

theorem urgentCheckpoint_idle (s : State) (h : s.meter.sequence < 4294967295) (hjob : s.meter.job = .none) :
    urgentCheckpoint s = pendingQueued (.checkpoint :: s.store.queue) s := by
  simp only [urgentCheckpoint, hjob, if_neg (not_exhausted h)]
  exact takeOverPending_queueCheckpoint true s

theorem urgentCheckpoint_inFlight (s : State) (h : s.meter.sequence < 4294967295) (hjob : s.meter.job = .inFlight) :
    urgentCheckpoint s = setMeterUnit { s.meter with pending := .setUrgent } s := by
  simp only [urgentCheckpoint, hjob, if_neg (not_exhausted h)]

theorem urgentCheckpoint_exhausted (s : State) (h : 4294967295 ≤ s.meter.sequence) (hjob : s.meter.job ≠ .queued) :
    urgentCheckpoint s = exhaustCheckpoints s := by
  have hexhausted := (checkpointExhausted_iff s).2 h
  unfold urgentCheckpoint
  split
  next hqueued => exact absurd hqueued hjob
  next => exact if_pos hexhausted
  next => exact if_pos hexhausted

theorem urgentCheckpoint_queued (s : State) (hjob : s.meter.job = .queued) :
    urgentCheckpoint s = { s with
      store := { s.store with queue := .checkpoint :: eraseFirst Job.isCheckpoint s.store.queue }
      meter := { s.meter with
        waiters := s.meter.waiters.map fun w => { w with onPending := false }, pending := .clear
        snapshot := s.meter.snapshot.map fun c => ⟨c.sequence, s.meter.meters, s.economy.lifetime⟩ } } := by
  simp only [urgentCheckpoint, hjob]
  rfl

theorem takeKeyOff_eq (s : State) : takeKeyOff s =
    let final := wantCheckpoint (setMeterUnit { s.meter with keyOffTaken := true } s)
    if s.power = .running then wantDayJob final else final := by
  have hpower : (wantCheckpoint (setMeterUnit { s.meter with keyOffTaken := true } s)).power = s.power :=
    congrArg (fun f => f.1.1.2.1) (frame_wantCheckpoint _)
  simp only [takeKeyOff, hpower, beq_iff_eq]

/-- A day-record job joins a queued one, takes a free place, or stays wanted (R106, log 39). -/
theorem wantDayJob_eq (s : State) : wantDayJob s =
    if s.store.queue.any Job.isDays then s
    else if s.store.queue.length < 6 then { s with
      store := { s.store with queue := s.store.queue ++ [.dayRecords] }
      economy := { s.economy with writePending := false } }
    else { s with economy := { s.economy with writePending := true } } := by
  simp only [wantDayJob, jobQueued, placeFree, decide_eq_true_eq]
  rfl

theorem setMeterReply_time (m : Meters) (n h sec : Nat) (hv : m.value n = some (.time h sec)) :
    setMeterReply m n = [byte n] ++ le 4 h ++ le 2 sec := by
  simp only [setMeterReply, meterValueBytes, hv]
  rfl

theorem setMeterReply_count (m : Meters) (n c : Nat) (hv : m.value n = some (.count c)) :
    setMeterReply m n = [byte n] ++ le 4 c := by
  simp only [setMeterReply, meterValueBytes, hv]
  rfl

/-! ## The statement -/

/-- Settles O57: the lines by the power state, the write cut off by its content, and the checkpoint by its job. -/
theorem suppliesAndKey : Obligations.SuppliesAndKey := by
  unfold Obligations.SuppliesAndKey
  refine ⟨fun s straps => ⟨fun keyOn hoff => congrArg (finish s) (batteryConnected_off keyOn straps s hoff),
      fun hpower => congrArg (finish s) (keepAliveLost_powered s hpower),
      fun hstarted => congrArg (finish s) (mainSupplyLost_started s hstarted),
      congrArg (finish s) (keyTurnedOn_eq straps s),
      ⟨fun hawake htaken => ?keyOff, fun hstart => congrArg (finish s) (keyTurnedOff_startUp s hstart),
        fun hidle => congrArg (finish s) (keyTurnedOff_idle s hidle)⟩,
      fun hpower harmed => congrArg (finish s) (supplyDropped_armed s hpower harmed),
      fun hpower => congrArg (finish s) (detectorRearmed_powered s hpower)⟩,
    fun s => rfl,
    fun s => ⟨cutOffStore_idle s, cutOffStore_writing s⟩,
    fun p free => ⟨fun b w => rfl, fun x y hy => spoiled_slot p x y free hy, fun x => rfl, fun x => rfl, fun x => rfl,
      fun x => rfl, fun x => rfl⟩,
    fun i b free => ⟨rfl, fun hwf c => getBlock_setBlock c b _ i.blocks hwf⟩,
    fun α ok a free => ⟨fun h0 h1 => a.cutOff_of_target ok free false (Area.target_of_best (Area.best_none h0 h1)),
      fun h0 h1 => a.cutOff_of_target ok free true (Area.target_of_best (Area.best_copy0 h0 h1)),
      fun h1 h0 => a.cutOff_of_target ok free false (Area.target_of_best (Area.best_copy1 h1 h0))⟩,
    fun s w l m n => ⟨rfl, rfl, setMeterReply_time m n, setMeterReply_count m n⟩,
    fun s => ⟨takeKeyOff_eq s, wantCheckpoint_exhausted s,
      fun hleft => ⟨wantCheckpoint_free s hleft, wantCheckpoint_full s hleft, wantCheckpoint_waits s hleft,
        urgentCheckpoint_idle s hleft, urgentCheckpoint_inFlight s hleft⟩,
      urgentCheckpoint_exhausted s, urgentCheckpoint_queued s, wantDayJob_eq s⟩⟩
  case keyOff =>
    refine congrArg (finish s) ?_
    rw [keyTurnedOff_awake s hawake, if_neg (by simp [htaken])]
    rfl

end Sys2Proof.Machine
end

section
/-! PROOFS. The next second of the calendar (R108, R109). -/

namespace Sys2Proof.Machine

/-! ## The calendar (R109) -/

theorem monthLength_pos (m y : Nat) : 28 ≤ monthLength m y := by
  unfold monthLength
  repeat' split
  all_goals decide

theorem monthLength_december (y : Nat) : monthLength 12 y = 31 := rfl

theorem daysBefore_succ (y m : Nat) (h : 1 ≤ m) : daysBefore y (m + 1) = daysBefore y m + monthLength m y := by
  obtain ⟨k, rfl⟩ := Nat.exists_eq_succ_of_ne_zero (Nat.one_le_iff_ne_zero.1 h)
  rfl

/-- The months before December: 334 days, and a leap year's February one more. -/
theorem daysBefore_december (y : Nat) : daysBefore y 12 = if y % 4 = 0 then 335 else 334 := by
  by_cases h : y % 4 = 0 <;> simp [daysBefore, monthLength, leapYear, h]

/-- The next date that exists (R109), in a year up to 2099. -/
structure DayAfter (d e : Date) : Prop where
  year : 2000 ≤ e.year ∧ e.year ≤ 2099
  shown : dateExists e.date e.month e.year = true
  last : d.year = 2099 → d.month = 12 → d.date = 31 → dayNumber e = 0
  next : ¬ (d.year = 2099 ∧ d.month = 12 ∧ d.date = 31) → dayNumber e = dayNumber d + 1

theorem dateExists_iff (d m y : Nat) :
    dateExists d m y = true ↔ 1 ≤ m ∧ m ≤ 12 ∧ 1 ≤ d ∧ d ≤ monthLength m y := by
  simp [dateExists, and_assoc]

theorem dayAfter_sameMonth {d m y : Nat} (hy : 2000 ≤ y) (hy' : y ≤ 2099) (h : dateExists d m y = true)
    (hd : d < monthLength m y) : DayAfter ⟨d, m, y⟩ ⟨d + 1, m, y⟩ := by
  obtain ⟨hm, hm', hd', -⟩ := (dateExists_iff ..).1 h
  refine ⟨⟨hy, hy'⟩, (dateExists_iff ..).2 ⟨hm, hm', Nat.succ_pos d, hd⟩, fun _ hdec hlast => ?_, fun _ => ?_⟩
  · obtain rfl : m = 12 := hdec
    obtain rfl : d = 31 := hlast
    exact absurd hd (by simp [monthLength_december])
  · simp only [dayNumber]
    omega

theorem dayAfter_nextMonth {d m y : Nat} (hy : 2000 ≤ y) (hy' : y ≤ 2099) (hm : 1 ≤ m) (hm' : m < 12)
    (hd : d = monthLength m y) : DayAfter ⟨d, m, y⟩ ⟨1, m + 1, y⟩ := by
  have hlength := monthLength_pos m y
  have hshown : dateExists 1 (m + 1) y = true :=
    (dateExists_iff ..).2 ⟨m.succ_pos, hm', le_rfl, Nat.le_trans (by decide) (monthLength_pos (m + 1) y)⟩
  refine ⟨⟨hy, hy'⟩, hshown, fun _ hdec => absurd hdec (Nat.ne_of_lt hm'), fun _ => ?_⟩
  simp only [dayNumber, daysBefore_succ y m hm]
  omega

theorem dayAfter_nextYear {y : Nat} (hy : 2000 ≤ y) (hy' : y ≤ 2099) :
    DayAfter ⟨31, 12, y⟩ ⟨1, 1, if y < 2099 then y + 1 else 2000⟩ := by
  have hjanuary (n : Nat) : dateExists 1 1 n = true := rfl
  refine ⟨?_, hjanuary _, fun hlast _ _ => ?_, fun hnotLast => ?_⟩
  · dsimp only
    split <;> omega
  · obtain rfl : y = 2099 := hlast
    rfl
  · have hlt : y < 2099 := lt_of_le_of_ne hy' fun hlast => hnotLast ⟨hlast, rfl, rfl⟩
    simp only [dayNumber, if_pos hlt, daysBefore_december, daysBefore]
    split <;> omega

/-- At midnight the date moves to the next one that exists, and the day of week advances. -/
theorem nextDay_after (t : ClockTime) (hy : 2000 ≤ t.year) (hy' : t.year ≤ 2099)
    (h : dateExists t.date t.month t.year = true) : DayAfter t.day (nextDay t).day := by
  obtain ⟨hm, hm', hd, hd'⟩ := (dateExists_iff ..).1 h
  unfold nextDay
  dsimp only
  split
  next hlt => exact dayAfter_sameMonth hy hy' h hlt
  next hge =>
    have hlast : t.date = monthLength t.month t.year := by omega
    split
    next hlt => exact dayAfter_nextMonth hy hy' hm hlt hlast
    next hdec =>
      have hmonth : t.month = 12 := by omega
      have hday : t.day = ⟨31, 12, t.year⟩ := by
        rw [ClockTime.day, hlast, hmonth, monthLength_december]
      rw [hday]
      exact dayAfter_nextYear hy hy'

theorem nextDay_time (t : ClockTime) : (nextDay t).second = t.second ∧ (nextDay t).minute = t.minute
    ∧ (nextDay t).hour = t.hour ∧ (nextDay t).dayOfWeek = if t.dayOfWeek < 6 then t.dayOfWeek + 1 else 0 := by
  unfold nextDay
  dsimp only
  repeat' split
  all_goals exact ⟨rfl, rfl, rfl, rfl⟩

/-! ## A count (R109) -/

/-- The last second of a day. -/
def ClockTime.lastSecond (t : ClockTime) : Prop := t.hour = 23 ∧ t.minute = 59 ∧ t.second = 59

/-- Within a day a count moves the time of day by one second. -/
theorem nextSecond_within (t : ClockTime) (hok : t.ok = true) (h : ¬ t.lastSecond) :
    (nextSecond t).ok = true ∧ secondNumber (nextSecond t) = secondNumber t + 1
      ∧ (nextSecond t).dayOfWeek = t.dayOfWeek := by
  obtain ⟨hs, hm, hh, hdate⟩ := (clockTime_ok_iff t).1 hok
  unfold nextSecond
  split
  next hlt =>
    refine ⟨(clockTime_ok_iff _).2 ⟨hlt, hm, hh, hdate⟩, ?_, rfl⟩
    simp only [secondNumber, ClockTime.day]
    omega
  next hsecond =>
    split
    next hlt =>
      refine ⟨(clockTime_ok_iff _).2 ⟨Nat.zero_le _, hlt, hh, hdate⟩, ?_, rfl⟩
      simp only [secondNumber, ClockTime.day]
      omega
    next hminute =>
      have hhour : t.hour < 23 := by
        by_contra hge
        exact h ⟨by omega, by omega, by omega⟩
      rw [if_pos hhour]
      refine ⟨(clockTime_ok_iff _).2 ⟨Nat.zero_le _, Nat.zero_le _, hhour, hdate⟩, ?_, rfl⟩
      simp only [secondNumber, ClockTime.day]
      omega

theorem nextSecond_midnight (t : ClockTime) (h : t.lastSecond) :
    nextSecond t = nextDay { t with second := 0, minute := 0, hour := 0 } := by
  obtain ⟨hhour, hminute, hsecond⟩ := h
  simp [nextSecond, hhour, hminute, hsecond]

/-- At midnight a count begins the day after. -/
theorem nextSecond_lastSecond (t : ClockTime) (hok : t.ok = true) (h : t.lastSecond) :
    (nextSecond t).ok = true ∧ DayAfter t.day (nextSecond t).day
      ∧ secondNumber (nextSecond t) = dayNumber (nextSecond t).day * 86400
      ∧ (nextSecond t).dayOfWeek = (t.dayOfWeek + 1) % 7 := by
  obtain ⟨-, -, -, hweek, hy, hy', hdate⟩ := (clockTime_ok_iff t).1 hok
  rw [nextSecond_midnight t h]
  have hafter : DayAfter t.day _ := nextDay_after { t with second := 0, minute := 0, hour := 0 } hy hy'
    ((dateExists_iff ..).2 hdate)
  obtain ⟨hsecond, hminute, hhour, hdow⟩ := nextDay_time { t with second := 0, minute := 0, hour := 0 }
  have hweek' : (nextDay { t with second := 0, minute := 0, hour := 0 }).dayOfWeek = (t.dayOfWeek + 1) % 7 := by
    rw [hdow]
    dsimp only
    split <;> omega
  refine ⟨(clockTime_ok_iff _).2 ⟨by simp [hsecond], by simp [hminute], by simp [hhour], ?_, hafter.year.1,
    hafter.year.2, (dateExists_iff ..).1 hafter.shown⟩, hafter, ?_, hweek'⟩
  · omega
  · simp [secondNumber, hsecond, hminute, hhour]

/-- A count of a clock that shows a date and time that exist leaves it showing one. -/
theorem nextSecond_ok (t : ClockTime) (hok : t.ok = true) : (nextSecond t).ok = true := by
  by_cases h : t.lastSecond
  · exact (nextSecond_lastSecond t hok h).1
  · exact (nextSecond_within t hok h).1

/-- Settles O31: within a day the time of day moves alone; its last second begins the day after. -/
theorem nextSecondFollows : Obligations.NextSecondFollows := by
  intro t hok
  by_cases h : t.lastSecond
  · obtain ⟨hok', hafter, hnumber, hweek⟩ := nextSecond_lastSecond t hok h
    have hnow : secondNumber t = dayNumber t.day * 86400 + 86399 := by
      obtain ⟨hhour, hminute, hsecond⟩ := h
      simp [secondNumber, hhour, hminute, hsecond]
    refine ⟨hok', fun hyear hmonth hdate _ _ _ => ?_, fun hnotLast => ?_, hweek.trans (if_pos h).symm⟩
    · rw [hnumber, hafter.last hyear hmonth hdate]
    · obtain ⟨hhour, hminute, hsecond⟩ := h
      have hnext := hafter.next fun ⟨hyear, hmonth, hdate⟩ =>
        hnotLast ⟨hyear, hmonth, hdate, hhour, hminute, hsecond⟩
      omega
  · obtain ⟨hok', hnumber, hweek⟩ := nextSecond_within t hok h
    exact ⟨hok', fun _ _ _ hhour hminute hsecond => absurd ⟨hhour, hminute, hsecond⟩ h, fun _ => hnumber,
      hweek.trans (if_neg h).symm⟩

end Sys2Proof.Machine
end

section
/-! PROOFS. A step on an empty queue, and an accepted TIME_SYNC (R108, R109, R116; log 1, 2, 5). -/

namespace Sys2Proof.Machine

/-! ## One millisecond (log 1, 2, 5) -/

/-- The periods of a millisecond: the prescaler takes what it can of them, and the rest is carried (log 5). -/
theorem countPeriods_running (s : State) (hpower : s.power ≠ .off) (hrun : s.time.stopped = false) :
    countPeriods s =
      let seen := s.time.prescaler + s.time.carried + Config.crystalPeriods s.freeCount
      let counted := min (s.time.length - 1) seen
      useFree (setTime { s.time with prescaler := counted, carried := seen - counted } s) :=
  if_pos (by simp [powered, hpower, hrun])

/-- The Time Base after a millisecond in which the crystal runs. -/
theorem tick_time_running (s : State) (hpower : s.power ≠ .off) (hrun : s.time.stopped = false) :
    (tick s).time =
      let seen := s.time.prescaler + s.time.carried + Config.crystalPeriods s.freeCount
      let counted := min (s.time.length - 1) seen
      { s.time with prescaler := counted, carried := seen - counted } := by
  show (countPeriods { s with now := s.now + 1 }).time = _
  rw [countPeriods_running { s with now := s.now + 1 } hpower hrun]
  rfl

/-- What a millisecond leaves of the state but for the time, the periods, the free values used and the queue. -/
theorem tick_frame (s : State) (hqueue : s.pending = []) :
    { tick s with
      now := s.now, freeCount := s.freeCount, pending := [],
      time := { (tick s).time with prescaler := s.time.prescaler, carried := s.time.carried } } = s := by
  rw [← hqueue]
  unfold tick countPeriods
  dsimp only
  split <;> rfl

theorem tick_now (s : State) : (tick s).now = s.now + 1 := by
  unfold tick countPeriods
  dsimp only
  split <;> rfl

/-- The commands that have fallen due depend on everything but the queue. -/
theorem tick_pending (s : State) :
    (tick s).pending = dueIf (countDue (tick s)) .clockCount ++ dueCommands (tick s) := rfl

/-- Settles O2: the tick, then the periods that it counts. -/
theorem emptyQueueTicks : Obligations.EmptyQueueTicks := by
  intro s hqueue
  refine ⟨tick s, by simp only [step, hqueue], tick_now s, tick_frame s hqueue, fun hpower hrun => ?_, tick_pending s⟩
  rw [tick_time_running s hpower hrun]
  dsimp only
  omega

/-! ## TIME_SYNC (R116) -/

section
variable (t : ClockTime) (s : State) (e : SubEntry) (hentry : entryOf s .timeSync = some e)
include hentry

/-- A time that does not exist, a stopped crystal or an entry not Fresh adopts nothing. -/
theorem timeSyncArrival_ignored (h : dateExists t.date t.month t.year = false ∨ s.time.stopped = true
    ∨ e.state ≠ .fresh) : timeSyncArrival t s = s := by
  simp only [timeSyncArrival, hentry]
  exact if_pos (by rcases h with h | h | h <;> simp [h])

variable (hdate : dateExists t.date t.month t.year = true) (hrun : s.time.stopped = false) (hfresh : e.state = .fresh)
include hdate hrun hfresh

/-- An Unset clock is set; a Running one is set, and ClockStep reported, where the times differ by more than 120 s. -/
theorem timeSyncArrival_taken : timeSyncArrival t s =
    if s.time.unsetCause ≠ none then setClockTo t .timeSync s
    else if ((secondNumber t : Int) - secondNumber s.time.clock).natAbs ≤ 120 then s
    else pulseFault .clockStep (.station e.config.station) (setClockTo t .timeSync s) := by
  simp only [timeSyncArrival, hentry]
  rw [if_neg (by simp [hdate, hrun, hfresh])]
  cases hcause : s.time.unsetCause with
  | some c => simp [clockRunning, hcause]
  | none =>
    by_cases hnear : ((secondNumber t : Int) - secondNumber s.time.clock).natAbs ≤ 120
    · simp [clockRunning, hcause, farFrom, hnear]
    · simp [clockRunning, hcause, farFrom, hnear]

end

/-- Settles O50: the frame is handed to the Time Base, which adopts its time by the clock's state. -/
theorem timeSyncAdopted : Obligations.TimeSyncAdopted := by
  intro f s x t e haccepted hpayload g hentry
  have hexec : exec (.timeSync f) s = .next (settle s (timeSyncArrival t g)) := by
    refine congrArg (fun u => Host.Outcome.next (settle s u))
      ((takeFrame_accepted .timeSync none f s x haccepted).trans ?_)
    rw [hpayload]
    rfl
  rw [hexec]
  refine ⟨fun hignored => ?_, fun hdate hrun hfresh => ?_⟩
  · rw [timeSyncArrival_ignored t g e hentry hignored]
  · rw [timeSyncArrival_taken t g e hentry hdate hrun hfresh]
    exact ⟨fun hunset => by rw [if_pos hunset], fun hset => by rw [if_neg (not_not_intro hset)]⟩

end Sys2Proof.Machine
end

section
/-! PROOFS. What leaves the Time Base as it is: every operation of the other blocks, a count's announcements among
them (R108, R109, R113). -/

namespace Sys2Proof.Machine

/-! ## The Diagnostic List, the replies and the store -/

/-- What the consumers of a pose update only read, the Time Base among it. -/
theorem time_of_sensed {s t : State} (h : sensed t = sensed s) : t.time = s.time := congrArg (·.2.2.1) h

@[simp] theorem pulseFault_time (c : FaultCode) (f : FaultSource) (s : State) : (pulseFault c f s).time = s.time := rfl
@[simp] theorem sendReply_time (t : Ticket) (r : Result) (d : List Byte) (s : State) :
    (sendReply t r d s).time = s.time := rfl
@[simp] theorem finishRequest_time (t : Ticket) (r : Result) (d : List Byte) (s : State) :
    (finishRequest t r d s).time = s.time := rfl
@[simp] theorem renewGrant_time (n : Nat) (s : State) : (renewGrant n s).time = s.time := rfl
@[simp] theorem setDays_time (f : DayArea → DayArea) (s : State) : (setDays f s).time = s.time := rfl
@[simp] theorem queueJob_time (j : Job) (s : State) : (queueJob j s).time = s.time := rfl

@[simp] theorem carry_time (k : Job → Bool) (j : List Ticket → Job) (t : Ticket) (s : State) :
    (carry k j t s).time = s.time := by
  unfold carry
  split <;> rfl

@[simp] theorem requestTag_time (r : Request) (s : State) : (requestTag r s).2.time = s.time := by
  unfold requestTag
  split <;> rfl

@[simp] theorem repeatRequest_time (e : SubEntry) (s : State) : (repeatRequest e s).time = s.time := by
  unfold repeatRequest noteRequeued
  dsimp only
  repeat' split
  all_goals rfl

/-! ## The Economy Unit (R91 to R106) -/

@[simp] theorem engineStopped_time (s : State) : (engineStopped s).time = s.time := by
  unfold engineStopped
  split <;> rfl

@[simp] theorem economyEngineRun_time (running : Bool) (speed : Nat) (s : State) :
    (economyEngineRun running speed s).time = s.time := by
  unfold economyEngineRun
  split
  · simp
  · split
    · rfl
    · split <;> rfl
    · rfl

@[simp] theorem activityPresent_time (s : State) : (activityPresent s).time = s.time := by
  unfold activityPresent
  split <;> rfl

@[simp] theorem activityAbsent_time (s : State) : (activityAbsent s).time = s.time := by
  unfold activityAbsent
  split
  · split <;> rfl
  · rfl
  · rfl

@[simp] theorem economyPilot_time (s : State) : (economyPilot s).time = s.time := by
  unfold economyPilot
  split <;> simp

@[simp] theorem waitExpired_time (s : State) : (waitExpired s).time = s.time := by
  unfold waitExpired
  split <;> rfl

@[simp] theorem shutdownExpired_time (s : State) : (shutdownExpired s).time = s.time := by
  unfold shutdownExpired
  split <;> rfl

@[simp] theorem resumeExpired_time (s : State) : (resumeExpired s).time = s.time := by
  unfold resumeExpired
  split <;> rfl

@[simp] theorem integrateFuel_time (n : Nat) (s : State) : (integrateFuel n s).time = s.time := rfl

@[simp] theorem wantDayJob_time (s : State) : (wantDayJob s).time = s.time := by
  obtain ⟨-, htime, -⟩ := wantDayJob_left s
  exact htime

@[simp] theorem economySecond_time (s : State) : (economySecond s).time = s.time := by
  unfold economySecond
  split <;> rfl

@[simp] theorem economyRollover_time (s : State) : (economyRollover s).time = s.time := by
  simp [economyRollover]

@[simp] theorem shiftStart_time (s : State) : (shiftStart s).time = s.time := rfl

/-! ## The Service Unit (R142 to R152) -/

@[simp] theorem serviceCalendar_time (s : State) : (serviceCalendar s).time = s.time :=
  congrArg (·.1) (accounts_serviceCalendar s)

@[simp] theorem beginDayCounts_time (s : State) : (beginDayCounts s).time = s.time := by
  unfold beginDayCounts
  split
  · rfl
  · refine time_of_sensed (sensed_forItems _ (fun i x s => ?_) s)
    split
    · simp
    · rfl

@[simp] theorem serviceRollover_time (s : State) : (serviceRollover s).time = s.time := by
  simp [serviceRollover]

@[simp] theorem serviceReminder_time (k : Nat) (s : State) : (serviceReminder k s).time = s.time := by
  refine time_of_sensed (sensed_forItems _ (fun i x s => ?_) s)
  split
  · simp
  · rfl

@[simp] theorem serviceShiftStart_time (s : State) : (serviceShiftStart s).time = s.time := rfl

@[simp] theorem recordService_time (i : Nat) (x : ServiceItem) (t : Ticket) (s : State) :
    (recordService i x t s).time = s.time := by
  simp only [recordService, carry_time, setService_time]
  rfl

/-! ## The Meter Unit (R121 to R136) -/

@[simp] theorem announceMeter_time (n : Nat) (s : State) : (announceMeter n s).time = s.time :=
  time_of_sensed (sensed_announceMeter n s)

@[simp] theorem answerWaiters_time (l : List Waiter) (s : State) : (answerWaiters l s).time = s.time := by
  unfold answerWaiters
  exact foldl_keeps State.time _ (fun s w => finishRequest_time ..) l s

@[simp] theorem exhaustCheckpoints_time (s : State) : (exhaustCheckpoints s).time = s.time := by
  simp [exhaustCheckpoints]

@[simp] theorem queueCheckpoint_time (urgent : Bool) (s : State) : (queueCheckpoint urgent s).time = s.time := by
  unfold queueCheckpoint
  dsimp only
  split <;> rfl

@[simp] theorem takeOverPending_time (s : State) : (takeOverPending s).time = s.time := rfl

@[simp] theorem wantCheckpoint_time (s : State) : (wantCheckpoint s).time = s.time := by
  unfold wantCheckpoint
  repeat' split
  all_goals simp

@[simp] theorem wantCheckpointFor_time (t : Ticket) (s : State) : (wantCheckpointFor t s).time = s.time := by
  simp [wantCheckpointFor]

@[simp] theorem urgentCheckpoint_time (s : State) : (urgentCheckpoint s).time = s.time := by
  unfold urgentCheckpoint
  dsimp only
  repeat' split
  all_goals simp

@[simp] theorem offerPendingCheckpoint_time (s : State) : (offerPendingCheckpoint s).time = s.time := by
  unfold offerPendingCheckpoint
  repeat' split
  all_goals simp

@[simp] theorem checkpointCompleted_time (n : Nat) (s : State) : (checkpointCompleted n s).time = s.time := by
  simp [checkpointCompleted]

@[simp] theorem meterSecond_time (s : State) : (meterSecond s).time = s.time := by
  unfold meterSecond
  split
  · rfl
  · refine (foldl_keeps State.time _ (fun s n => announceMeter_time n s) _ _).trans ?_
    dsimp only
    repeat' split
    all_goals simp

/-! ## The announcements of a count (R113, R119) -/

@[simp] theorem economyTakes_time (s : State) (a : Announcement) : (economyTakes s a).time = s.time := by
  cases a <;> simp [economyTakes]

@[simp] theorem serviceTakes_time (s : State) (a : Announcement) : (serviceTakes s a).time = s.time := by
  cases a <;> simp [serviceTakes]

/-- A consumer's announcements leave the Time Base alone if each one does. -/
theorem takeAll_time (takes : State → Announcement → State) (h : ∀ s a, (takes s a).time = s.time)
    (l : List Announcement) (s : State) : (takeAll takes l s).time = s.time := by
  unfold takeAll
  split
  · exact foldl_keeps State.time _ h _ _
  · exact foldl_keeps State.time _ h _ _

@[simp] theorem announceCount_time (s : State) : (announceCount s).time = s.time := by
  unfold announceCount
  dsimp only
  split
  · rw [takeAll_time _ serviceTakes_time, takeAll_time _ economyTakes_time, meterSecond_time]
  · simp

/-! ## The Guidance Unit (R72 to R85) -/

@[simp] theorem enterStage_time (d : Detector) (s : State) : (enterStage d s).time = s.time := rfl
@[simp] theorem abandonCycle_time (s : State) : (abandonCycle s).time = s.time := time_of_sensed (sensed_abandonCycle s)
@[simp] theorem testReturn_time (s : State) : (testReturn s).time = s.time := time_of_sensed (sensed_testReturn s)

@[simp] theorem detectorPump_time (s : State) : (detectorPump s).time = s.time := by
  unfold detectorPump
  split <;> rfl

@[simp] theorem detectorPilot_time (s : State) : (detectorPilot s).time = s.time := by
  unfold detectorPilot
  dsimp only
  split
  · split <;> rfl
  · split <;> rfl
  · split
    · rfl
    · rw [testReturn_time, enterStage_time]
  · rfl
  · rfl

@[simp] theorem guidancePilot_time (s : State) : (guidancePilot s).time = s.time := by
  unfold guidancePilot
  split
  · exact abandonCycle_time s
  · exact detectorPilot_time s

@[simp] theorem stageExpired_time (s : State) : (stageExpired s).time = s.time := by
  unfold stageExpired
  split <;> rfl

/-! ## The Pose Unit (R2 to R15) -/

@[simp] theorem setDescriptor_time (i : Nat) (old new : Descriptor) (s : State) :
    (setDescriptor i old new s).time = s.time := by
  unfold setDescriptor
  dsimp only
  repeat' split
  all_goals rfl

@[simp] theorem recallLookup_time (i : Nat) (x : Int) (s : State) : (recallLookup i x s).time = s.time := by
  unfold recallLookup
  split
  · split <;> simp
  · rfl

@[simp] theorem applyGrade_time (s : State) : (applyGrade s).time = s.time := by
  unfold applyGrade
  dsimp only
  split <;> rfl

@[simp] theorem announcePose_time (before : PoseQuality) (s : State) : (announcePose before s).time = s.time :=
  (time_of_sensed (sensed_consumePose ..)).trans (setPoseUnit_time ..)

@[simp] theorem gradeOnly_time (s : State) : (gradeOnly s).time = s.time := by
  unfold gradeOnly
  dsimp only
  split <;> simp

@[simp] theorem solveAndGrade_time (s : State) : (solveAndGrade s).time = s.time := by
  unfold solveAndGrade
  dsimp only
  split
  · simp
  · split <;> simp

@[simp] theorem poseArrival_time (p : Payload) (s : State) : (poseArrival p s).time = s.time := by
  unfold poseArrival
  split <;> simp

@[simp] theorem degradedExpired_time (s : State) : (degradedExpired s).time = s.time := by
  simp [degradedExpired]

/-! ## The Intervention Unit (R43 to R63) -/

/-- An event at the list leaves the Time Base alone if its work does. -/
theorem interventionEvent_time (f : Work → Work) (hf : ∀ w, sensed (f w).state = sensed w.state) (s : State) :
    (interventionEvent f s).time = s.time :=
  time_of_sensed (sensed_interventionEvent f hf s)

theorem sensed_extCut (st : Nat) (m : MotionSet) (w : Work) : sensed (w.extCut st m).state = sensed w.state := by
  unfold Work.extCut
  split
  · exact sensed_remove ..
  · split
    · exact sensed_change ..
    · exact sensed_raise ..

theorem sensed_overrideExpired (n : Nat) (w : Work) : sensed (w.overrideExpired n).state = sensed w.state := by
  simp [Work.overrideExpired]

@[simp] theorem enterHold_time (s : State) : (enterHold s).time = s.time := time_of_sensed (sensed_enterHold s)

@[simp] theorem valveCutArrival_time (echo : BitVec 8) (applied : MotionSet) (s : State) :
    (valveCutArrival echo applied s).time = s.time := by
  unfold valveCutArrival
  split <;> rfl

@[simp] theorem confirmExpired_time (s : State) : (confirmExpired s).time = s.time := by
  unfold confirmExpired
  split <;> simp

@[simp] theorem valveLost_time (s : State) : (valveLost s).time = s.time := by
  unfold valveLost
  split
  · split <;> rfl
  · split <;> rfl
  · simp
  · rfl

@[simp] theorem makePending_time (i : Nat) (e : LimitEntry) (c : LimitConfig) (s : State) :
    (makePending i e c s).time = s.time := by
  unfold makePending
  dsimp only
  split
  · exact interventionEvent_time _ (sensed_breachReport i false) _
  · rfl

/-! ## The transmit queue (R54, R145, R160 to R165) -/

@[simp] theorem offerOwed_time (s : State) : (offerOwed s).time = s.time := by
  unfold offerOwed
  split
  · rfl
  · split
    · rfl
    · split
      · rfl
      · split <;> rfl

@[simp] theorem offerOwedTimes_time (n : Nat) (s : State) : (offerOwedTimes n s).time = s.time := by
  induction n generalizing s with
  | zero => rfl
  | succ n ih => exact (ih _).trans (offerOwed_time s)

@[simp] theorem frameSent_time (s : State) : (frameSent s).time = s.time := by
  unfold frameSent sentRing
  dsimp only
  split
  · rfl
  · rfl
  · split
    · split
      · rfl
      · exact offerOwed_time _
    · rfl

@[simp] theorem attemptFailed_time (error : Bool) (s : State) : (attemptFailed error s).time = s.time := by
  unfold attemptFailed
  split <;> rfl

@[simp] theorem busWentOff_time (s : State) : (busWentOff s).time = s.time := by
  unfold busWentOff
  dsimp only
  split
  · split
    · rfl
    · split
      · exact enterHold_time _
      · rfl
  · rfl

@[simp] theorem busRecovered_time (s : State) : (busRecovered s).time = s.time := by
  unfold busRecovered
  split <;> rfl

@[simp] theorem periodic_time (p : CyclicPub) (s : State) : (periodic p s).time = s.time := by
  unfold periodic
  split <;> rfl

@[simp] theorem startPeriods_time (s : State) : (startPeriods s).time = s.time := by
  rw [startPeriods_eq]

/-! ## The end of a store write (R188) -/

@[simp] theorem answerLimit_time (t : Ticket) (s : State) : (answerLimit t s).time = s.time := by
  unfold answerLimit
  split <;> rfl

@[simp] theorem answerService_time (t : Ticket) (s : State) : (answerService t s).time = s.time := by
  unfold answerService
  split <;> rfl

/-- The waiters of a job whose station's reply still waits. -/
theorem foldl_answerService_time (l : List Ticket) (s : State) :
    (l.foldl (fun s t => if stillWaits s t then s else answerService t s) s).time = s.time := by
  refine foldl_keeps State.time _ (fun s t => ?_) l s
  split
  · rfl
  · exact answerService_time t s

@[simp] theorem jobCompleted_time (w : Writing) (s : State) : (jobCompleted w s).time = s.time := by
  unfold jobCompleted
  split
  case h_1 | h_7 => rfl
  case h_2 => split <;> simp
  case h_3 => exact foldl_keeps State.time _ (fun s t => finishRequest_time ..) _ s
  case h_4 => exact foldl_keeps State.time _ (fun s t => answerLimit_time t s) _ s
  case h_5 | h_6 => exact foldl_answerService_time _ s

@[simp] theorem writeCompleted_time (s : State) : (writeCompleted s).time = s.time := by
  have hday (u : State) : (offerDayJob u).time = u.time := by
    unfold offerDayJob
    split <;> simp
  have hservice (u : State) : (offerServiceJob u).time = u.time := by
    unfold offerServiceJob
    split
    · exact wantServiceJob_time u
    · rfl
  unfold writeCompleted
  split
  · rfl
  · simp [hday, hservice]

/-! ## Topics, lines and the end of an event -/

@[simp] theorem gradedBy_time (x : Nat × SubEntry × SubEntry × Payload) (s : State) : (gradedBy x s).time = s.time := by
  unfold gradedBy freshened
  dsimp only
  repeat' split
  all_goals rfl

@[simp] theorem staleEntry_time (i : Nat) (s : State) : (staleEntry i s).time = s.time := by
  unfold staleEntry
  dsimp only
  split
  · split
    · split <;> simp
    · rfl
  · rfl

@[simp] theorem handLost_time (e : SubEntry) (s : State) : (handLost e s).time = s.time := by
  unfold handLost
  split
  case h_6 | h_7 | h_8 => simp
  case h_9 => exact interventionEvent_time _ (fun w => sensed_change _ _ _ w) s
  case h_10 | h_11 | h_12 | h_13 | h_14 => rfl
  all_goals exact gradeOnly_time s

@[simp] theorem lostEntry_time (i : Nat) (s : State) : (lostEntry i s).time = s.time := by
  unfold lostEntry
  split
  · split
    · exact handLost_time ..
    · rfl
  · rfl

@[simp] theorem takeKeyOff_time (s : State) : (takeKeyOff s).time = s.time := by
  unfold takeKeyOff
  dsimp only
  split <;> simp

@[simp] theorem keyTurnedOff_time (s : State) : (keyTurnedOff s).time = s.time := by
  unfold keyTurnedOff
  dsimp only
  split
  · split
    · rfl
    · exact takeKeyOff_time _
  · split <;> rfl

@[simp] theorem supplyDropped_time (s : State) : (supplyDropped s).time = s.time := by
  unfold supplyDropped
  dsimp only
  split
  · split
    · exact urgentCheckpoint_time _
    · rfl
  · rfl

@[simp] theorem detectorRearmed_time (s : State) : (detectorRearmed s).time = s.time := by
  unfold detectorRearmed
  split <;> rfl

@[simp] theorem endStart_time (clash : Bool) (s : State) : (endStart clash s).time = s.time := by
  have hkeyOff (t : State) :
      (if t.keyOffHeld || !t.pins.keyOn then takeKeyOff { t with keyOffHeld := false } else t).time = t.time := by
    split
    · exact takeKeyOff_time _
    · rfl
  refine (hkeyOff _).trans ?_
  split
  · exact startPeriods_time _
  · exact (offerOwedTimes_time 8 _).trans (startPeriods_time _)

@[simp] theorem clashHeard_time (n : Nat) (s : State) : (clashHeard n s).time = s.time := by
  unfold clashHeard
  dsimp only
  repeat' split
  all_goals simp

@[simp] theorem settle_time (before after : State) : (settle before after).time = after.time := by
  obtain ⟨-, -, htime, -⟩ := (eventEnd_settle before after).time
  exact htime

end Sys2Proof.Machine
end

section
/-! PROOFS. Every step keeps the clock at a date and time that exist: a count goes to the next second, a set and an
adopted TIME_SYNC give times that exist, and a lost clock shows the origin (R108, R109, R112, R114, R116). -/

namespace Sys2Proof.Machine

/-! ## The law, and what keeps it -/

/-- What an effect keeps of the law. -/
structure ClockKept (s t : State) : Prop where
  law : clockLaw s = true → clockLaw t = true

@[refl] theorem ClockKept.refl (s : State) : ClockKept s s := ⟨id⟩

theorem ClockKept.trans {s t u : State} (h : ClockKept s t) (h' : ClockKept t u) : ClockKept s u := ⟨h'.law ∘ h.law⟩

/-- The clock as it was, whatever becomes of the rest of the Time Base. -/
theorem ClockKept.of_clock {s t : State} (h : t.time.clock = s.time.clock) : ClockKept s t :=
  ⟨fun hs => (congrArg ClockTime.ok h).trans hs⟩

theorem ClockKept.same {s t : State} (h : t.time = s.time) : ClockKept s t := .of_clock (congrArg TimeBase.clock h)

/-- An effect from a state whose Time Base is that of `s`. -/
theorem ClockKept.after {s t u : State} (h : ClockKept t u) (hs : t.time = s.time) : ClockKept s u :=
  (ClockKept.same hs).trans h

/-- A date and time that exist, whatever the clock was. -/
theorem ClockKept.of_ok {s t : State} (h : t.time.clock.ok = true) : ClockKept s t := ⟨fun _ => h⟩

theorem origin_ok : ClockTime.origin.ok = true := by decide

/-! ## The count, the crystal and the sets (R109, R112, R115, R116) -/

theorem clockKept_clockCounted (s : State) : ClockKept s (clockCounted s) := by
  have hcount : ClockKept s (countSecond s) := ⟨nextSecond_ok s.time.clock⟩
  by_cases hdue : countDue s = true
  · rw [clockCounted_due s hdue]
    split
    · exact hcount.trans (.same (announceCount_time _))
    · exact hcount
  · rw [clockCounted_early s hdue]

theorem clockKept_oscillatorStopped (s : State) : ClockKept s (oscillatorStopped s) := by
  unfold oscillatorStopped
  dsimp only
  split
  · rfl
  · repeat' split
    all_goals exact .of_ok origin_ok

theorem clockKept_oscillatorRestarted (s : State) : ClockKept s (oscillatorRestarted s) := by
  unfold oscillatorRestarted
  dsimp only
  split
  · rfl
  · split <;> exact .of_clock rfl

theorem setClockTo_clock (t : ClockTime) (src : SetSource) (s : State) : (setClockTo t src s).time.clock = t := by
  rw [(setClockTo_accounts t src s).1]
  rfl

/-- The fields of a TIME_SYNC frame are in range, so its time exists if its date does (R195). -/
theorem framePayload_timeSync_ok (role : Role) (f : Frame) (t : ClockTime) (h : framePayload role f = some (.timeSync t))
    (hdate : dateExists t.date t.month t.year = true) : t.ok = true := by
  unfold framePayload at h
  split at h
  · obtain rfl : Role.timeSync = role := decodePayload_role role _ _ h
    unfold decodePayload at h
    split at h
    case h_13 =>
      split at h
      next hrange =>
        simp only [Bool.and_eq_true, decide_eq_true_eq] at hrange
        cases h
        simp only [ClockTime.ok, hdate, Bool.and_true, Bool.and_eq_true, decide_eq_true_eq]
        omega
      next => cases h
    all_goals contradiction
  · cases h

theorem clockKept_timeSyncArrival (t : ClockTime) (s : State)
    (h : dateExists t.date t.month t.year = true → t.ok = true) : ClockKept s (timeSyncArrival t s) := by
  unfold timeSyncArrival
  split
  · rfl
  next e _ =>
    split
    · rfl
    next hadopts =>
      have hdate : dateExists t.date t.month t.year = true := by
        by_contra hno
        exact hadopts (by simp [hno])
      have hset : (setClockTo t .timeSync s).time.clock.ok = true := by
        rw [setClockTo_clock]
        exact h hdate
      split
      · exact .of_ok hset
      · split
        · exact .of_ok hset
        · rfl

/-! ## The frames of graded topics (R157, R159) -/

theorem clockKept_handArrival (st : Nat) (p : Payload) (s : State)
    (h : ∀ t, p = .timeSync t → dateExists t.date t.month t.year = true → t.ok = true) :
    ClockKept s (handArrival st p s) := by
  unfold handArrival
  split
  case h_6 => exact .same (economyEngineRun_time _ _ s)
  case h_7 => exact .same (integrateFuel_time _ s)
  case h_8 => exact .same (recallLookup_time _ _ s)
  case h_9 => exact .same (detectorPump_time s)
  case h_10 => exact .same (by simp)
  case h_11 => exact .same (valveCutArrival_time _ _ s)
  case h_12 => exact .same (interventionEvent_time _ (sensed_extCut _ _) s)
  case h_13 t => exact clockKept_timeSyncArrival t s (h t rfl)
  all_goals exact .same (poseArrival_time _ s)

theorem clockKept_takeFrame (role : Role) (station : Option Nat) (f : Frame) (s : State) :
    ClockKept s (takeFrame role station f s) := by
  unfold takeFrame
  split
  · rfl
  · split
    next i e p _ _ hpayload =>
      split
      · rfl
      next new _ =>
        refine (clockKept_handArrival _ p _ fun t ht => ?_).after (gradedBy_time (i, e, new, p) s)
        exact framePayload_timeSync_ok role f t (ht ▸ hpayload)
    · rfl

/-! ## The requests -/

/-- An owner whose answer leaves the Time Base alone. -/
def Owner.KeepsTime (own : Owner) : Prop := ∀ t a s, (own t a s).after.time = s.time

/-- An owner whose answer keeps the law. -/
def Owner.KeepsClock (own : Owner) : Prop := ∀ t a s, ClockKept s (own t a s).after

theorem Owner.KeepsTime.keepsClock {own : Owner} (h : own.KeepsTime) : own.KeepsClock := fun t a s => .same (h t a s)

/-- A level check refuses, or goes on with the Time Base as it was. -/
theorem checkLevel_after {need : Level} {t : Ticket} {s : State} {rest : State → Answer} (P : State → Prop) (hs : P s)
    (h : ∀ u, u.time = s.time → P (rest u).after) : P (checkLevel need t s rest).after := by
  unfold checkLevel
  split
  · refine h _ ?_
    split
    · rfl
    · exact renewGrant_time ..
  · exact hs

theorem checkLevel_time {need : Level} {t : Ticket} {s : State} {rest : State → Answer}
    (h : ∀ u, (rest u).after.time = u.time) : (checkLevel need t s rest).after.time = s.time :=
  checkLevel_after (·.time = s.time) rfl fun u hu => (h u).trans hu

theorem limitRequest_time {t : Ticket} {a : List Byte} {s : State} {rest : Nat → LimitEntry → State → Answer}
    (h : ∀ i e u, (rest i e u).after.time = u.time) : (limitRequest t a s rest).after.time = s.time := by
  unfold limitRequest
  split
  · rfl
  · refine checkLevel_time fun u => ?_
    split
    · rfl
    · split
      · rfl
      · exact h ..

/-- A changed limit's request waits on its job. -/
theorem carryLimit_makePending_time (t : Ticket) (i : Nat) (e : LimitEntry) (c : LimitConfig) (s : State) :
    (carryLimit t i (makePending i e c s)).after.time = s.time :=
  (carry_time ..).trans (makePending_time ..)

theorem keepsTime_readOwner : readOwner.KeepsTime := by
  intro t a s
  unfold readOwner
  dsimp only
  split
  · rfl
  · rfl
  · split
    · rfl
    · simp only [accept, Answer.after]
      split <;> rfl

theorem keepsTime_keyOwner : keyOwner.KeepsTime := by
  intro t a s
  unfold keyOwner checkKey
  repeat' split
  all_goals rfl

theorem keepsTime_restartOwner : restartOwner.KeepsTime := by
  intro t a s
  unfold restartOwner
  split
  · rfl
  · split
    · rfl
    · exact checkLevel_time fun _ => rfl

theorem keepsTime_clearFaultsOwner : clearFaultsOwner.KeepsTime := by
  intro t a s
  unfold clearFaultsOwner
  split
  · rfl
  · exact checkLevel_time fun _ => rfl

theorem keepsTime_writeImageOwner : writeImageOwner.KeepsTime := by
  intro t a s
  unfold writeImageOwner
  split
  · rfl
  · refine checkLevel_time fun u => ?_
    repeat' split
    all_goals rfl

theorem keepsTime_ackWarningOwner : ackWarningOwner.KeepsTime := by
  intro t a s
  unfold ackWarningOwner ackAllWarnings
  dsimp only
  repeat' split
  all_goals rfl

theorem keepsTime_teachLimitOwner : teachLimitOwner.KeepsTime := by
  intro t a s
  refine limitRequest_time fun i e u => ?_
  split
  · rfl
  · split
    · rfl
    · split
      · rfl
      · exact carryLimit_makePending_time ..

theorem keepsTime_setLimitOwner : setLimitOwner.KeepsTime := by
  intro t a s
  refine limitRequest_time fun i e u => ?_
  split
  · rfl
  · split
    · rfl
    · split
      · rfl
      · split
        · rfl
        · exact carryLimit_makePending_time ..

theorem keepsTime_enableLimitOwner : enableLimitOwner.KeepsTime := by
  intro t a s
  refine limitRequest_time fun i e u => ?_
  split
  · rfl
  · split
    · rfl
    · exact carryLimit_makePending_time ..

theorem keepsTime_disableLimitOwner : disableLimitOwner.KeepsTime := by
  intro t a s
  refine limitRequest_time fun i e u => ?_
  split
  · rfl
  · split
    · rfl
    · split
      · rfl
      · exact carry_time ..

theorem releaseRecord_time (r : Record) (s : State) : (releaseRecord r s).after.time = s.time := by
  unfold releaseRecord
  split
  · exact interventionEvent_time _ (sensed_remove _) s
  · rfl

theorem keepsTime_releaseOwner : releaseOwner.KeepsTime := by
  intro t a s
  unfold releaseOwner
  dsimp only
  split
  · rfl
  · split
    · rfl
    · split
      · rfl
      · split
        · exact checkLevel_time (releaseRecord_time _)
        · exact releaseRecord_time _ s

theorem keepsTime_overrideOwner : overrideOwner.KeepsTime := by
  intro t a s
  unfold overrideOwner
  dsimp only
  split
  · rfl
  · refine checkLevel_time fun u => ?_
    split
    · rfl
    · split
      · rfl
      · split
        · rfl
        · exact interventionEvent_time _ (fun w => sensed_change _ _ _ w) u

theorem keepsTime_resumeOwner : resumeOwner.KeepsTime := by
  intro t a s
  unfold resumeOwner
  split
  · rfl
  · refine checkLevel_time fun u => ?_
    dsimp only
    split <;> rfl

theorem keepsTime_benchmarkOwner : benchmarkOwner.KeepsTime := by
  intro t a s
  unfold benchmarkOwner setBenchmark
  split
  · rfl
  · refine checkLevel_time fun u => ?_
    repeat' split
    all_goals rfl

theorem changeGrade_time (t : Ticket) (i : Nat) (g : Option Segment) (s : State) :
    (changeGrade t i g s).after.time = s.time := by
  unfold changeGrade
  split
  · rfl
  · exact carry_time ..

theorem keepsTime_setGradeOwner : setGradeOwner.KeepsTime := by
  intro t a s
  unfold setGradeOwner
  dsimp only
  split
  · rfl
  · refine checkLevel_time fun u => ?_
    split
    · rfl
    · split
      · split
        · exact changeGrade_time ..
        · rfl
      · split
        · exact changeGrade_time ..
        · rfl
      · rfl

theorem keepsTime_powerModeOwner : powerModeOwner.KeepsTime := by
  intro t a s
  unfold powerModeOwner
  dsimp only
  repeat' split
  all_goals rfl

theorem doneRecall_time (i : Nat) (old new : Descriptor) (s : State) :
    (doneRecall i old new s).after.time = s.time := by
  simp only [doneRecall, accept, Answer.after, recallPose]
  split <;> simp

theorem keepsTime_tableRecallOwner : tableRecallOwner.KeepsTime := by
  intro t a s
  unfold tableRecallOwner
  dsimp only
  split
  · rfl
  · refine checkLevel_time fun u => ?_
    split
    · rfl
    · split
      · rfl
      · split
        · exact doneRecall_time ..
        · split
          · rfl
          · exact doneRecall_time ..
        · rfl

/-- SET_CLOCK sets a date and time that exist (R114). -/
theorem keepsClock_setClockOwner : setClockOwner.KeepsClock := by
  intro t a s
  unfold setClockOwner
  split
  · rfl
  · refine checkLevel_after (ClockKept s) (.refl s) fun u hu => ?_
    split
    · exact .same hu
    next hok =>
      split
      · exact .same hu
      · refine .of_ok ?_
        rw [accept, Answer.after, setClockTo_clock]
        simpa using hok

/-- SET_TRIM leaves the clock as it is (R111). -/
theorem keepsClock_setTrimOwner : setTrimOwner.KeepsClock := by
  intro t a s
  unfold setTrimOwner
  dsimp only
  split
  · rfl
  · refine checkLevel_after (ClockKept s) (.refl s) fun u hu => ?_
    split
    · exact .same hu
    · exact (ClockKept.same hu).trans (.of_clock rfl)

theorem raiseMeter_time (t : Ticket) (n : Nat) (v : MeterValue) (s : State) :
    (raiseMeter t n v s).after.time = s.time := by
  unfold raiseMeter
  dsimp only
  split <;> simp [accept, Answer.after]

theorem keepsTime_setMeterOwner : setMeterOwner.KeepsTime := by
  intro t a s
  unfold setMeterOwner
  dsimp only
  split
  · rfl
  · refine checkLevel_time fun u => ?_
    split
    · rfl
    · split
      · rfl
      · split
        · rfl
        · split
          · rfl
          · split
            · rfl
            · exact raiseMeter_time ..

theorem keepsTime_serviceDoneOwner : serviceDoneOwner.KeepsTime := by
  intro t a s
  unfold serviceDoneOwner
  dsimp only
  split
  · rfl
  · refine checkLevel_time fun u => ?_
    split
    · split
      · rfl
      · split
        · rfl
        · exact recordService_time ..
    · rfl

theorem keepsTime_ackReminderOwner : ackReminderOwner.KeepsTime := by
  intro t a s
  unfold ackReminderOwner ackAllReminders
  dsimp only
  repeat' split
  all_goals rfl

/-- Every code's owner keeps the law. -/
theorem keepsClock_ownerOf (code : Byte) (own : Owner) (h : ownerOf code = some own) : own.KeepsClock := by
  unfold ownerOf at h
  split at h
  all_goals cases h
  case h_18 => exact keepsClock_setClockOwner
  case h_19 => exact keepsClock_setTrimOwner
  all_goals refine Owner.KeepsTime.keepsClock ?_
  exacts [keepsTime_readOwner, keepsTime_keyOwner, keepsTime_restartOwner, keepsTime_clearFaultsOwner,
    keepsTime_writeImageOwner, keepsTime_ackWarningOwner, keepsTime_teachLimitOwner, keepsTime_setLimitOwner,
    keepsTime_enableLimitOwner, keepsTime_disableLimitOwner, keepsTime_releaseOwner, keepsTime_overrideOwner,
    keepsTime_resumeOwner, keepsTime_benchmarkOwner, keepsTime_setGradeOwner, keepsTime_powerModeOwner,
    keepsTime_tableRecallOwner, keepsTime_setMeterOwner, keepsTime_serviceDoneOwner, keepsTime_ackReminderOwner]

theorem clockKept_judgeRequest (code : Byte) (owner : Option Owner) (h : ∀ own, owner = some own → own.KeepsClock)
    (t : Ticket) (r : Request) (s : State) : ClockKept s (judgeRequest code owner t r s) := by
  unfold judgeRequest
  cases owner with
  | none => exact .same rfl
  | some own =>
    have hown := h own rfl t r.args s
    dsimp only
    repeat' split
    case h_1 res data u hanswer => exact (hanswer ▸ hown).trans (.same rfl)
    case h_2 u hanswer => exact (hanswer ▸ hown).trans (.same rfl)
    all_goals exact .same rfl

theorem clockKept_takeRequest (code : Byte) (owner : Option Owner) (h : ∀ own, owner = some own → own.KeepsClock)
    (r : Request) (s : State) : ClockKept s (takeRequest code owner r s) := by
  unfold takeRequest newRequest
  dsimp only
  split
  · rfl
  · split
    · rfl
    · split
      · exact .same (by simp)
      · split
        · exact .same (by simp)
        · exact (clockKept_judgeRequest code owner h _ r _).after (by simp)

theorem clockKept_takeByCode (code : Option Byte) (r : Request) (s : State) : ClockKept s (takeByCode code r s) := by
  unfold takeByCode
  split
  · exact clockKept_takeRequest _ _ (keepsClock_ownerOf _) r s
  · exact (clockKept_takeRequest _ none (fun _ h => nomatch h) r _).after (useFree_time s)

theorem clockKept_takeFragment (st : Nat) (f : Frame) (s : State) : ClockKept s (takeFragment st f s) := by
  unfold takeFragment
  split
  · rfl
  · split
    · rfl
    · split
      · split
        · exact clockKept_takeByCode ..
        · exact .same rfl
      · exact .same rfl

/-! ## Starts and supplies (R108, R181, R183, R185) -/

/-- A start keeps the clock (R108). -/
theorem clockKept_beginStart (s : State) : ClockKept s (beginStart s) := by
  obtain ⟨p, c, ends, cut, bus, m, d, q, hstart, -, -⟩ := beginStart_left s
  rw [hstart]
  exact .of_clock (startBuilt_set s).clock

theorem clockKept_startIfKeyOn (s : State) : ClockKept s (startIfKeyOn s) := by
  unfold startIfKeyOn
  split
  · exact clockKept_beginStart s
  · rfl

theorem clockKept_enterKeepAlive (s : State) : ClockKept s (enterKeepAlive s) := .of_clock rfl

/-- A battery connect begins at the origin (R108). -/
theorem clockKept_batteryConnected (k : Bool) (n : BitVec 5) (s : State) : ClockKept s (batteryConnected k n s) := by
  unfold batteryConnected
  split
  · exact ClockKept.trans (.of_ok origin_ok) (clockKept_startIfKeyOn _)
  · rfl

theorem clockKept_keepAliveLost (s : State) : ClockKept s (keepAliveLost s) := by
  unfold keepAliveLost
  split
  · rfl
  · exact .of_ok origin_ok

theorem cutOffStore_time (s : State) : (cutOffStore s).time = s.time := by
  unfold cutOffStore
  split <;> rfl

theorem clockKept_mainSupplyLost (s : State) : ClockKept s (mainSupplyLost s) := by
  unfold mainSupplyLost
  split
  · exact (clockKept_enterKeepAlive _).after (cutOffStore_time s)
  · rfl

theorem clockKept_keyTurnedOn (n : BitVec 5) (s : State) : ClockKept s (keyTurnedOn n s) := by
  unfold keyTurnedOn
  dsimp only
  split
  · exact (clockKept_beginStart _).after rfl
  · exact .same rfl

theorem clockKept_shutdownCompleted (s : State) : ClockKept s (shutdownCompleted s) := by
  unfold shutdownCompleted
  split
  · exact (clockKept_enterKeepAlive s).trans (clockKept_startIfKeyOn _)
  · rfl

theorem clockKept_restartBegun (s : State) : ClockKept s (restartBegun s) := by
  unfold restartBegun
  split
  · exact clockKept_beginStart s
  · rfl

theorem clockKept_listenEnded (s : State) : ClockKept s (listenEnded s) := by
  unfold listenEnded
  split
  · exact .same (endStart_time false s)
  · rfl

/-! ## Every command -/

/-- A command keeps the law. -/
def ClockKeptBy (s : State) (o : Host.Outcome State Fault Refusal) : Prop := ∀ t, o = .next t → ClockKept s t

theorem clockKeptBy_finish {s b t : State} (h : ClockKept s t) : ClockKeptBy s (finish b t) := by
  rintro _ ⟨⟩
  exact h.trans (.same (settle_time b t))

theorem clockKeptBy_request (code : Byte) (own : Owner) (h : own.KeepsClock) (r : Request) (s : State) :
    ClockKeptBy s (finish s (takeRequest code (some own) r s)) :=
  clockKeptBy_finish (clockKept_takeRequest code _ (fun _ h' => Option.some.inj h' ▸ h) r s)

/-- A request whose owner leaves the Time Base alone. -/
theorem clockKeptBy_timeless (code : Byte) (own : Owner) (h : own.KeepsTime) (r : Request) (s : State) :
    ClockKeptBy s (finish s (takeRequest code (some own) r s)) :=
  clockKeptBy_request code own h.keepsClock r s

theorem clockKeptBy_frame (role : Role) (station : Option Nat) (f : Frame) (s : State) :
    ClockKeptBy s (finish s (takeFrame role station f s)) :=
  clockKeptBy_finish (clockKept_takeFrame role station f s)

theorem clockKeptBy_same {s b t : State} (h : t.time = s.time) : ClockKeptBy s (finish b t) :=
  clockKeptBy_finish (.same h)

/-- An expiry, or the end of a write, where it is due. -/
theorem clockKeptBy_ite {b : Prop} [Decidable b] {s t : State} (h : t.time = s.time) :
    ClockKeptBy s (finish s (if b then t else s)) := by
  refine clockKeptBy_same ?_
  split
  · exact h
  · rfl

/-- Every command keeps the law. -/
theorem clockKeptBy_exec (c : Instr) (s : State) : ClockKeptBy s (exec c s) :=
  match c with
  | .read r => clockKeptBy_timeless _ _ keepsTime_readOwner r s
  | .key r => clockKeptBy_timeless _ _ keepsTime_keyOwner r s
  | .restart r => clockKeptBy_timeless _ _ keepsTime_restartOwner r s
  | .clearFaults r => clockKeptBy_timeless _ _ keepsTime_clearFaultsOwner r s
  | .writeImage r => clockKeptBy_timeless _ _ keepsTime_writeImageOwner r s
  | .ackWarning r => clockKeptBy_timeless _ _ keepsTime_ackWarningOwner r s
  | .teachLimit r => clockKeptBy_timeless _ _ keepsTime_teachLimitOwner r s
  | .setLimit r => clockKeptBy_timeless _ _ keepsTime_setLimitOwner r s
  | .enableLimit r => clockKeptBy_timeless _ _ keepsTime_enableLimitOwner r s
  | .disableLimit r => clockKeptBy_timeless _ _ keepsTime_disableLimitOwner r s
  | .release r => clockKeptBy_timeless _ _ keepsTime_releaseOwner r s
  | .override r => clockKeptBy_timeless _ _ keepsTime_overrideOwner r s
  | .resume r => clockKeptBy_timeless _ _ keepsTime_resumeOwner r s
  | .benchmark r => clockKeptBy_timeless _ _ keepsTime_benchmarkOwner r s
  | .setGrade r => clockKeptBy_timeless _ _ keepsTime_setGradeOwner r s
  | .powerMode r => clockKeptBy_timeless _ _ keepsTime_powerModeOwner r s
  | .tableRecall r => clockKeptBy_timeless _ _ keepsTime_tableRecallOwner r s
  | .setClock r => clockKeptBy_request _ _ keepsClock_setClockOwner r s
  | .setTrim r => clockKeptBy_request _ _ keepsClock_setTrimOwner r s
  | .setMeter r => clockKeptBy_timeless _ _ keepsTime_setMeterOwner r s
  | .serviceDone r => clockKeptBy_timeless _ _ keepsTime_serviceDoneOwner r s
  | .ackReminder r => clockKeptBy_timeless _ _ keepsTime_ackReminderOwner r s
  | .unknownRequestCode code r => clockKeptBy_finish (clockKept_takeByCode code r s)
  | .requestFragment station f => clockKeptBy_finish (clockKept_takeFragment station f s)
  | .poseInputArrival role f => clockKeptBy_frame role.role none f s
  | .engineRun f => clockKeptBy_frame .engineRun none f s
  | .engineFuel f => clockKeptBy_frame .engineFuel none f s
  | .coolant f => clockKeptBy_frame .coolant none f s
  | .pump f => clockKeptBy_frame .pump none f s
  | .pilot f => clockKeptBy_frame .pilot none f s
  | .valveCut f => clockKeptBy_frame .valveCut none f s
  | .extCut station f => clockKeptBy_frame .extCut (some station) f s
  | .timeSync f => clockKeptBy_frame .timeSync none f s
  | .topicClash topic => clockKeptBy_same (clashHeard_time topic s)
  | .staleLimitPassed entry => clockKeptBy_same (staleEntry_time entry s)
  | .lostLimitPassed entry => clockKeptBy_same (lostEntry_time entry s)
  | .degradedTimerExpiry => clockKeptBy_ite (degradedExpired_time s)
  | .confirmTimerExpiry => clockKeptBy_ite (confirmExpired_time s)
  | .overrideTimerExpiry sequence => clockKeptBy_ite (interventionEvent_time _ (sensed_overrideExpired sequence) s)
  | .stageTimerExpiry => clockKeptBy_ite (stageExpired_time s)
  | .waitTimerExpiry => clockKeptBy_ite (waitExpired_time s)
  | .shutdownTimerExpiry => clockKeptBy_ite (shutdownExpired_time s)
  | .resumeTimerExpiry => clockKeptBy_ite (resumeExpired_time s)
  | .grantExpiry _ | .lockoutExpiry _ => clockKeptBy_same rfl
  | .cutDemandPeriod | .guidancePeriod | .engineReqPeriod | .metersPeriod | .statusPeriod =>
    clockKeptBy_same (periodic_time _ s)
  | .clockCount => clockKeptBy_finish (clockKept_clockCounted s)
  | .oscillatorStop => clockKeptBy_finish (clockKept_oscillatorStopped s)
  | .oscillatorRestart => clockKeptBy_finish (clockKept_oscillatorRestarted s)
  | .supplyDrop => clockKeptBy_same (supplyDropped_time s)
  | .detectorRearm => clockKeptBy_same (detectorRearmed_time s)
  | .storeWriteComplete => clockKeptBy_ite (writeCompleted_time s)
  | .frameTransmitted => clockKeptBy_same (frameSent_time s)
  | .transmitAttemptFailed error => clockKeptBy_same (attemptFailed_time error s)
  | .busOff => clockKeptBy_same (busWentOff_time s)
  | .busRecovery => clockKeptBy_same (busRecovered_time s)
  | .batteryConnect keyOn straps => clockKeptBy_finish (clockKept_batteryConnected keyOn straps s)
  | .keepAliveSupplyLoss => clockKeptBy_finish (clockKept_keepAliveLost s)
  | .mainSupplyLoss => clockKeptBy_finish (clockKept_mainSupplyLost s)
  | .keyOn straps => clockKeptBy_finish (clockKept_keyTurnedOn straps s)
  | .keyOff => clockKeptBy_same (keyTurnedOff_time s)
  | .shutdownComplete => clockKeptBy_finish (clockKept_shutdownCompleted s)
  | .restartBegin => clockKeptBy_finish (clockKept_restartBegun s)
  | .listenEnd => clockKeptBy_finish (clockKept_listenEnded s)

/-- Time's passing counts periods, not seconds. -/
theorem tick_clock (s : State) : (tick s).time.clock = s.time.clock := by
  unfold tick countPeriods
  dsimp only
  split <;> rfl

/-- Settles O11: every command keeps the law, and time's passing leaves the clock to the next count. -/
theorem stepKeepsClockLaw : Obligations.StepKeepsClockLaw := by
  intro s t hs hstep
  unfold step at hstep
  split at hstep
  next c rest _ => exact (clockKeptBy_exec c { s with pending := rest } t hstep).law hs
  next =>
    cases hstep
    exact (ClockKept.of_clock (tick_clock s)).law hs

end Sys2Proof.Machine
end

section
/-! PROOFS. What leaves the Meter Unit as it is, and what leaves the meters as they are: the operations that neither
advance, set nor restore a meter (R121 to R137). -/

namespace Sys2Proof.Machine

/-! ## The Diagnostic List, the replies, the transmit queue and the store -/

@[simp] theorem pulseFault_meter (c : FaultCode) (f : FaultSource) (s : State) :
    (pulseFault c f s).meter = s.meter := rfl
@[simp] theorem sendReply_meter (t : Ticket) (r : Result) (d : List Byte) (s : State) :
    (sendReply t r d s).meter = s.meter := rfl
@[simp] theorem finishRequest_meter (t : Ticket) (r : Result) (d : List Byte) (s : State) :
    (finishRequest t r d s).meter = s.meter := rfl
@[simp] theorem renewGrant_meter (n : Nat) (s : State) : (renewGrant n s).meter = s.meter := rfl
@[simp] theorem queueJob_meter (j : Job) (s : State) : (queueJob j s).meter = s.meter := rfl

@[simp] theorem carry_meter (k : Job → Bool) (j : List Ticket → Job) (t : Ticket) (s : State) :
    (carry k j t s).meter = s.meter := by
  unfold carry
  split <;> rfl

@[simp] theorem requestTag_meter (r : Request) (s : State) : (requestTag r s).2.meter = s.meter := by
  unfold requestTag
  split <;> rfl

@[simp] theorem repeatRequest_meter (e : SubEntry) (s : State) : (repeatRequest e s).meter = s.meter := by
  unfold repeatRequest noteRequeued
  dsimp only
  repeat' split
  all_goals rfl

@[simp] theorem queueWarning_meter (n : WarnNotice) (s : State) : (queueWarning n s).meter = s.meter := by
  unfold queueWarning
  dsimp only
  split <;> rfl

@[simp] theorem queueRecordNotice_meter (n : Nat) (d : List Byte) (s : State) :
    (queueRecordNotice n d s).meter = s.meter := by
  unfold queueRecordNotice
  split <;> rfl

@[simp] theorem offerOwed_meter (s : State) : (offerOwed s).meter = s.meter := by
  unfold offerOwed
  repeat' split
  all_goals rfl

@[simp] theorem offerOwedTimes_meter (n : Nat) (s : State) : (offerOwedTimes n s).meter = s.meter := by
  induction n generalizing s with
  | zero => rfl
  | succ n ih => exact (ih _).trans (offerOwed_meter s)

@[simp] theorem frameSent_meter (s : State) : (frameSent s).meter = s.meter := by
  unfold frameSent sentRing
  dsimp only
  split
  · rfl
  · rfl
  · split
    · split
      · rfl
      · exact offerOwed_meter _
    · rfl

@[simp] theorem attemptFailed_meter (error : Bool) (s : State) : (attemptFailed error s).meter = s.meter := by
  unfold attemptFailed
  split <;> rfl

@[simp] theorem busRecovered_meter (s : State) : (busRecovered s).meter = s.meter := by
  unfold busRecovered
  split <;> rfl

@[simp] theorem periodic_meter (p : CyclicPub) (s : State) : (periodic p s).meter = s.meter := by
  unfold periodic
  split <;> rfl

@[simp] theorem startPeriods_meter (s : State) : (startPeriods s).meter = s.meter := by
  rw [startPeriods_eq]

/-! ## The Economy Unit -/

@[simp] theorem wantDayJob_meter (s : State) : (wantDayJob s).meter = s.meter := by
  obtain ⟨-, -, hmeter⟩ := wantDayJob_left s
  exact hmeter

@[simp] theorem engineStopped_meter (s : State) : (engineStopped s).meter = s.meter := by
  unfold engineStopped
  split <;> rfl

@[simp] theorem economyEngineRun_meter (running : Bool) (speed : Nat) (s : State) :
    (economyEngineRun running speed s).meter = s.meter := by
  unfold economyEngineRun
  split
  · exact engineStopped_meter s
  · repeat' split
    all_goals rfl

@[simp] theorem activityPresent_meter (s : State) : (activityPresent s).meter = s.meter := by
  unfold activityPresent
  split <;> rfl

@[simp] theorem economyPilot_meter (s : State) : (economyPilot s).meter = s.meter := by
  unfold economyPilot activityAbsent
  split
  · exact activityPresent_meter s
  · repeat' split
    all_goals rfl

@[simp] theorem waitExpired_meter (s : State) : (waitExpired s).meter = s.meter := by
  unfold waitExpired
  split <;> rfl

@[simp] theorem shutdownExpired_meter (s : State) : (shutdownExpired s).meter = s.meter := by
  unfold shutdownExpired
  split <;> rfl

@[simp] theorem resumeExpired_meter (s : State) : (resumeExpired s).meter = s.meter := by
  unfold resumeExpired
  split <;> rfl

@[simp] theorem economyTakes_meter (s : State) (a : Announcement) : (economyTakes s a).meter = s.meter := by
  cases a with
  | second =>
    unfold economyTakes economySecond
    dsimp only
    split <;> rfl
  | rollover => exact wantDayJob_meter _
  | shiftStart => rfl
  | reminder entry => rfl

/-! ## The Service Unit -/

/-- What leaves the accounts alone leaves the Meter Unit alone. -/
theorem meter_of_accounts {s t : State} (h : accounts t = accounts s) : t.meter = s.meter := congrArg (·.2.1) h

theorem accounts_forItems (f : Nat → ServiceItem → State → State) (hf : ∀ i x s, accounts (f i x s) = accounts s)
    (s : State) : accounts (forItems f s) = accounts s := by
  refine foldl_keeps accounts _ (fun s i => ?_) _ s
  split
  · exact hf ..
  · rfl

@[simp] theorem accounts_serviceMeter (n : Nat) (s : State) : accounts (serviceMeter n s) = accounts s := by
  refine accounts_forItems _ (fun i x s => ?_) s
  split
  · exact accounts_restand ..
  · rfl

theorem accounts_beginDayCounts (s : State) : accounts (beginDayCounts s) = accounts s := by
  unfold beginDayCounts
  split
  · rfl
  · refine accounts_forItems _ (fun i x s => ?_) s
    split
    · exact accounts_wantServiceJob _
    · rfl

theorem accounts_serviceReminder (k : Nat) (s : State) : accounts (serviceReminder k s) = accounts s := by
  refine accounts_forItems _ (fun i x s => ?_) s
  split
  · exact accounts_queueServiceNotice ..
  · rfl

@[simp] theorem accounts_serviceTakes (s : State) (a : Announcement) : accounts (serviceTakes s a) = accounts s := by
  cases a with
  | second => rfl
  | rollover => exact (accounts_serviceCalendar _).trans (accounts_beginDayCounts s)
  | shiftStart => rfl
  | reminder k => exact accounts_serviceReminder k s

@[simp] theorem recordService_meter (i : Nat) (x : ServiceItem) (t : Ticket) (s : State) :
    (recordService i x t s).meter = s.meter := by
  simp only [recordService, carry_meter, setService_meter]
  rfl

/-! ## The Meter Unit's own notices and checkpoints -/

@[simp] theorem announceMeter_meter (n : Nat) (s : State) : (announceMeter n s).meter = s.meter := by
  unfold announceMeter
  split
  · exact meter_of_accounts (accounts_serviceMeter n s)
  · rfl

@[simp] theorem answerWaiters_meter (l : List Waiter) (s : State) : (answerWaiters l s).meter = s.meter := by
  unfold answerWaiters
  exact foldl_keeps State.meter _ (fun s w => finishRequest_meter ..) l s

@[simp] theorem exhaustCheckpoints_meters (s : State) : (exhaustCheckpoints s).meter.meters = s.meter.meters := by
  simp [exhaustCheckpoints]

@[simp] theorem queueCheckpoint_meters (urgent : Bool) (s : State) :
    (queueCheckpoint urgent s).meter.meters = s.meter.meters := by
  unfold queueCheckpoint
  dsimp only
  split <;> rfl

@[simp] theorem takeOverPending_meters (s : State) : (takeOverPending s).meter.meters = s.meter.meters := rfl

@[simp] theorem wantCheckpoint_meters (s : State) : (wantCheckpoint s).meter.meters = s.meter.meters := by
  unfold wantCheckpoint
  repeat' split
  all_goals simp

@[simp] theorem wantCheckpointFor_meters (t : Ticket) (s : State) :
    (wantCheckpointFor t s).meter.meters = s.meter.meters :=
  wantCheckpoint_meters _

@[simp] theorem urgentCheckpoint_meters (s : State) : (urgentCheckpoint s).meter.meters = s.meter.meters := by
  unfold urgentCheckpoint
  dsimp only
  repeat' split
  all_goals simp

@[simp] theorem offerPendingCheckpoint_meters (s : State) :
    (offerPendingCheckpoint s).meter.meters = s.meter.meters := by
  unfold offerPendingCheckpoint
  repeat' split
  all_goals simp

@[simp] theorem checkpointCompleted_meters (n : Nat) (s : State) :
    (checkpointCompleted n s).meter.meters = s.meter.meters := by
  simp [checkpointCompleted]

/-! ## The end of a store write -/

@[simp] theorem answerLimit_meter (t : Ticket) (s : State) : (answerLimit t s).meter = s.meter := by
  unfold answerLimit
  split <;> rfl

/-- The waiters of a job, but for those whose request still waits on another. -/
theorem foldl_answerService_meter (l : List Ticket) (s : State) :
    (l.foldl (fun s t => if stillWaits s t then s else answerService t s) s).meter = s.meter := by
  refine foldl_keeps State.meter _ (fun s t => ?_) l s
  unfold answerService
  repeat' split
  all_goals rfl

@[simp] theorem jobCompleted_meters (w : Writing) (s : State) : (jobCompleted w s).meter.meters = s.meter.meters := by
  unfold jobCompleted
  split
  case h_1 | h_7 => rfl
  case h_2 =>
    split
    · exact checkpointCompleted_meters ..
    · rfl
  all_goals refine congrArg MeterUnit.meters ?_
  case h_3 => exact foldl_keeps State.meter _ (fun s t => finishRequest_meter ..) _ s
  case h_4 => exact foldl_keeps State.meter _ (fun s t => answerLimit_meter t s) _ s
  all_goals exact foldl_answerService_meter _ s

@[simp] theorem writeCompleted_meters (s : State) : (writeCompleted s).meter.meters = s.meter.meters := by
  have hday (u : State) : (offerDayJob u).meter = u.meter := by
    unfold offerDayJob
    split
    · exact wantDayJob_meter u
    · rfl
  have hservice (u : State) : (offerServiceJob u).meter = u.meter := by
    unfold offerServiceJob
    split
    · exact meter_of_accounts (accounts_wantServiceJob u)
    · rfl
  unfold writeCompleted
  split
  · rfl
  · simp [hday, hservice]

/-! ## The Guidance, Pose and Envelope Units -/

@[simp] theorem abandonCycle_meter (s : State) : (abandonCycle s).meter = s.meter := by
  unfold abandonCycle
  split <;> rfl

@[simp] theorem detectorPump_meter (s : State) : (detectorPump s).meter = s.meter := by
  unfold detectorPump
  split <;> rfl

@[simp] theorem stageExpired_meter (s : State) : (stageExpired s).meter = s.meter := by
  unfold stageExpired
  split <;> rfl

@[simp] theorem setDescriptor_meter (i : Nat) (old new : Descriptor) (s : State) :
    (setDescriptor i old new s).meter = s.meter := by
  rw [setDescriptor_eq]
  repeat' split
  all_goals rfl

@[simp] theorem recallLookup_meter (i : Nat) (x : Int) (s : State) : (recallLookup i x s).meter = s.meter := by
  unfold recallLookup
  split
  · split
    · exact setDescriptor_meter ..
    · rfl
  · rfl

@[simp] theorem applyGrade_meter (s : State) : (applyGrade s).meter = s.meter := by
  rw [applyGrade_eq]
  split <;> rfl

@[simp] theorem evaluateEntry_meter (i : Nat) (e : LimitEntry) (s : State) :
    (evaluateEntry i e s).1.meter = s.meter := by
  rw [evaluateEntry_eq]

theorem evaluateAll_meter (s : State) : (evaluateAll s).1.meter = s.meter := by
  unfold evaluateAll
  refine foldl_keeps (fun x : State × List Handed => x.1.meter) _ (fun x i => ?_) (List.range 12) (s, [])
  dsimp only
  repeat' split
  all_goals simp

@[simp] theorem envelopePose_meter (s : State) : (envelopePose s).1.meter = s.meter := by
  unfold envelopePose
  split
  · rfl
  · exact evaluateAll_meter s

/-! ## The Intervention Unit -/

@[simp] theorem formSets_meter (s : State) : (formSets s).meter = s.meter := by
  unfold formSets
  dsimp only
  repeat' split
  all_goals rfl

@[simp] theorem enterHold_meter (s : State) : (enterHold s).meter = s.meter := by
  unfold enterHold
  split <;> rfl

@[simp] theorem change_meter (p : Record → Bool) (f : Record → Record) (a : Record → Bool) (w : Work) :
    (w.change p f a).state.meter = w.state.meter := by
  rw [Work.change_eq]
  rfl

@[simp] theorem remove_meter (p : Record → Bool) (w : Work) : (w.remove p).state.meter = w.state.meter := by
  rw [Work.remove_eq]
  dsimp only
  split <;> rfl

@[simp] theorem raise_meter (k : RecordKind) (src : Option Nat) (c : RecordCause) (b : MotionSet) (w : Work) :
    (w.raise k src c b).state.meter = w.state.meter := by
  rcases Nat.lt_or_ge w.state.intervention.lastSeq 65535 with hlast | hlast
  · rw [raise_eq k src c b w hlast]
    dsimp only
    split
    · rw [exhaustSequence_listing, enterHold_meter]
      rfl
    · rfl
  · rw [raise_of_exhausted k src c b w hlast]

theorem unlessHold_meter (f : Work → Work) (w : Work) (hf : (f w).state.meter = w.state.meter) :
    (w.unlessHold f).state.meter = w.state.meter := by
  unfold Work.unlessHold
  split
  · rfl
  · exact hf

@[simp] theorem poseQuality_meter (before : PoseQuality) (w : Work) :
    (w.poseQuality before).state.meter = w.state.meter := by
  refine unlessHold_meter _ w ?_
  unfold Work.lossOfPose
  repeat' split
  all_goals simp

@[simp] theorem take_meter (w : Work) (h : Handed) : (w.take h).state.meter = w.state.meter := by
  refine unlessHold_meter _ w ?_
  cases h with
  | raise i k c b =>
    dsimp only
    unfold Work.raiseRequest
    split
    · exact change_meter ..
    · exact raise_meter ..
  | cause i c => exact change_meter ..
  | report i gone =>
    dsimp only
    unfold Work.breachReport
    split <;> simp

@[simp] theorem takes_meter (l : List Handed) (w : Work) : (l.foldl Work.take w).state.meter = w.state.meter :=
  foldl_keeps (fun w : Work => w.state.meter) Work.take take_meter l w

theorem extCut_meter (st : Nat) (m : MotionSet) (w : Work) : (w.extCut st m).state.meter = w.state.meter := by
  unfold Work.extCut
  repeat' split
  all_goals simp

/-- An event at the list leaves the Meter Unit alone if its work does. -/
theorem interventionEvent_meter (f : Work → Work) (hf : ∀ w, (f w).state.meter = w.state.meter) (s : State) :
    (interventionEvent f s).meter = s.meter := by
  have hclose (w : Work) : w.close.meter = w.state.meter := by
    refine (foldl_keeps State.meter _ (fun s n => queueRecordNotice_meter ..) _ _).trans ?_
    split
    · rfl
    · exact formSets_meter _
  exact (hclose _).trans (unlessHold_meter f ⟨s, []⟩ (hf _))

theorem valveCutArrival_meter (echo : BitVec 8) (applied : MotionSet) (s : State) :
    (valveCutArrival echo applied s).meter = s.meter := by
  unfold valveCutArrival
  split <;> rfl

theorem confirmExpired_meter (s : State) : (confirmExpired s).meter = s.meter := by
  unfold confirmExpired
  split <;> simp

theorem valveLost_meter (s : State) : (valveLost s).meter = s.meter := by
  unfold valveLost
  repeat' split
  all_goals simp

theorem makePending_meter (i : Nat) (e : LimitEntry) (c : LimitConfig) (s : State) :
    (makePending i e c s).meter = s.meter := by
  unfold makePending
  dsimp only
  split
  · exact interventionEvent_meter _ (fun w => by unfold Work.breachReport; split <;> simp) _
  · rfl

theorem busWentOff_meter (s : State) : (busWentOff s).meter = s.meter := by
  unfold busWentOff
  dsimp only
  repeat' split
  all_goals simp

/-! ## Topics, the clock, the lines and the end of an event -/

@[simp] theorem gradedBy_meter (x : Nat × SubEntry × SubEntry × Payload) (s : State) :
    (gradedBy x s).meter = s.meter := by
  unfold gradedBy freshened
  dsimp only
  repeat' split
  all_goals rfl

theorem setClockTo_meter (t : ClockTime) (src : SetSource) (s : State) : (setClockTo t src s).meter = s.meter := by
  obtain ⟨-, hmeter, -⟩ := setClockTo_accounts t src s
  exact hmeter

theorem timeSyncArrival_meter (t : ClockTime) (s : State) : (timeSyncArrival t s).meter = s.meter := by
  unfold timeSyncArrival
  repeat' split
  all_goals simp [setClockTo_meter]

theorem oscillatorStopped_meter (s : State) : (oscillatorStopped s).meter = s.meter := by
  unfold oscillatorStopped
  dsimp only
  repeat' split
  all_goals rfl

theorem oscillatorRestarted_meter (s : State) : (oscillatorRestarted s).meter = s.meter := by
  unfold oscillatorRestarted
  dsimp only
  repeat' split
  all_goals rfl

@[simp] theorem takeKeyOff_meters (s : State) : (takeKeyOff s).meter.meters = s.meter.meters := by
  unfold takeKeyOff
  dsimp only
  split <;> simp

theorem keyTurnedOff_meters (s : State) : (keyTurnedOff s).meter.meters = s.meter.meters := by
  unfold keyTurnedOff
  dsimp only
  repeat' split
  all_goals simp

theorem supplyDropped_meters (s : State) : (supplyDropped s).meter.meters = s.meter.meters := by
  unfold supplyDropped
  dsimp only
  repeat' split
  all_goals simp

theorem detectorRearmed_meter (s : State) : (detectorRearmed s).meter = s.meter := by
  unfold detectorRearmed
  split <;> rfl

theorem endStart_meters (clash : Bool) (s : State) : (endStart clash s).meter.meters = s.meter.meters := by
  have hkeyOff (t : State) : (if t.keyOffHeld || !t.pins.keyOn then takeKeyOff { t with keyOffHeld := false }
      else t).meter.meters = t.meter.meters := by
    split
    · exact takeKeyOff_meters _
    · rfl
  refine (hkeyOff _).trans (congrArg MeterUnit.meters ?_)
  split
  · exact startPeriods_meter _
  · exact (offerOwedTimes_meter 8 _).trans (startPeriods_meter _)

theorem clashHeard_meters (n : Nat) (s : State) : (clashHeard n s).meter.meters = s.meter.meters := by
  unfold clashHeard
  dsimp only
  repeat' split
  all_goals simp [endStart_meters]

theorem tick_meter (s : State) : (tick s).meter = s.meter := by
  unfold tick countPeriods
  dsimp only
  split <;> rfl

theorem settle_meters (before after : State) : (settle before after).meter.meters = after.meter.meters :=
  (eventEnd_settle before after).meter ▸ rfl

end Sys2Proof.Machine
end

section
/-! PROOFS. What a count, a completed cycle and a SET_METER make of the meters: each stays in its range, and none
decreases (R121, R123, R124, R127). -/

namespace Sys2Proof.Machine

/-! ## A meter's amount and range -/

theorem Meters.ok_iff (m : Meters) : m.ok = true ↔ m.times.length = 7
    ∧ (∀ x ∈ m.times, x.hours ≤ 999999 ∧ x.seconds ≤ 3599) ∧ m.cycles ≤ 999999999 := by
  simp only [Meters.ok, TimeMeter.ok, Bool.and_eq_true, beq_iff_eq, List.all_eq_true, decide_eq_true_eq, and_assoc]
  rfl

/-- The amount of a time meter in seconds. -/
def TimeMeter.amount (m : TimeMeter) : Nat := m.hours * 3600 + m.seconds

/-- A meter's amount: that of Cycles, that of a time meter, or none. -/
theorem meterAmount_eq (s : State) (n : Nat) : meterAmount s n
    = if n = 7 then s.meter.meters.cycles else (s.meter.meters.times[n]?.map TimeMeter.amount).getD 0 := by
  unfold meterAmount
  by_cases hn : n = 7
  · simp [Meters.value, MeterValue.amount, hn]
  · simp only [Meters.value, beq_iff_eq, if_neg hn]
    cases s.meter.meters.times[n]? <;> rfl

/-- What an effect does to meters in their ranges: they stay there, and none decreases. -/
structure MetersRise (s t : State) : Prop where
  law : meterLaw s = true → meterLaw t = true
  amount : meterLaw s = true → ∀ n, meterAmount s n ≤ meterAmount t n

@[refl] theorem MetersRise.refl (s : State) : MetersRise s s := ⟨id, fun _ _ => Nat.le_refl _⟩

theorem MetersRise.trans {s t u : State} (h : MetersRise s t) (h' : MetersRise t u) : MetersRise s u :=
  ⟨h'.law ∘ h.law, fun hs n => (h.amount hs n).trans (h'.amount (h.law hs) n)⟩

/-- The meters as they were. -/
theorem MetersRise.same {s t : State} (h : t.meter.meters = s.meter.meters) : MetersRise s t :=
  ⟨fun hs => (congrArg Meters.ok h).trans hs, fun _ n => Nat.le_of_eq (by simp only [meterAmount_eq, h])⟩

theorem MetersRise.left {s t : State} (h : t.meter = s.meter) : MetersRise s t := .same (congrArg MeterUnit.meters h)

/-- An effect from a state whose Meter Unit is that of `s`. -/
theorem MetersRise.after {s t u : State} (h : MetersRise t u) (hs : t.meter = s.meter) : MetersRise s u :=
  (MetersRise.left hs).trans h

/-! ## A second (R122, R123) -/

theorem TimeMeter.advance_range (m : TimeMeter) (hhours : m.hours ≤ 999999) (hseconds : m.seconds ≤ 3599) :
    (m.advance.hours ≤ 999999 ∧ m.advance.seconds ≤ 3599) ∧ m.amount ≤ m.advance.amount := by
  unfold TimeMeter.amount
  rcases Nat.lt_or_ge m.seconds 3599 with hsecond | hhour
  · rw [advance_second m hsecond]
    dsimp only
    omega
  · rcases Nat.lt_or_ge m.hours 999999 with hroom | hfull
    · rw [advance_hour m hhour hroom]
      dsimp only
      omega
    · rw [advance_full m hhour hfull]
      omega

theorem indexed_getElem? {α : Type} (l : List α) (n : Nat) : (indexed l)[n]? = l[n]?.map fun x => (n, x) := by
  ext ⟨i, x⟩
  unfold indexed
  simp only [List.getElem?_zip_eq_some, Option.map_eq_some_iff, Prod.mk.injEq]
  constructor
  · rintro ⟨hi, hx⟩
    obtain ⟨_, rfl⟩ := List.getElem?_eq_some_iff.1 hi
    exact ⟨x, hx, by simp⟩
  · rintro ⟨_, hx, rfl, rfl⟩
    obtain ⟨hlt, -⟩ := List.getElem?_eq_some_iff.1 hx
    exact ⟨List.getElem?_range hlt, hx⟩

theorem advancedTimes_getElem? (s : State) (n : Nat) : (advancedTimes s)[n]?
    = s.meter.meters.times[n]?.map fun m => if meterCondition s n then m.advance else m := by
  unfold advancedTimes
  rw [List.getElem?_map, indexed_getElem?, Option.map_map]
  rfl

theorem advancedTimes_length (s : State) : (advancedTimes s).length = s.meter.meters.times.length := by
  simp [advancedTimes, indexed]

/-- The time meters as they have advanced by a second. -/
theorem metersRise_advanced (s : State) : MetersRise s (setMeterUnit (secondAdvanced s) s) := by
  have hrange (hs : meterLaw s = true) (n : Nat) (m : TimeMeter) (hm : s.meter.meters.times[n]? = some m) :
      m.hours ≤ 999999 ∧ m.seconds ≤ 3599 :=
    ((Meters.ok_iff _).1 hs).2.1 m (List.mem_of_getElem? hm)
  refine ⟨fun hs => (Meters.ok_iff _).2 ?_, fun hs n => ?_⟩
  · obtain ⟨hlength, -, hcycles⟩ := (Meters.ok_iff _).1 hs
    refine ⟨(advancedTimes_length s).trans hlength, fun x hx => ?_, hcycles⟩
    obtain ⟨n, hn⟩ := List.mem_iff_getElem?.1 hx
    obtain ⟨m, hm, rfl⟩ := Option.map_eq_some_iff.1 ((advancedTimes_getElem? s n).symm.trans hn)
    obtain ⟨hhours, hseconds⟩ := hrange hs n m hm
    split
    · exact (m.advance_range hhours hseconds).1
    · exact ⟨hhours, hseconds⟩
  · rw [meterAmount_eq, meterAmount_eq]
    split
    · exact Nat.le_refl _
    · show _ ≤ ((advancedTimes s)[n]?.map TimeMeter.amount).getD 0
      rw [advancedTimes_getElem?]
      cases hm : s.meter.meters.times[n]? with
      | none => exact Nat.le_refl _
      | some m =>
        obtain ⟨hhours, hseconds⟩ := hrange hs n m hm
        show m.amount ≤ (if meterCondition s n then m.advance else m).amount
        split
        · exact (m.advance_range hhours hseconds).2
        · exact Nat.le_refl _

theorem periodicChecked_meters (u : MeterUnit) (s : State) : (periodicChecked u s).meter.meters = u.meters := by
  unfold periodicChecked
  repeat' split
  all_goals simp

theorem metersRise_meterSecond (s : State) : MetersRise s (meterSecond s) := by
  cases htaken : s.meter.keyOffTaken with
  | true => rw [meterSecond_keyOff s htaken]
  | false =>
    rw [meterSecond_counting s htaken]
    refine (metersRise_advanced s).trans (.same (Eq.trans ?_ (periodicChecked_meters (secondAdvanced s) s)))
    refine congrArg MeterUnit.meters (foldl_keeps State.meter _ (fun u n => ?_) _ _)
    split
    · exact meter_of_accounts (accounts_serviceMeter n u)
    · rfl

/-! ## A count's announcements (R113) -/

theorem takeAll_meter (takes : State → Announcement → State) (h : ∀ s a, (takes s a).meter = s.meter)
    (l : List Announcement) (s : State) : (takeAll takes l s).meter = s.meter := by
  unfold takeAll
  split <;> exact foldl_keeps State.meter _ h _ _

theorem metersRise_clockCounted (s : State) : MetersRise s (clockCounted s) := by
  have hannounce (u : State) : MetersRise u (announceCount u) := by
    refine (metersRise_meterSecond u).trans (.left ?_)
    unfold announceCount
    dsimp only
    split
    · rw [takeAll_meter _ fun s a => meter_of_accounts (accounts_serviceTakes s a), takeAll_meter _ economyTakes_meter]
    · rfl
  unfold clockCounted
  dsimp only
  split
  · split
    · exact (hannounce _).after rfl
    · exact .left rfl
  · rfl

/-! ## A completed cycle (R85, R124) -/

theorem metersRise_meterCycle (s : State) : MetersRise s (meterCycle s) := by
  rw [meterCycle_eq]
  split
  · rfl
  next hcounts =>
    refine MetersRise.trans ?_ (.left (announceMeter_meter 7 _))
    refine ⟨fun hs => (Meters.ok_iff _).2 ?_, fun _ n => ?_⟩
    · obtain ⟨hlength, htimes, -⟩ := (Meters.ok_iff _).1 hs
      refine ⟨hlength, htimes, ?_⟩
      show s.meter.meters.cycles + 1 ≤ 999999999
      omega
    · rw [meterAmount_eq, meterAmount_eq]
      split
      · exact Nat.le_succ _
      · exact Nat.le_refl _

theorem metersRise_testReturn (s : State) : MetersRise s (testReturn s) := by
  unfold testReturn
  split
  · rfl
  · have hcycle : (completeCycle s).meter = (meterCycle (endCycle .completed s)).meter := rfl
    have hend : MetersRise s (endCycle .completed s) := .left rfl
    exact (hend.trans (metersRise_meterCycle _)).trans (.left hcycle)

/-! ## SET_METER (R127) -/

theorem meterArgs_eq (a : List Byte) : meterArgs a =
    if argNat a 0 = 7 then
      (if (argU32 a 1).toNat ≤ 999999999 then some (.count (argU32 a 1).toNat) else none)
    else if (argU32 a 1).toNat ≤ 999999 ∧ argU16 a 5 ≤ 3599 then some (.time (argU32 a 1).toNat (argU16 a 5))
    else none := by
  simp only [meterArgs, beq_iff_eq, Bool.and_eq_true, decide_eq_true_eq]
  rfl

/-- A value that SET_METER's arguments give is one of the meter that they name, and in its range. -/
theorem meterArgs_some {a : List Byte} {v : MeterValue} (h : meterArgs a = some v) :
    (argNat a 0 = 7 ∧ ∃ n ≤ 999999999, v = .count n)
      ∨ (argNat a 0 ≠ 7 ∧ ∃ hours seconds, hours ≤ 999999 ∧ seconds ≤ 3599 ∧ v = .time hours seconds) := by
  rw [meterArgs_eq] at h
  split at h
  next hcycles =>
    obtain ⟨hn, hv⟩ := Option.ite_none_right_eq_some.1 h
    exact .inl ⟨hcycles, _, hn, (Option.some.inj hv).symm⟩
  next htime =>
    obtain ⟨⟨hhours, hseconds⟩, hv⟩ := Option.ite_none_right_eq_some.1 h
    exact .inr ⟨htime, _, _, hhours, hseconds, (Option.some.inj hv).symm⟩

/-- A meter that SET_METER raises. -/
theorem metersRise_set (a : List Byte) (v present : MeterValue) (s : State) (hv : meterArgs a = some v)
    (hpresent : s.meter.meters.value (argNat a 0) = some present) (hraises : present.amount ≤ v.amount) :
    MetersRise s (setMeterUnit { s.meter with meters := s.meter.meters.set (argNat a 0) v } s) := by
  rcases meterArgs_some hv with ⟨hn, c, hc, rfl⟩ | ⟨hn, hours, seconds, hhours, hseconds, rfl⟩
  · refine ⟨fun hs => (Meters.ok_iff _).2 ?_, fun _ n => ?_⟩
    · obtain ⟨hlength, htimes, -⟩ := (Meters.ok_iff _).1 hs
      exact ⟨hlength, htimes, hc⟩
    · obtain rfl : MeterValue.count s.meter.meters.cycles = present := by simpa [Meters.value, hn] using hpresent
      rw [meterAmount_eq, meterAmount_eq]
      split
      · exact hraises
      · exact Nat.le_refl _
  · refine ⟨fun hs => (Meters.ok_iff _).2 ?_, fun _ n => ?_⟩
    · obtain ⟨hlength, htimes, hcycles⟩ := (Meters.ok_iff _).1 hs
      refine ⟨(List.length_set ..).trans hlength, fun x hx => ?_, hcycles⟩
      rcases List.mem_or_eq_of_mem_set hx with hmem | rfl
      · exact htimes x hmem
      · exact ⟨hhours, hseconds⟩
    · rw [meterAmount_eq, meterAmount_eq]
      split
      · exact Nat.le_refl _
      · show _ ≤ ((s.meter.meters.times.set (argNat a 0) ⟨hours, seconds⟩)[n]?.map TimeMeter.amount).getD 0
        rw [List.getElem?_set]
        split
        next heq =>
          subst heq
          simp only [Meters.value, beq_iff_eq, if_neg hn, Option.map_eq_some_iff] at hpresent
          obtain ⟨m, hm, rfl⟩ := hpresent
          obtain ⟨hlt, -⟩ := List.getElem?_eq_some_iff.1 hm
          rw [hm, if_pos hlt]
          exact hraises
        next => exact Nat.le_refl _

theorem metersRise_raiseMeter (t : Ticket) (a : List Byte) (v present : MeterValue) (s : State)
    (hv : meterArgs a = some v) (hpresent : s.meter.meters.value (argNat a 0) = some present)
    (hraises : present.amount ≤ v.amount) : MetersRise s (raiseMeter t (argNat a 0) v s).after := by
  refine (metersRise_set a v present s hv hpresent hraises).trans (.same ?_)
  unfold raiseMeter
  dsimp only
  split <;> simp [accept, Answer.after]

end Sys2Proof.Machine
end

section
/-! PROOFS. Every effect but a start leaves each meter in its range and decreases none: the arrivals, the ages and the
requests (R121, R123, R124, R127). -/

namespace Sys2Proof.Machine

/-! ## The cycles that a pose update or PILOT completes (R81 to R85) -/

theorem metersRise_detectorPilot (s : State) : MetersRise s (detectorPilot s) := by
  unfold detectorPilot
  dsimp only
  split
  case h_3 =>
    split
    · rfl
    · exact (metersRise_testReturn _).after rfl
  all_goals
    repeat' split
    all_goals exact .left rfl

theorem metersRise_guidancePilot (s : State) : MetersRise s (guidancePilot s) := by
  unfold guidancePilot
  split
  · exact .left (abandonCycle_meter s)
  · exact metersRise_detectorPilot s

theorem metersRise_detectorPose (s : State) : MetersRise s (detectorPose s) := by
  unfold detectorPose
  split
  · exact .left (abandonCycle_meter s)
  · split
    · split <;> exact .left rfl
    · exact metersRise_testReturn s
    · rfl

/-- The consumers of a pose update: the detector may complete a cycle, the other blocks leave the meters. -/
theorem metersRise_consumePose (before : PoseQuality) (s : State) : MetersRise s (consumePose before s) := by
  rw [consumePose_eq]
  refine MetersRise.trans ?_ (.left (interventionEvent_meter _ (fun w => by simp) _))
  refine MetersRise.after (t := scanAndForm _) (metersRise_detectorPose _) ?_
  show State.meter (ite _ _ _) = s.meter
  repeat' split
  all_goals simp

/-! ## The pose and the other arrivals (R2, R157 to R159) -/

theorem metersRise_announcePose (before : PoseQuality) (s : State) : MetersRise s (announcePose before s) :=
  (metersRise_consumePose before _).after (setPoseUnit_meter ..)

theorem metersRise_gradeOnly (s : State) : MetersRise s (gradeOnly s) := by
  unfold gradeOnly
  dsimp only
  split
  · exact (metersRise_announcePose ..).after (applyGrade_meter s)
  · exact .left (applyGrade_meter s)

theorem metersRise_solveAndGrade (s : State) : MetersRise s (solveAndGrade s) := by
  cases hsolve : solvePose s with
  | some p =>
    rw [solveAndGrade_of_solve s p hsolve]
    exact (metersRise_announcePose ..).after ((applyGrade_meter _).trans (setPoseUnit_meter ..))
  | none =>
    rw [solveAndGrade_no_solve s hsolve]
    exact metersRise_gradeOnly s

theorem metersRise_poseArrival (p : Payload) (s : State) : MetersRise s (poseArrival p s) := by
  unfold poseArrival
  split
  · exact (metersRise_solveAndGrade _).after (recallLookup_meter ..)
  · exact (metersRise_solveAndGrade _).after (recallLookup_meter ..)
  · exact metersRise_solveAndGrade s

theorem metersRise_degradedExpired (s : State) : MetersRise s (degradedExpired s) :=
  (metersRise_announcePose ..).after ((report_meter ..).trans (setPoseUnit_meter ..))

theorem metersRise_handArrival (st : Nat) (p : Payload) (s : State) : MetersRise s (handArrival st p s) := by
  unfold handArrival
  split
  case h_6 => exact .left (economyEngineRun_meter _ _ s)
  case h_7 => exact .left rfl
  case h_8 => exact .left (recallLookup_meter _ _ s)
  case h_9 => exact .left (detectorPump_meter s)
  case h_10 => exact (metersRise_guidancePilot _).after (economyPilot_meter s)
  case h_11 => exact .left (valveCutArrival_meter _ _ s)
  case h_12 => exact .left (interventionEvent_meter _ (extCut_meter _ _) s)
  case h_13 => exact .left (timeSyncArrival_meter _ s)
  all_goals exact metersRise_poseArrival _ s

theorem metersRise_takeFrame (role : Role) (station : Option Nat) (f : Frame) (s : State) :
    MetersRise s (takeFrame role station f s) := by
  unfold takeFrame
  split
  · rfl
  · split
    next i e p _ _ _ =>
      split
      · rfl
      next new _ => exact (metersRise_handArrival _ p _).after (gradedBy_meter (i, e, new, p) s)
    · rfl

theorem metersRise_staleEntry (i : Nat) (s : State) : MetersRise s (staleEntry i s) := by
  unfold staleEntry
  dsimp only
  split
  · split
    · split
      · exact (metersRise_gradeOnly _).after rfl
      · exact .left rfl
    · rfl
  · rfl

theorem metersRise_handLost (e : SubEntry) (s : State) : MetersRise s (handLost e s) := by
  unfold handLost
  split
  case h_6 => exact .left (engineStopped_meter s)
  case h_7 => exact .left ((abandonCycle_meter _).trans (activityPresent_meter s))
  case h_8 => exact .left (valveLost_meter s)
  case h_9 => exact .left (interventionEvent_meter _ (fun w => change_meter _ _ _ w) s)
  case h_10 | h_11 | h_12 | h_13 | h_14 => rfl
  all_goals exact metersRise_gradeOnly s

theorem metersRise_lostEntry (i : Nat) (s : State) : MetersRise s (lostEntry i s) := by
  unfold lostEntry
  split
  · split
    · exact (metersRise_handLost ..).after rfl
    · rfl
  · rfl

/-! ## The requests -/

/-- An owner whose answer keeps the meters in their ranges and decreases none. -/
def Owner.RaisesMeters (own : Owner) : Prop := ∀ t a s, MetersRise s (own t a s).after

theorem checkLevel_metersRise {need : Level} {t : Ticket} {s : State} {rest : State → Answer}
    (h : ∀ u, MetersRise u (rest u).after) : MetersRise s (checkLevel need t s rest).after := by
  unfold checkLevel
  split
  · refine (h _).after ?_
    split <;> rfl
  · exact .left rfl

theorem limitRequest_metersRise {t : Ticket} {a : List Byte} {s : State} {rest : Nat → LimitEntry → State → Answer}
    (h : ∀ i e u, MetersRise u (rest i e u).after) : MetersRise s (limitRequest t a s rest).after := by
  unfold limitRequest
  split
  · exact .left rfl
  · refine checkLevel_metersRise fun u => ?_
    split
    · exact .left rfl
    · split
      · exact .left rfl
      · exact h ..

/-- A changed limit's request waits on its job. -/
theorem carryLimit_makePending_meter (t : Ticket) (i : Nat) (e : LimitEntry) (c : LimitConfig) (s : State) :
    (carryLimit t i (makePending i e c s)).after.meter = s.meter :=
  (carry_meter ..).trans (makePending_meter ..)

theorem raisesMeters_readOwner : readOwner.RaisesMeters := by
  intro t a s
  unfold readOwner
  dsimp only
  repeat' split
  all_goals exact .left rfl

theorem raisesMeters_keyOwner : keyOwner.RaisesMeters := by
  intro t a s
  unfold keyOwner checkKey
  repeat' split
  all_goals exact .left rfl

theorem raisesMeters_restartOwner : restartOwner.RaisesMeters := by
  intro t a s
  unfold restartOwner
  repeat' split
  case isFalse.isFalse => exact checkLevel_metersRise fun _ => .left rfl
  all_goals exact .left rfl

theorem raisesMeters_clearFaultsOwner : clearFaultsOwner.RaisesMeters := by
  intro t a s
  unfold clearFaultsOwner
  split
  · exact .left rfl
  · exact checkLevel_metersRise fun _ => .left rfl

theorem raisesMeters_writeImageOwner : writeImageOwner.RaisesMeters := by
  intro t a s
  unfold writeImageOwner
  split
  · exact .left rfl
  · refine checkLevel_metersRise fun u => ?_
    repeat' split
    all_goals exact .left rfl

theorem raisesMeters_ackWarningOwner : ackWarningOwner.RaisesMeters := by
  intro t a s
  unfold ackWarningOwner ackAllWarnings
  dsimp only
  repeat' split
  all_goals exact .left rfl

theorem raisesMeters_teachLimitOwner : teachLimitOwner.RaisesMeters := by
  intro t a s
  refine limitRequest_metersRise fun i e u => ?_
  repeat' split
  case h_2.isFalse.isFalse => exact .left (carryLimit_makePending_meter ..)
  all_goals exact .left rfl

theorem raisesMeters_setLimitOwner : setLimitOwner.RaisesMeters := by
  intro t a s
  refine limitRequest_metersRise fun i e u => ?_
  repeat' split
  case h_2.isFalse.isFalse => exact .left (carryLimit_makePending_meter ..)
  all_goals exact .left rfl

theorem raisesMeters_enableLimitOwner : enableLimitOwner.RaisesMeters := by
  intro t a s
  refine limitRequest_metersRise fun i e u => ?_
  repeat' split
  case isFalse.isFalse => exact .left (carryLimit_makePending_meter ..)
  all_goals exact .left rfl

theorem raisesMeters_disableLimitOwner : disableLimitOwner.RaisesMeters := by
  intro t a s
  refine limitRequest_metersRise fun i e u => ?_
  repeat' split
  case isFalse.isFalse.isFalse => exact .left (carry_meter ..)
  all_goals exact .left rfl

theorem releaseRecord_meter (r : Record) (s : State) : (releaseRecord r s).after.meter = s.meter := by
  unfold releaseRecord
  split
  · exact interventionEvent_meter _ (remove_meter _) s
  · rfl

theorem raisesMeters_releaseOwner : releaseOwner.RaisesMeters := by
  intro t a s
  unfold releaseOwner
  dsimp only
  repeat' split
  case h_2.isTrue => exact checkLevel_metersRise fun u => .left (releaseRecord_meter _ u)
  case h_2.isFalse => exact .left (releaseRecord_meter _ s)
  all_goals exact .left rfl

theorem raisesMeters_overrideOwner : overrideOwner.RaisesMeters := by
  intro t a s
  unfold overrideOwner
  dsimp only
  split
  · exact .left rfl
  · refine checkLevel_metersRise fun u => ?_
    repeat' split
    case h_2.isFalse => exact .left (interventionEvent_meter _ (fun w => change_meter _ _ _ w) u)
    all_goals exact .left rfl

theorem raisesMeters_resumeOwner : resumeOwner.RaisesMeters := by
  intro t a s
  unfold resumeOwner
  split
  · exact .left rfl
  · refine checkLevel_metersRise fun u => ?_
    dsimp only
    split <;> exact .left rfl

theorem raisesMeters_benchmarkOwner : benchmarkOwner.RaisesMeters := by
  intro t a s
  unfold benchmarkOwner setBenchmark
  split
  · exact .left rfl
  · refine checkLevel_metersRise fun u => ?_
    repeat' split
    all_goals exact .left rfl

theorem changeGrade_meter (t : Ticket) (i : Nat) (g : Option Segment) (s : State) :
    (changeGrade t i g s).after.meter = s.meter := by
  unfold changeGrade
  split
  · rfl
  · exact carry_meter ..

theorem raisesMeters_setGradeOwner : setGradeOwner.RaisesMeters := by
  intro t a s
  unfold setGradeOwner
  dsimp only
  split
  · exact .left rfl
  · refine checkLevel_metersRise fun u => ?_
    split
    · exact .left rfl
    · split
      · split
        · exact .left (changeGrade_meter ..)
        · exact .left rfl
      · split
        · exact .left (changeGrade_meter ..)
        · exact .left rfl
      · exact .left rfl

theorem raisesMeters_powerModeOwner : powerModeOwner.RaisesMeters := by
  intro t a s
  unfold powerModeOwner
  dsimp only
  repeat' split
  all_goals exact .left rfl

/-- TABLE_RECALL announces a pose update, as an arrival does (R17). -/
theorem metersRise_doneRecall (i : Nat) (old new : Descriptor) (s : State) :
    MetersRise s (doneRecall i old new s).after := by
  refine MetersRise.after (t := setDescriptor i old new s) ?_ (setDescriptor_meter ..)
  simp only [doneRecall, accept, Answer.after, recallPose]
  split
  · exact metersRise_solveAndGrade _
  · rfl

theorem raisesMeters_tableRecallOwner : tableRecallOwner.RaisesMeters := by
  intro t a s
  unfold tableRecallOwner
  dsimp only
  split
  · exact .left rfl
  · refine checkLevel_metersRise fun u => ?_
    split
    · exact .left rfl
    · split
      · exact .left rfl
      · split
        · exact metersRise_doneRecall ..
        · split
          · exact .left rfl
          · exact metersRise_doneRecall ..
        · exact .left rfl

theorem raisesMeters_setClockOwner : setClockOwner.RaisesMeters := by
  intro t a s
  unfold setClockOwner
  split
  · exact .left rfl
  · refine checkLevel_metersRise fun u => ?_
    repeat' split
    case isFalse.isFalse => exact .left (setClockTo_meter ..)
    all_goals exact .left rfl

theorem raisesMeters_setTrimOwner : setTrimOwner.RaisesMeters := by
  intro t a s
  unfold setTrimOwner
  dsimp only
  split
  · exact .left rfl
  · refine checkLevel_metersRise fun u => ?_
    split <;> exact .left rfl

/-- SET_METER changes a meter to a higher value in its range only (R127). -/
theorem raisesMeters_setMeterOwner : setMeterOwner.RaisesMeters := by
  intro t a s
  unfold setMeterOwner
  dsimp only
  split
  · exact .left rfl
  · refine checkLevel_metersRise fun u => ?_
    split
    · exact .left rfl
    next present hpresent =>
      split
      · exact .left rfl
      next v hv =>
        split
        · exact .left rfl
        next hraises =>
          repeat' split
          case isFalse.isFalse => exact metersRise_raiseMeter t a v present u hv hpresent (Nat.le_of_not_lt hraises)
          all_goals exact .left rfl

theorem raisesMeters_serviceDoneOwner : serviceDoneOwner.RaisesMeters := by
  intro t a s
  unfold serviceDoneOwner
  dsimp only
  split
  · exact .left rfl
  · refine checkLevel_metersRise fun u => ?_
    repeat' split
    case h_1.isFalse.isFalse => exact .left (recordService_meter ..)
    all_goals exact .left rfl

theorem raisesMeters_ackReminderOwner : ackReminderOwner.RaisesMeters := by
  intro t a s
  unfold ackReminderOwner ackAllReminders
  dsimp only
  repeat' split
  all_goals exact .left rfl

theorem raisesMeters_ownerOf (code : Byte) (own : Owner) (h : ownerOf code = some own) : own.RaisesMeters := by
  unfold ownerOf at h
  split at h
  all_goals cases h
  exacts [raisesMeters_readOwner, raisesMeters_keyOwner, raisesMeters_restartOwner, raisesMeters_clearFaultsOwner,
    raisesMeters_writeImageOwner, raisesMeters_ackWarningOwner, raisesMeters_teachLimitOwner,
    raisesMeters_setLimitOwner, raisesMeters_enableLimitOwner, raisesMeters_disableLimitOwner,
    raisesMeters_releaseOwner, raisesMeters_overrideOwner, raisesMeters_resumeOwner, raisesMeters_benchmarkOwner,
    raisesMeters_setGradeOwner, raisesMeters_powerModeOwner, raisesMeters_tableRecallOwner,
    raisesMeters_setClockOwner, raisesMeters_setTrimOwner, raisesMeters_setMeterOwner, raisesMeters_serviceDoneOwner,
    raisesMeters_ackReminderOwner]

theorem metersRise_judgeRequest (code : Byte) (owner : Option Owner) (h : ∀ own, owner = some own → own.RaisesMeters)
    (t : Ticket) (r : Request) (s : State) : MetersRise s (judgeRequest code owner t r s) := by
  unfold judgeRequest
  cases owner with
  | none => exact .left rfl
  | some own =>
    have hown := h own rfl t r.args s
    dsimp only
    repeat' split
    case h_1 res data u hanswer => exact (hanswer ▸ hown).trans (.left rfl)
    case h_2 u hanswer => exact (hanswer ▸ hown).trans (.left rfl)
    all_goals exact .left rfl

theorem metersRise_takeRequest (code : Byte) (owner : Option Owner) (h : ∀ own, owner = some own → own.RaisesMeters)
    (r : Request) (s : State) : MetersRise s (takeRequest code owner r s) := by
  unfold takeRequest newRequest
  dsimp only
  repeat' split
  case h_2.isFalse.isFalse.isFalse => exact (metersRise_judgeRequest code owner h _ r _).after (by simp)
  case h_2.isFalse.isFalse.isTrue => exact .left (by simp)
  case h_2.isFalse.isTrue => exact .left (by simp)
  all_goals rfl

theorem metersRise_takeByCode (code : Option Byte) (r : Request) (s : State) :
    MetersRise s (takeByCode code r s) := by
  unfold takeByCode
  split
  · exact metersRise_takeRequest _ _ (raisesMeters_ownerOf _) r s
  · exact (metersRise_takeRequest _ none (fun _ h => nomatch h) r _).after (useFree_meter s)

theorem metersRise_takeFragment (st : Nat) (f : Frame) (s : State) : MetersRise s (takeFragment st f s) := by
  unfold takeFragment
  repeat' split
  case h_1.isTrue => exact metersRise_takeByCode ..
  all_goals exact .left rfl

end Sys2Proof.Machine
end

section
/-! PROOFS. Every step keeps the meters in their ranges, and decreases none while the part stays in Running, or in Limp
with no start to come: a start alone takes them back to a checkpoint (R121, R123, R127, R135). -/

namespace Sys2Proof.Machine

/-! ## What a start and a loss of supply restore (R135, R181) -/

/-- A start restores meters in their ranges: those of a valid slot, or zero. -/
theorem startMeter_ok (s : State) : (startMeter s).meters.ok = true := by
  unfold startMeter
  cases hnew : newestSlot s.store.slots with
  | none => show Meters.zero.ok = true; decide
  | some c =>
    obtain ⟨⟨x, -, hvalid, rfl⟩, -⟩ := newestSlot_spec _ _ hnew
    simp only [Slot.valid, Bool.and_eq_true] at hvalid
    obtain ⟨⟨-, hok⟩, -⟩ := hvalid
    exact hok

theorem meterLaw_beginStart (s : State) : meterLaw (beginStart s) = true := by
  have hmeters : (beginStart s).meter.meters = (startMeter s).meters := by
    rw [← (startBuilt_restored s).meter, beginStart_eq]
    split
    · rfl
    · exact endStart_meters false _
  exact (congrArg Meters.ok hmeters).trans (startMeter_ok s)

theorem meterLaw_enterKeepAlive (s : State) : meterLaw (enterKeepAlive s) = true := by
  show Meters.zero.ok = true
  decide

/-! ## The two laws for a command -/

/-- The part is in Running, or in Limp with no start to come. -/
def StaysUp (s : State) : Prop :=
  s.power = .running ∨ (s.power = .limp ∧ s.restart = none ∧ s.meter.keyOffTaken = false)

/-- What every command keeps: the ranges, and the amounts where the part stays up. -/
structure MetersKept (s t : State) : Prop where
  law : meterLaw s = true → meterLaw t = true
  amount : meterLaw s = true → s.power = t.power → StaysUp s → ∀ n, meterAmount s n ≤ meterAmount t n

theorem MetersRise.kept {s t : State} (h : MetersRise s t) : MetersKept s t := ⟨h.law, fun hs _ _ => h.amount hs⟩

theorem MetersKept.same {s t : State} (h : t.meter.meters = s.meter.meters) : MetersKept s t := (MetersRise.same h).kept

/-- An effect with meters in their ranges that does not leave the part up where it was. -/
theorem MetersKept.of_moved {s t : State} (hlaw : meterLaw t = true) (h : StaysUp s → s.power ≠ t.power) :
    MetersKept s t :=
  ⟨fun _ => hlaw, fun _ hpower hup => absurd hpower (h hup)⟩

theorem StaysUp.awake {s : State} (h : StaysUp s) : s.power = .running ∨ s.power = .limp := h.imp_right (·.1)

theorem StaysUp.ne {s : State} (h : StaysUp s) (p : PowerState) (hrun : p ≠ .running) (hlimp : p ≠ .limp) :
    s.power ≠ p := by
  rcases h.awake with h | h <;> rw [h]
  · exact hrun.symm
  · exact hlimp.symm

/-- A start does not end in Running, and in Limp `StaysUp` shuts it out. -/
theorem metersKept_started {s t : State} (hlaw : meterLaw t = true) (hrun : t.power ≠ .running)
    (hlimp : s.power = .limp → ¬ StaysUp s) : MetersKept s t := by
  refine .of_moved hlaw fun hup => ?_
  rcases hup.awake with h | h
  · exact h ▸ hrun.symm
  · exact absurd hup (hlimp h)

theorem beginStart_not_running (s : State) : (beginStart s).power ≠ .running := (restarted_beginStart s).2

theorem meterLaw_startIfKeyOn (s : State) (h : meterLaw s = true) : meterLaw (startIfKeyOn s) = true := by
  unfold startIfKeyOn
  split
  · exact meterLaw_beginStart s
  · exact h

/-! ## The supplies, the key and the starts (R181, R183, R185, R186) -/

theorem metersKept_batteryConnected (k : Bool) (n : BitVec 5) (s : State) :
    MetersKept s (batteryConnected k n s) := by
  unfold batteryConnected
  split
  next hoff =>
    exact ⟨fun hs => meterLaw_startIfKeyOn _ hs,
      fun _ _ hup => absurd (beq_iff_eq.1 hoff) (hup.ne _ (by decide) (by decide))⟩
  next => exact .same rfl

theorem metersKept_keepAliveLost (s : State) : MetersKept s (keepAliveLost s) := by
  unfold keepAliveLost
  split
  · exact .same rfl
  · exact .of_moved (meterLaw_enterKeepAlive s) fun hup => hup.ne .off (by decide) (by decide)

theorem metersKept_mainSupplyLost (s : State) : MetersKept s (mainSupplyLost s) := by
  unfold mainSupplyLost
  split
  · exact .of_moved (meterLaw_enterKeepAlive _) fun hup => hup.ne .keepAlive (by decide) (by decide)
  · exact .same rfl

theorem metersKept_keyTurnedOn (n : BitVec 5) (s : State) : MetersKept s (keyTurnedOn n s) := by
  unfold keyTurnedOn
  dsimp only
  split
  next hkeepAlive =>
    refine metersKept_started (meterLaw_beginStart _) (beginStart_not_running _) fun hlimp => ?_
    exact absurd ((beq_iff_eq.1 hkeepAlive).symm.trans hlimp) (by decide)
  next => exact .same rfl

/-- The key-off shutdown follows a key-off that has been taken. -/
theorem metersKept_shutdownCompleted (s : State) : MetersKept s (shutdownCompleted s) := by
  unfold shutdownCompleted
  split
  next hdone =>
    simp only [shutdownDone, Bool.and_eq_true] at hdone
    obtain ⟨⟨⟨⟨⟨⟨⟨-, htaken⟩, -⟩, -⟩, -⟩, -⟩, -⟩, -⟩ := hdone
    refine metersKept_started (meterLaw_startIfKeyOn _ (meterLaw_enterKeepAlive s))
      (restarted_startIfKeyOn _ (restarted_enterKeepAlive s)).2 fun hlimp hup => ?_
    rcases hup with hrunning | ⟨-, -, hnot⟩
    · exact absurd (hrunning.symm.trans hlimp) (by decide)
    · exact absurd (htaken.symm.trans hnot) (by decide)
  next => exact .same rfl

/-- A RESTART's start follows a RESTART that waits. -/
theorem metersKept_restartBegun (s : State) : MetersKept s (restartBegun s) := by
  unfold restartBegun
  split
  next hdue =>
    refine metersKept_started (meterLaw_beginStart s) (beginStart_not_running s) fun hlimp hup => ?_
    rcases hup with hrunning | ⟨-, hnone, -⟩
    · exact absurd (hrunning.symm.trans hlimp) (by decide)
    · simp [restartDue, hnone] at hdue
  next => exact .same rfl

theorem metersKept_listenEnded (s : State) : MetersKept s (listenEnded s) := by
  unfold listenEnded
  split
  · exact .same (endStart_meters false s)
  · exact .same rfl

/-! ## Every command -/

/-- A command keeps both laws. -/
def MetersKeptBy (s : State) (o : Host.Outcome State Fault Refusal) : Prop := ∀ t, o = .next t → MetersKept s t

theorem metersKeptBy_finish {s b t : State} (h : MetersKept s t) : MetersKeptBy s (finish b t) := by
  rintro _ ⟨⟩
  have hend : MetersRise t (settle b t) := .same (settle_meters b t)
  have hpower : (settle b t).power = t.power := (eventEnd_settle b t).supply.1
  exact ⟨hend.law ∘ h.law,
    fun hs hp hup n => (h.amount hs (hp.trans hpower) hup n).trans (hend.amount (h.law hs) n)⟩

theorem metersKeptBy_rise {s b t : State} (h : MetersRise s t) : MetersKeptBy s (finish b t) :=
  metersKeptBy_finish h.kept

theorem metersKeptBy_left {s b t : State} (h : t.meter = s.meter) : MetersKeptBy s (finish b t) :=
  metersKeptBy_rise (.left h)

/-- An expiry, or the end of a write, where it is due. -/
theorem metersKeptBy_ite {b : Prop} [Decidable b] {s t : State} (h : MetersRise s t) :
    MetersKeptBy s (finish s (if b then t else s)) := by
  refine metersKeptBy_rise ?_
  split
  · exact h
  · rfl

theorem metersKeptBy_request (code : Byte) (own : Owner) (h : own.RaisesMeters) (r : Request) (s : State) :
    MetersKeptBy s (finish s (takeRequest code (some own) r s)) :=
  metersKeptBy_rise (metersRise_takeRequest code _ (fun _ h' => Option.some.inj h' ▸ h) r s)

theorem metersKeptBy_frame (role : Role) (station : Option Nat) (f : Frame) (s : State) :
    MetersKeptBy s (finish s (takeFrame role station f s)) :=
  metersKeptBy_rise (metersRise_takeFrame role station f s)

/-- Every command keeps both laws. -/
theorem metersKeptBy_exec (c : Instr) (s : State) : MetersKeptBy s (exec c s) :=
  match c with
  | .read r => metersKeptBy_request _ _ raisesMeters_readOwner r s
  | .key r => metersKeptBy_request _ _ raisesMeters_keyOwner r s
  | .restart r => metersKeptBy_request _ _ raisesMeters_restartOwner r s
  | .clearFaults r => metersKeptBy_request _ _ raisesMeters_clearFaultsOwner r s
  | .writeImage r => metersKeptBy_request _ _ raisesMeters_writeImageOwner r s
  | .ackWarning r => metersKeptBy_request _ _ raisesMeters_ackWarningOwner r s
  | .teachLimit r => metersKeptBy_request _ _ raisesMeters_teachLimitOwner r s
  | .setLimit r => metersKeptBy_request _ _ raisesMeters_setLimitOwner r s
  | .enableLimit r => metersKeptBy_request _ _ raisesMeters_enableLimitOwner r s
  | .disableLimit r => metersKeptBy_request _ _ raisesMeters_disableLimitOwner r s
  | .release r => metersKeptBy_request _ _ raisesMeters_releaseOwner r s
  | .override r => metersKeptBy_request _ _ raisesMeters_overrideOwner r s
  | .resume r => metersKeptBy_request _ _ raisesMeters_resumeOwner r s
  | .benchmark r => metersKeptBy_request _ _ raisesMeters_benchmarkOwner r s
  | .setGrade r => metersKeptBy_request _ _ raisesMeters_setGradeOwner r s
  | .powerMode r => metersKeptBy_request _ _ raisesMeters_powerModeOwner r s
  | .tableRecall r => metersKeptBy_request _ _ raisesMeters_tableRecallOwner r s
  | .setClock r => metersKeptBy_request _ _ raisesMeters_setClockOwner r s
  | .setTrim r => metersKeptBy_request _ _ raisesMeters_setTrimOwner r s
  | .setMeter r => metersKeptBy_request _ _ raisesMeters_setMeterOwner r s
  | .serviceDone r => metersKeptBy_request _ _ raisesMeters_serviceDoneOwner r s
  | .ackReminder r => metersKeptBy_request _ _ raisesMeters_ackReminderOwner r s
  | .unknownRequestCode code r => metersKeptBy_rise (metersRise_takeByCode code r s)
  | .requestFragment station f => metersKeptBy_rise (metersRise_takeFragment station f s)
  | .poseInputArrival role f => metersKeptBy_frame role.role none f s
  | .engineRun f => metersKeptBy_frame .engineRun none f s
  | .engineFuel f => metersKeptBy_frame .engineFuel none f s
  | .coolant f => metersKeptBy_frame .coolant none f s
  | .pump f => metersKeptBy_frame .pump none f s
  | .pilot f => metersKeptBy_frame .pilot none f s
  | .valveCut f => metersKeptBy_frame .valveCut none f s
  | .extCut station f => metersKeptBy_frame .extCut (some station) f s
  | .timeSync f => metersKeptBy_frame .timeSync none f s
  | .topicClash topic => metersKeptBy_rise (.same (clashHeard_meters topic s))
  | .staleLimitPassed entry => metersKeptBy_rise (metersRise_staleEntry entry s)
  | .lostLimitPassed entry => metersKeptBy_rise (metersRise_lostEntry entry s)
  | .degradedTimerExpiry => metersKeptBy_ite (metersRise_degradedExpired s)
  | .confirmTimerExpiry => metersKeptBy_ite (.left (confirmExpired_meter s))
  | .overrideTimerExpiry sequence =>
    metersKeptBy_ite (.left (interventionEvent_meter (Work.overrideExpired sequence)
      (fun w => (change_meter ..).trans (remove_meter _ w)) s))
  | .stageTimerExpiry => metersKeptBy_ite (.left (stageExpired_meter s))
  | .waitTimerExpiry => metersKeptBy_ite (.left (waitExpired_meter s))
  | .shutdownTimerExpiry => metersKeptBy_ite (.left (shutdownExpired_meter s))
  | .resumeTimerExpiry => metersKeptBy_ite (.left (resumeExpired_meter s))
  | .grantExpiry _ | .lockoutExpiry _ => metersKeptBy_left rfl
  | .cutDemandPeriod | .guidancePeriod | .engineReqPeriod | .metersPeriod | .statusPeriod =>
    metersKeptBy_left (periodic_meter _ s)
  | .clockCount => metersKeptBy_rise (metersRise_clockCounted s)
  | .oscillatorStop => metersKeptBy_left (oscillatorStopped_meter s)
  | .oscillatorRestart => metersKeptBy_left (oscillatorRestarted_meter s)
  | .supplyDrop => metersKeptBy_rise (.same (supplyDropped_meters s))
  | .detectorRearm => metersKeptBy_left (detectorRearmed_meter s)
  | .storeWriteComplete => metersKeptBy_ite (.same (writeCompleted_meters s))
  | .frameTransmitted => metersKeptBy_left (frameSent_meter s)
  | .transmitAttemptFailed error => metersKeptBy_left (attemptFailed_meter error s)
  | .busOff => metersKeptBy_left (busWentOff_meter s)
  | .busRecovery => metersKeptBy_left (busRecovered_meter s)
  | .batteryConnect keyOn straps => metersKeptBy_finish (metersKept_batteryConnected keyOn straps s)
  | .keepAliveSupplyLoss => metersKeptBy_finish (metersKept_keepAliveLost s)
  | .mainSupplyLoss => metersKeptBy_finish (metersKept_mainSupplyLost s)
  | .keyOn straps => metersKeptBy_finish (metersKept_keyTurnedOn straps s)
  | .keyOff => metersKeptBy_rise (.same (keyTurnedOff_meters s))
  | .shutdownComplete => metersKeptBy_finish (metersKept_shutdownCompleted s)
  | .restartBegin => metersKeptBy_finish (metersKept_restartBegun s)
  | .listenEnd => metersKeptBy_finish (metersKept_listenEnded s)

theorem metersKept_step {s t : State} (h : step s = .next t) : MetersKept s t := by
  unfold step at h
  split at h
  next c rest _ =>
    obtain ⟨hlaw, hamount⟩ := metersKeptBy_exec c { s with pending := rest } t h
    exact ⟨hlaw, hamount⟩
  next =>
    cases h
    exact .same (congrArg MeterUnit.meters (tick_meter s))

/-- Settles O12: every command keeps the ranges, and time's passing leaves the meters alone. -/
theorem stepKeepsMeterLaw : Obligations.StepKeepsMeterLaw := fun _ _ hs hstep => (metersKept_step hstep).law hs

/-- Settles O13: no effect but a start's decreases a meter, and a start leaves Running, or Limp with a RESTART waiting
or a key-off taken. -/
theorem metersNeverDecrease : Obligations.MetersNeverDecrease :=
  fun _ _ hs hstep hpower hup => (metersKept_step hstep).amount hs hpower hup

end Sys2Proof.Machine
end

section
/-! PROOFS. What SET_METER and SERVICE_DONE set off: the checkpoint that a request waits on, the standings of an item,
what a change of them makes, and the record of a service (R131, R134, R140 to R142, R145, R149 to R152). -/

namespace Sys2Proof.Machine

/-! ## Standings (R140, R141) -/

theorem standingOf_none (e lead grace : Nat) : standingOf e 0 lead grace = .ok := rfl

theorem standingOf_eq (e interval lead grace : Nat) (h : 0 < interval) : standingOf e interval lead grace =
    if e < interval - lead then .ok else if e < interval then .dueSoon else if e ≤ interval + grace then .due
    else .overdue := by
  rw [standingOf, if_neg (by rw [beq_iff_eq]; omega)]

/-- The standing by the interval that the elapsed amount lies in. -/
theorem standingOf_cases (e interval lead grace : Nat) (h : 0 < interval) :
    (e < interval - lead → standingOf e interval lead grace = .ok)
      ∧ (interval - lead ≤ e → e < interval → standingOf e interval lead grace = .dueSoon)
      ∧ (interval ≤ e → e ≤ interval + grace → standingOf e interval lead grace = .due)
      ∧ (interval + grace < e → standingOf e interval lead grace = .overdue) := by
  rw [standingOf_eq e interval lead grace h]
  refine ⟨fun hok => if_pos hok, fun hlead hsoon => ?_, fun hreached hgrace => ?_, fun hover => ?_⟩
  · rw [if_neg (by omega), if_pos hsoon]
  · rw [if_neg (by omega), if_neg (by omega), if_pos hgrace]
  · rw [if_neg (by omega), if_neg (by omega), if_neg (by omega)]

theorem meterStandingOf_eq (item : ServiceItem) (m : Meters) (v last : MeterValue)
    (hv : item.config.basis.bind m.value = some v) (hlast : item.lastMeter = some last) :
    meterStandingOf item m = standingOf (v.amount - last.amount) (item.config.meterInterval * v.unit)
      (item.config.meterLead * v.unit) (item.config.meterGrace * v.unit) := by
  simp only [meterStandingOf, hv, hlast]

theorem meterStandingOf_none (item : ServiceItem) (m : Meters)
    (h : item.config.basis.bind m.value = none ∨ item.lastMeter = none) : meterStandingOf item m = .ok := by
  unfold meterStandingOf
  split
  next hv hlast => simp [hv, hlast] at h
  next => rfl

theorem dayStandingOf_some (item : ServiceItem) (today day : Date) (h : item.lastDate = some day) :
    dayStandingOf item today = standingOf (dayNumber today - dayNumber day) item.config.dayInterval
      item.config.dayLead item.config.dayGrace := by
  simp only [dayStandingOf, h]

theorem dayStandingOf_none (item : ServiceItem) (today : Date) (h : item.lastDate = none) :
    dayStandingOf item today = .ok := by
  simp only [dayStandingOf, h]

theorem derateWanted_iff (items : List (Option ServiceItem)) : derateWanted items = true ↔
    ∃ item, some item ∈ items ∧ item.config.cls = .critical ∧ item.state = .overdue := by
  unfold derateWanted
  rw [List.any_eq_true]
  constructor
  · rintro ⟨_ | item, hmem, hwants⟩
    · cases hwants
    · exact ⟨item, hmem, by simpa using hwants⟩
  · rintro ⟨item, hmem, hcritical, hoverdue⟩
    exact ⟨some item, hmem, by simp [hcritical, hoverdue]⟩

/-! ## A change of the standings (R142, R145, R149) -/

section
variable (i : Nat) (item : ServiceItem) (m d : Standing) (s : State)

/-- The item with new standings. -/
def ServiceItem.standing (item : ServiceItem) (m d : Standing) : ServiceItem :=
  { item with meterStanding := m, dayStanding := d }

/-- A risen item, announced or owing its notice. -/
def risenItem (told : Bool) : ServiceItem :=
  { item.standing m d with acknowledged := false, owed := if told then none else some .rise }

/-- An item whose state has fallen: back at Ok it keeps neither an acknowledgement nor an owed notice. -/
def fallenItem (new : ServiceItem) : ServiceItem :=
  if new.state = .ok then { new with acknowledged := false, owed := none } else new

/-- A risen item's notice, if the event ring takes it. -/
def toldRise : Option Biu :=
  s.bus.queueNotice (serviceNoticeData i { item.standing m d with acknowledged := false } .rise) none

/-- The Service Unit with one item changed and the derate formed. -/
def itemChanged (new : ServiceItem) : ServiceUnit :=
  { s.service with items := s.service.items.set i (some new),
                   derate := derateWanted (s.service.items.set i (some new)) }

/-- The state with the item's new standings, before a service-state write is wanted. -/
def restood : State :=
  let new := item.standing m d
  let told := toldRise i item m d s
  if new.state = item.state then setItem i new s
  else if item.state.num < new.state.num then
    { s with bus := told.getD s.bus, service := itemChanged i s (risenItem item m d told.isSome) }
  else { s with service := itemChanged i s (fallenItem new) }

theorem restood_level (h : (item.standing m d).state = item.state) :
    restood i item m d s = setItem i (item.standing m d) s :=
  if_pos h

theorem restood_rise (hmoved : (item.standing m d).state ≠ item.state)
    (hrise : item.state.num < (item.standing m d).state.num) :
    let told := toldRise i item m d s
    restood i item m d s
      = { s with bus := told.getD s.bus, service := itemChanged i s (risenItem item m d told.isSome) } :=
  (if_neg hmoved).trans (if_pos hrise)

theorem restood_fall (hmoved : (item.standing m d).state ≠ item.state)
    (hfall : ¬ item.state.num < (item.standing m d).state.num) :
    restood i item m d s = { s with service := itemChanged i s (fallenItem (item.standing m d)) } :=
  (if_neg hmoved).trans (if_neg hfall)

theorem formDerate_setItem (new : ServiceItem) :
    formDerate (setItem i new s) = { s with service := itemChanged i s new } := rfl

/-- A risen item is announced, or owes its notice. -/
theorem formDerate_queueServiceNotice (new : ServiceItem) (kind : ServiceNoticeKind) :
    formDerate (queueServiceNotice i new kind (setItem i new s)) =
      let told := s.bus.queueNotice (serviceNoticeData i new kind) none
      { s with
        bus := told.getD s.bus
        service := itemChanged i s { new with owed := if told.isSome then none else some kind } } := by
  unfold queueServiceNotice
  rw [show (setItem i new s).bus = s.bus from rfl]
  cases s.bus.queueNotice (serviceNoticeData i new kind) none <;>
    simp [formDerate, setItem, setService, itemChanged, List.set_set]

theorem restand_same (hm : m = item.meterStanding) (hd : d = item.dayStanding) : restand i item m d s = s := by
  simp [restand, hm, hd]

/-- A change of the standings, then the want of a service-state write. -/
theorem restand_changed (h : ¬ (m = item.meterStanding ∧ d = item.dayStanding)) :
    restand i item m d s = wantServiceJob (restood i item m d s) := by
  unfold restand
  dsimp only
  rw [if_neg (by simpa using h)]
  simp only [beq_iff_eq, formDerate_queueServiceNotice]
  split
  next hlevel => rw [restood_level i item m d s hlevel]; rfl
  next hmoved =>
    split
    next hrise => rw [restood_rise i item m d s hmoved hrise]; rfl
    next hfall =>
      rw [restood_fall i item m d s hmoved hfall, fallenItem]
      by_cases hok : (item.standing m d).state = .ok
      · rw [if_pos hok]
        exact if_pos hok
      · rw [if_neg hok]
        exact if_neg hok

/-- The change leaves the rest of the state, and the mark of a wanted write. -/
theorem restood_frame : { restood i item m d s with bus := s.bus, service := s.service } = s
    ∧ (restood i item m d s).service.writePending = s.service.writePending := by
  unfold restood
  dsimp only
  split
  · exact ⟨rfl, rfl⟩
  · split <;> exact ⟨rfl, rfl⟩

theorem restood_store : (restood i item m d s).store = s.store := by
  have hstore := congrArg State.store (restood_frame i item m d s).1
  exact hstore

end

/-- A want of a service-state write leaves the items, the derate and the notices. -/
theorem wantServiceJob_left (s : State) : (wantServiceJob s).service.items = s.service.items
    ∧ (wantServiceJob s).service.derate = s.service.derate ∧ (wantServiceJob s).bus = s.bus
    ∧ { wantServiceJob s with service := s.service, store := s.store } = s := by
  rw [wantServiceJob_eq]
  split
  · exact ⟨rfl, rfl, rfl, rfl⟩
  · split <;> exact ⟨rfl, rfl, rfl, rfl⟩

/-- Where a wanted service-state write goes. -/
theorem wantServiceJob_store (s : State) :
    if s.store.queue.any Job.isService then
      (wantServiceJob s).store = s.store ∧ (wantServiceJob s).service.writePending = s.service.writePending
    else if s.store.queue.length < 6 then
      (wantServiceJob s).store = { s.store with queue := s.store.queue ++ [.serviceState []] }
        ∧ (wantServiceJob s).service.writePending = false
    else (wantServiceJob s).store = s.store ∧ (wantServiceJob s).service.writePending = true := by
  rw [wantServiceJob_eq]
  repeat' split
  all_goals exact ⟨rfl, rfl⟩

/-! ## The record of a service (R150 to R152) -/

/-- The queue after a request has joined the queued job of a kind, or queued one. -/
def joinedQueue (kind : Job → Bool) (fresh : List Ticket → Job) (t : Ticket) (q : List Job) : List Job :=
  if q.any kind then q.map (fun j => if kind j then j.join t else j) else q ++ [fresh [t]]

theorem carry_eq (kind : Job → Bool) (fresh : List Ticket → Job) (t : Ticket) (s : State) :
    carry kind fresh t s = setQueue (joinedQueue kind fresh t s.store.queue) s := by
  unfold carry joinedQueue jobQueued
  split <;> rfl

/-- An item as a service leaves it. -/
def servicedItem (item : ServiceItem) (s : State) : ServiceItem := { item with
  lastMeter := item.config.basis.bind s.meter.meters.value
  lastDate := if s.time.unsetCause = none then some s.time.clock.day else none
  meterStanding := .ok, dayStanding := .ok, acknowledged := false, owed := none }

theorem recordService_eq (i : Nat) (item : ServiceItem) (t : Ticket) (s : State) :
    recordService i item t s =
      let done := servicedItem item s
      let history := s.service.history
        ++ [⟨i, item.config.code, item.config.basis, done.lastMeter, done.lastDate, t.station⟩]
      { s with
        service := { itemChanged i s done with
          history := history.drop (history.length - 32), writePending := false }
        store := { s.store with
          queue := joinedQueue Job.isHistory .history t
            (joinedQueue Job.isService .serviceState t s.store.queue) } } := by
  simp only [recordService, carry_eq, datedNow_eq, formDerate_setItem]
  rfl

/-! ## The checkpoint that a SET_METER waits on (R131, R134) -/

/-- The request among the waiters, marked where it waits on the pending checkpoint. -/
def withWaiter (t : Ticket) (s : State) : State :=
  setMeterUnit { s.meter with waiters := s.meter.waiters ++ [⟨t, s.meter.job != .none⟩] } s

theorem wantCheckpointFor_eq (t : Ticket) (s : State) : wantCheckpointFor t s = wantCheckpoint (withWaiter t s) := rfl

theorem wantCheckpointFor_exhausted (t : Ticket) (s : State) (h : 4294967295 ≤ s.meter.sequence) :
    wantCheckpointFor t s = exhaustCheckpoints (withWaiter t s) :=
  wantCheckpoint_exhausted (withWaiter t s) h

theorem wantCheckpointFor_free (t : Ticket) (s : State) (h : s.meter.sequence < 4294967295)
    (hjob : s.meter.job = .none) (hroom : s.store.queue.length < 6) :
    wantCheckpointFor t s = { s with
      store := { s.store with queue := s.store.queue ++ [.checkpoint] }
      meter := { s.meter with
        sequence := s.meter.sequence + 1, job := .queued, waiters := s.meter.waiters ++ [⟨t, false⟩]
        snapshot := some ⟨s.meter.sequence + 1, s.meter.meters, s.economy.lifetime⟩ } } := by
  rw [wantCheckpointFor_eq, wantCheckpoint_free (withWaiter t s) h hjob hroom, withWaiter, hjob]
  rfl

theorem wantCheckpointFor_waits (t : Ticket) (s : State) (h : s.meter.sequence < 4294967295)
    (hjob : s.meter.job ≠ .none) :
    wantCheckpointFor t s = setMeterUnit { s.meter with
      waiters := s.meter.waiters ++ [⟨t, true⟩]
      pending := if s.meter.pending = .setUrgent then .setUrgent else .set } s := by
  rw [wantCheckpointFor_eq, wantCheckpoint_waits (withWaiter t s) h hjob, withWaiter, bne_iff_ne.2 hjob]
  rfl

end Sys2Proof.Machine
end

section
/-! PROOFS. SET_METER and SERVICE_DONE, their refusals, and the statement put together (R127, R131, R134, R150,
R152). -/

namespace Sys2Proof.Machine

/-! ## The owners' answers past the checks of Limp, Hold and level (R127, R150) -/

section
variable (t : Ticket) (a : List Byte) (s : State) (hlimp : limpOrHold s = false)
  (hlevel : holds s t.station .technician = true)
include hlimp hlevel

theorem setMeterOwner_unknown (h : s.meter.meters.value (argNat a 0) = none) :
    setMeterOwner t a s = .reply .unknownRecord [] (renewGrant t.station s) := by
  unfold setMeterOwner
  dsimp only
  rw [if_neg (by simp [hlimp]), checkLevel_passed _ _ _ _ hlevel (by decide)]
  simp only [renewGrant_meter, h]
  rfl

theorem setMeterOwner_badValue (h : s.meter.meters.value (argNat a 0) ≠ none) (hargs : meterArgs a = none) :
    setMeterOwner t a s = .reply .badArgument [] (renewGrant t.station s) := by
  obtain ⟨present, hpresent⟩ := Option.ne_none_iff_exists'.1 h
  unfold setMeterOwner
  dsimp only
  rw [if_neg (by simp [hlimp]), checkLevel_passed _ _ _ _ hlevel (by decide)]
  simp only [renewGrant_meter, hpresent, hargs]
  rfl

/-- A value in range of a meter that exists. -/
theorem setMeterOwner_eq (present v : MeterValue) (hpresent : s.meter.meters.value (argNat a 0) = some present)
    (hargs : meterArgs a = some v) :
    setMeterOwner t a s =
      if v.amount < present.amount then .reply .badArgument [] (renewGrant t.station s)
      else if v.amount = present.amount then
        .reply .done (setMeterReply s.meter.meters (argNat a 0)) (renewGrant t.station s)
      else if (s.meter.job = .none ∧ 6 ≤ s.store.queue.length) ∧ s.meter.sequence < 4294967295 then
        .reply .busy [] (renewGrant t.station s)
      else raiseMeter t (argNat a 0) v (renewGrant t.station s) := by
  have hbusy : (s.meter.job == .none && !placeFree s && !checkpointExhausted s) = true
      ↔ (s.meter.job = .none ∧ 6 ≤ s.store.queue.length) ∧ s.meter.sequence < 4294967295 := by
    have hexhausted := checkpointExhausted_iff s
    simp only [Bool.and_eq_true, beq_iff_eq, Bool.not_eq_true', ← Bool.not_eq_true, placeFree, decide_eq_true_eq,
      not_lt, hexhausted, not_le]
  unfold setMeterOwner
  dsimp only
  rw [if_neg (by simp [hlimp]), checkLevel_passed _ _ _ _ hlevel (by decide)]
  simp only [renewGrant_meter, hpresent, hargs, beq_iff_eq]
  refine if_congr Iff.rfl rfl (if_congr Iff.rfl rfl (if_congr hbusy rfl rfl))

theorem serviceDoneOwner_unknown (h : ∀ item, s.service.items[argNat a 0]? ≠ some (some item)) :
    serviceDoneOwner t a s = .reply .unknownRecord [] (renewGrant t.station s) := by
  unfold serviceDoneOwner
  dsimp only
  rw [if_neg (by simp [hlimp]), checkLevel_passed _ _ _ _ hlevel (by decide)]
  split
  next item hitem => exact absurd hitem (h item)
  next => rfl

/-- A service of an in-use item. -/
theorem serviceDoneOwner_eq (item : ServiceItem) (hitem : s.service.items[argNat a 0]? = some (some item)) :
    serviceDoneOwner t a s =
      if argU16 a 1 ≠ item.config.code then .reply .badArgument [] (renewGrant t.station s)
      else if 6 - s.store.queue.length < serviceJobsNeeded s then .reply .busy [] (renewGrant t.station s)
      else .flight (recordService (argNat a 0) item { t with index := argNat a 0 } (renewGrant t.station s)) := by
  unfold serviceDoneOwner
  dsimp only
  rw [if_neg (by simp [hlimp]), checkLevel_passed _ _ _ _ hlevel (by decide)]
  simp only [show (renewGrant t.station s).service = s.service from rfl, hitem, bne_iff_ne]
  rfl

end

/-! ## The change that SET_METER makes (R127, R131, R134) -/

/-- The state with a meter at its new value. -/
def meterChanged (n : Nat) (v : MeterValue) (s : State) : State :=
  setMeterUnit { s.meter with meters := s.meter.meters.set n v } s

theorem raiseMeter_exhausted (t : Ticket) (n : Nat) (v : MeterValue) (s : State)
    (h : 4294967295 ≤ s.meter.sequence) :
    raiseMeter t n v s = .reply .done (setMeterReply (meterChanged n v s).meter.meters n)
      (announceMeter n (exhaustCheckpoints (meterChanged n v s))) :=
  if_pos ((checkpointExhausted_iff (meterChanged n v s)).2 h)

theorem raiseMeter_waits (t : Ticket) (n : Nat) (v : MeterValue) (s : State) (h : s.meter.sequence < 4294967295) :
    raiseMeter t n v s
      = .flight (announceMeter n (wantCheckpointFor { t with index := n } (meterChanged n v s))) :=
  if_neg (not_exhausted (s := meterChanged n v s) h)

/-! ## The commands -/

section
variable (r : Request) (s : State) (hlimp : limpOrHold s = false)
  (hlevel : holds s r.station .technician = true)

/-- A taken SET_METER is answered as its owner answers. -/
theorem exec_setMeter (ht : taken 20#8 r s = true) : exec (.setMeter r) s = .next (settle s
    (answered (ticketOf 20#8 r s) (setMeterOwner (ticketOf 20#8 r s) r.args (noted r s)))) :=
  congrArg (fun u => Host.Outcome.next (settle s u)) (takeRequest_taken 20#8 setMeterOwner r s ht)

/-- A taken SERVICE_DONE is answered as its owner answers. -/
theorem exec_serviceDone (ht : taken 21#8 r s = true) : exec (.serviceDone r) s = .next (settle s
    (answered (ticketOf 21#8 r s) (serviceDoneOwner (ticketOf 21#8 r s) r.args (noted r s)))) :=
  congrArg (fun u => Host.Outcome.next (settle s u)) (takeRequest_taken 21#8 serviceDoneOwner r s ht)

theorem leveled_meter : (leveled r s).meter = s.meter := noted_meter r s

theorem meterChanged_leveled (n : Nat) (v : MeterValue) : meterChanged n v (leveled r s)
    = setMeterUnit { s.meter with meters := s.meter.meters.set n v } (leveled r s) := by
  rw [meterChanged, leveled_meter]

include hlimp hlevel

theorem exec_setMeter_unknown (ht : taken 20#8 r s = true) (h : s.meter.meters.value (argNat r.args 0) = none) :
    exec (.setMeter r) s = repliedWith 20#8 .unknownRecord [] r s (leveled r s) := by
  rw [exec_setMeter r s ht, setMeterOwner_unknown _ _ _ (by simpa using hlimp)
    ((noted_holds r s _ _).trans hlevel) (by rwa [noted_meter])]
  rfl

theorem exec_setMeter_badValue (ht : taken 20#8 r s = true) (h : s.meter.meters.value (argNat r.args 0) ≠ none)
    (hargs : meterArgs r.args = none) :
    exec (.setMeter r) s = repliedWith 20#8 .badArgument [] r s (leveled r s) := by
  rw [exec_setMeter r s ht, setMeterOwner_badValue _ _ _ (by simpa using hlimp)
    ((noted_holds r s _ _).trans hlevel) (by rwa [noted_meter]) hargs]
  rfl

/-- A value in range of a meter that exists: refused, equal, without a place, or a change. -/
theorem exec_setMeter_value (ht : taken 20#8 r s = true) (present v : MeterValue)
    (hpresent : s.meter.meters.value (argNat r.args 0) = some present) (hargs : meterArgs r.args = some v) :
    exec (.setMeter r) s =
      if v.amount < present.amount then repliedWith 20#8 .badArgument [] r s (leveled r s)
      else if v.amount = present.amount then
        doneWith 20#8 (setMeterReply s.meter.meters (argNat r.args 0)) r s (leveled r s)
      else if (s.meter.job = .none ∧ 6 ≤ s.store.queue.length) ∧ s.meter.sequence < 4294967295 then
        repliedWith 20#8 .busy [] r s (leveled r s)
      else .next (settle s (answered (ticketOf 20#8 r s)
        (raiseMeter (ticketOf 20#8 r s) (argNat r.args 0) v (leveled r s)))) := by
  rw [exec_setMeter r s ht, setMeterOwner_eq _ _ _ (by simpa using hlimp) ((noted_holds r s _ _).trans hlevel)
    present v (by rwa [noted_meter]) hargs, noted_meter, noted_store]
  repeat' split
  all_goals rfl

theorem exec_serviceDone_unknown (ht : taken 21#8 r s = true)
    (h : ∀ item, s.service.items[argNat r.args 0]? ≠ some (some item)) :
    exec (.serviceDone r) s = repliedWith 21#8 .unknownRecord [] r s (leveled r s) := by
  rw [exec_serviceDone r s ht, serviceDoneOwner_unknown _ _ _ (by simpa using hlimp)
    ((noted_holds r s _ _).trans hlevel) (by rwa [noted_service])]
  rfl

/-- A service of an in-use item: refused, without its places, or recorded. -/
theorem exec_serviceDone_item (ht : taken 21#8 r s = true) (item : ServiceItem)
    (hitem : s.service.items[argNat r.args 0]? = some (some item)) :
    exec (.serviceDone r) s =
      if argU16 r.args 1 ≠ item.config.code then repliedWith 21#8 .badArgument [] r s (leveled r s)
      else if 6 - s.store.queue.length < serviceJobsNeeded s then repliedWith 21#8 .busy [] r s (leveled r s)
      else inFlightWith r s (recordService (argNat r.args 0) item
        { ticketOf 21#8 r s with index := argNat r.args 0 } (leveled r s)) := by
  have hneeded : serviceJobsNeeded (noted r s) = serviceJobsNeeded s := by
    unfold serviceJobsNeeded jobQueued
    rw [noted_store]
  rw [exec_serviceDone r s ht, serviceDoneOwner_eq _ _ _ (by simpa using hlimp) ((noted_holds r s _ _).trans hlevel)
    item (by rwa [noted_service]), noted_store, hneeded]
  repeat' split
  all_goals rfl

end

theorem refusedBelow_meterAndService :
    RefusedBelow .technician [(20#8, .setMeter), (21#8, .serviceDone)] := by
  refine refusedBelow_of_owners _ _ fun x hx => ?_
  simp only [List.mem_cons, List.not_mem_nil, or_false] at hx
  rcases hx with rfl | rfl
  · refine ⟨setMeterOwner, fun _ _ => rfl, fun t a s hlimp _ hlevel => ?_⟩
    simp [setMeterOwner, hlimp.resolve_left (by decide), checkLevel_refused _ _ _ _ hlevel]
  · refine ⟨serviceDoneOwner, fun _ _ => rfl, fun t a s hlimp _ hlevel => ?_⟩
    simp [serviceDoneOwner, hlimp.resolve_left (by decide), checkLevel_refused _ _ _ _ hlevel]

/-- What a change of the standings leaves of the items, the notices and the derate, and where its write goes. -/
theorem restand_leaves (i : Nat) (item : ServiceItem) (m d : Standing) (s : State)
    (h : ¬ (m = item.meterStanding ∧ d = item.dayStanding)) :
    let t := restand i item m d s
    let u := restood i item m d s
    t.service.items = u.service.items ∧ t.service.derate = u.service.derate ∧ t.bus = u.bus
      ∧ (if s.store.queue.any Job.isService then
          t.store = s.store ∧ t.service.writePending = s.service.writePending
        else if s.store.queue.length < 6 then
          t.store = { s.store with queue := s.store.queue ++ [.serviceState []] } ∧ t.service.writePending = false
        else t.store = s.store ∧ t.service.writePending = true)
      ∧ { t with bus := s.bus, service := s.service, store := s.store } = s := by
  intro t u
  obtain ⟨hitems, hderate, hbus, hrest⟩ := wantServiceJob_left u
  obtain ⟨hframe, hpending⟩ := restood_frame i item m d s
  have hstore := wantServiceJob_store u
  rw [restood_store i item m d s, hpending] at hstore
  rw [show t = wantServiceJob u from restand_changed i item m d s h]
  refine ⟨hitems, hderate, hbus, hstore, ?_⟩
  calc _ = { ({ wantServiceJob u with service := u.service, store := u.store } : State) with
          bus := s.bus, service := s.service, store := s.store } := rfl
    _ = { u with bus := s.bus, service := s.service, store := s.store } := by rw [hrest]
    _ = { u with bus := s.bus, service := s.service } := by rw [← restood_store i item m d s]
    _ = s := hframe

/-- Settles O42: the two owners' answers past the level check, then the record of a service, the standings and their
changes, the checkpoint waited on, and the requests' arguments. -/
theorem meterAndServiceRequests : Obligations.MeterAndServiceRequests := by
  refine ⟨fun r s hlimp hlevel => ?_, refusedBelow_meterAndService, recordService_eq, fun i item m d s => ?_,
    derateWanted_iff, fun e interval lead grace => ⟨fun h => ?_, standingOf_cases e interval lead grace⟩,
    fun item meters today => ⟨?_, ?_, meterStandingOf_none item meters, dayStandingOf_some item today,
      dayStandingOf_none item today⟩,
    fun t s => ⟨wantCheckpointFor_exhausted t s, wantCheckpointFor_free t s, wantCheckpointFor_waits t s, rfl⟩,
    announceMeter_eq, meterArgs_eq, fun s => rfl⟩
  · intro n u
    refine ⟨fun present v ht hpresent hargs => ?_, exec_setMeter_unknown r s hlimp hlevel,
      exec_setMeter_badValue r s hlimp hlevel, exec_serviceDone_unknown r s hlimp hlevel,
      fun item ht hitem => ?_, fun item ht hitem hcode hplaces => ?_⟩
    · intro changed
      have hchanged : meterChanged n v u = changed := meterChanged_leveled r s n v
      have hsequence : u.meter.sequence = s.meter.sequence := congrArg MeterUnit.sequence (leveled_meter r s)
      rw [exec_setMeter_value r s hlimp hlevel ht present v hpresent hargs]
      refine ⟨fun hraises hcounts hplace => ?_, fun hraises hexhausted => ?_, fun hequal => ?_, fun hlower => ?_,
        fun hraises hcounts hjob hfull => ?_⟩
      · have hfree : ¬ ((s.meter.job = .none ∧ 6 ≤ s.store.queue.length) ∧ s.meter.sequence < 4294967295) :=
          fun ⟨⟨hnone, hfull⟩, _⟩ => hplace.elim (· hnone) (by omega)
        rw [if_neg (by omega), if_neg (by omega), if_neg hfree,
          raiseMeter_waits _ _ _ _ (hsequence.trans_lt hcounts), hchanged]
        rfl
      · rw [if_neg (by omega), if_neg (by omega), if_neg (by omega),
          raiseMeter_exhausted _ _ _ _ (hexhausted.trans hsequence.ge), hchanged]
        rfl
      · rw [if_neg (by omega), if_pos hequal.symm]
      · rw [if_pos hlower]
      · rw [if_neg (by omega), if_neg (by omega), if_pos ⟨⟨hjob, hfull⟩, hcounts⟩]
    · rw [exec_serviceDone_item r s hlimp hlevel ht item hitem]
      exact ⟨fun hcode => if_pos hcode, fun hcode hplaces => (if_neg (not_not_intro hcode)).trans (if_pos hplaces)⟩
    · rw [exec_serviceDone_item r s hlimp hlevel ht item hitem, if_neg (not_not_intro hcode),
        if_neg (Nat.not_lt.2 hplaces)]
  · intro new t
    refine ⟨rfl, restand_same i item m d s, fun hchanged => ?_⟩
    obtain ⟨hitems, hderate, hbus, hstore, hframe⟩ := restand_leaves i item m d s hchanged
    refine ⟨fun hrise => ?_, fun hfall => ?_, fun hlevel => ?_, hstore, hframe⟩
    · have hmoved : new.state ≠ item.state := fun h => by rw [h] at hrise; omega
      rw [restood_rise i item m d s hmoved hrise] at hitems hderate hbus
      exact ⟨hitems, hbus, hderate.trans (congrArg derateWanted hitems.symm)⟩
    · have hmoved : new.state ≠ item.state := fun h => by rw [h] at hfall; omega
      rw [restood_fall i item m d s hmoved (Nat.lt_asymm hfall)] at hitems hderate hbus
      exact ⟨hbus, hitems, hderate.trans (congrArg derateWanted hitems.symm)⟩
    · rw [restood_level i item m d s hlevel] at hitems hderate hbus
      exact ⟨hitems, hbus, hderate⟩
  · rw [h]
    exact standingOf_none e lead grace
  · intro h sec h' sec' hv hlast
    exact meterStandingOf_eq item meters _ _ hv hlast
  · intro n n' hv hlast
    refine (meterStandingOf_eq item meters _ _ hv hlast).trans ?_
    simp only [MeterValue.unit, MeterValue.amount, Nat.mul_one]

end Sys2Proof.Machine
end

section
/-! PROOFS. What a subscription entry makes of a frame's counter, frames that are not accepted and timers that are not
due (R157, R158, R194; log 3). -/

namespace Sys2Proof.Machine

/-! ## Judging (R157, R158) -/

section
variable (e : SubEntry) (c : Counter) (p : Payload) (now : Nat)

/-- Before the first frame, and while Lost, every counter is accepted. -/
theorem judge_unheard (h : e.state = .never ∨ e.state = .lost) :
    e.judge c p now = some (e.took c p now 1 e.gaps .recovering) := by
  unfold SubEntry.judge
  rcases h with h | h <;> rw [h]

/-- An entry that is heard judges a frame by its last counter. -/
theorem judge_heard (hnever : e.state ≠ .never) (hlost : e.state ≠ .lost) :
    e.judge c p now = if e.counter = some c then none
      else if e.counter = some (c - 1) then
        some (e.took c p now (satAdd 255 e.run 1) e.gaps (afterInSequence e.state (satAdd 255 e.run 1)))
      else some (e.took c p now 1 (satAdd 255 e.gaps 1) (afterGap e.state)) := by
  have hnext : e.counter.map (· + 1) = some c ↔ e.counter = some (c - 1) := by
    cases e.counter <;> simp [eq_sub_iff_add_eq]
  unfold SubEntry.judge
  split
  next h => exact absurd h hnever
  next h => exact absurd h hlost
  next => simp only [beq_iff_eq, hnext]

/-- A gap leaves an entry that is heard its state. -/
theorem afterGap_heard {st : EntryState} (hnever : st ≠ .never) (hlost : st ≠ .lost) : afterGap st = st := by
  cases st with
  | never => exact absurd rfl hnever
  | lost => exact absurd rfl hlost
  | recovering | fresh | stale => rfl

theorem afterInSequence_recovering (run : Nat) :
    afterInSequence .recovering run = if 3 ≤ run then .fresh else .recovering := rfl

theorem afterInSequence_heard {st : EntryState} (run : Nat) (h : st ≠ .recovering) :
    afterInSequence st run = .fresh := by
  cases st with
  | recovering => exact absurd rfl h
  | never | fresh | stale | lost => rfl

end

/-- No counter follows itself. -/
theorem counter_ne_pred (c : Counter) : c ≠ c - 1 := by bv_omega

/-- Settles O30: an entry that is not heard accepts every frame; else a repeat, the next counter, or a gap. -/
theorem frameGrading : Obligations.FrameGrading := by
  refine fun e c p now => ⟨judge_unheard e c p now, fun hnever hlost hrepeat => ?_, fun hnever hlost hnext => ?_,
    fun hnever hlost hrepeat hnext => ?_⟩
  · rw [judge_heard e c p now hnever hlost, if_pos hrepeat]
  · have hnew : e.counter ≠ some c := fun h => counter_ne_pred c (Option.some.inj (h.symm.trans hnext))
    refine ⟨_, (judge_heard e c p now hnever hlost).trans ((if_neg hnew).trans (if_pos hnext)), rfl, fun h => ?_,
      afterInSequence_heard _⟩
    exact (congrArg (afterInSequence · _) h).trans (afterInSequence_recovering _)
  · rw [judge_heard e c p now hnever hlost, if_neg hrepeat, if_neg hnext, afterGap_heard hnever hlost]
    rfl

/-! ## Frames that are not accepted, and timers that are not due (log 3) -/

theorem takeFrame_unaccepted (role : Role) (station : Option Nat) (f : Frame) (s : State)
    (h : accepted role station f s = none) : takeFrame role station f s = s := by
  unfold takeFrame
  split
  · rfl
  next htakes =>
    unfold accepted at h
    rw [if_pos (by simpa [and_comm] using htakes)] at h
    split
    next hi he hp =>
      rw [hi, he, hp, Option.map_eq_none_iff] at h
      rw [h]
    · rfl

theorem whenDue_idle (t : Option Nat) (f : State → State) (s : State) (h : due s.now t = false) :
    whenDue t f s = s :=
  if_neg (by simp [h])

theorem shutdownCompleted_idle (s : State) (h : shutdownDone s = false) : shutdownCompleted s = s :=
  if_neg (by simp [h])

theorem restartBegun_idle (s : State) (h : restartDue s = false) : restartBegun s = s := if_neg (by simp [h])

theorem throughStartUp_idle {starts : Bool} (s : State) (h : starts = false) : throughStartUp starts s = s :=
  if_neg (by simp [h])

/-- A command whose effect is none ends its event. -/
theorem finish_idle {s u : State} (h : u = s) : finish s u = .next (settle s s) := congrArg (finish s) h

/-- Settles O44: a frame that is not accepted, a timer that is not due, and each condition that does not hold. -/
theorem commandsWithoutEffect : Obligations.CommandsWithoutEffect := by
  refine ⟨fun f s => ?_, fun s => ?_⟩
  · have hframe (role : Role) (station : Option Nat) (h : accepted role station f s = none) :
        finish s (takeFrame role station f s) = .next (settle s s) :=
      finish_idle (takeFrame_unaccepted role station f s h)
    exact ⟨fun p => hframe p.role none, hframe _ none, hframe _ none, hframe _ none, hframe _ none, hframe _ none,
      hframe _ none, fun st => hframe _ (some st), hframe _ none⟩
  · have htimer (t : Option Nat) (f : State → State) (h : due s.now t = false) :
        finish s (whenDue t f s) = .next (settle s s) :=
      finish_idle (whenDue_idle t f s h)
    refine ⟨htimer _ _, htimer _ _, fun n hnone => ?_, htimer _ _, htimer _ _, htimer _ _, htimer _ _,
      fun hwrite => ?_, fun hrestart => ?_, fun hdone => ?_⟩
    · refine finish_idle (if_neg ?_)
      simpa [List.all_eq_true, imp_iff_not_or] using hnone
    · exact finish_idle (if_neg (by simp [hwrite]))
    · show finish (throughStartUp (restartDue s) s) (restartBegun s) = _
      rw [throughStartUp_idle s hrestart, restartBegun_idle s hrestart]
      rfl
    · show finish (throughStartUp (shutdownDone s) s) (shutdownCompleted s) = _
      rw [throughStartUp_idle s hdone, shutdownCompleted_idle s hdone]
      rfl

end Sys2Proof.Machine
end

section
/-! PROOFS. The reply to a request, unknown codes, and the assembly of a series (R162, R164, R167, R196 to R198; log 18,
31, 41). -/

namespace Sys2Proof.Machine

/-! ## Replies (R162, R164, R167, R198) -/

theorem queueReply_room (b : Biu) (d : List Byte) (h : b.ring.length < 8) :
    b.queueReply d = { b with ring := b.ring ++ [⟨b.nextId, true, d, none, 0⟩], nextId := b.nextId + 1 } :=
  if_pos h

theorem queueReply_full (b : Biu) (d : List Byte) (h : 8 ≤ b.ring.length) :
    b.queueReply d = { b with repliesDropped := satAdd 255 b.repliesDropped 1 } :=
  if_neg (Nat.not_lt.2 h)

/-- The reply's data go to the ring, and to the entry whose last counter is the request's. -/
theorem sendReply_eq (t : Ticket) (res : Result) (data : List Byte) (s : State) :
    sendReply t res data s = { s with
      bus := s.bus.queueReply (replyData t res data)
      topics := mapWhere (servesStation t.station)
        (fun e => if e.counter = some t.counter then { e with stored := some (replyData t res data) } else e)
        s.topics } := by
  simp only [sendReply, modifyRequest, beq_iff_eq]

theorem replyData_eq (t : Ticket) (res : Result) (data : List Byte) :
    replyData t res data = [byte t.station, t.code, t.tag, byte res.num] ++ if res = .done then data else [] := by
  simp only [replyData, beq_iff_eq]

theorem finishRequest_eq (t : Ticket) (res : Result) (data : List Byte) (s : State) :
    finishRequest t res data s = { sendReply t res data s with
      topics := (sendReply t res data s).topics.map fun e =>
        if servesStation t.station e = true ∧ e.inFlight = some t.counter then { e with inFlight := none }
        else e } := by
  simp only [finishRequest, modifyRequest, mapWhere, beq_iff_eq, ite_and]

/-- Settles O18: the reply's data in the ring or dropped, the entry that stores them, and the mark that is cleared. -/
theorem replySent : Obligations.ReplySent := by
  intro t res data s d u
  have hsent : u = { s with
      bus := s.bus.queueReply d
      topics := mapWhere (servesStation t.station)
        (fun e => if e.counter = some t.counter then { e with stored := some d } else e) s.topics } := by
    simp only [u, d, sendReply_eq, replyData_eq]
  refine ⟨?_, ?_, fun hroom => ?_, fun hfull => ?_, finishRequest_eq t res data s⟩
  · rw [hsent]
  · rw [hsent]
  · rw [hsent]
    exact queueReply_room s.bus d hroom
  · rw [hsent]
    exact queueReply_full s.bus d hfull

/-! ## Unknown codes (R167 step 3) -/

theorem ownerOf_unknown (c : Byte) (h : requestCodeKnown c = false) : ownerOf c = none := by
  unfold ownerOf
  split
  case h_23 => rfl
  all_goals
    next hc => simp [requestCodeKnown, hc] at h

/-- A new frame that no owner takes is answered BadArgument. -/
theorem takeRequest_unowned (code : Byte) (r : Request) (s : State) (e : SubEntry)
    (he : requestEntry s r.station = some e) (hreceiving : receiving s = true) (hnew : e.counter ≠ some r.counter)
    (hflight : e.inFlight = none) :
    takeRequest code none r s = sendReply (ticketOf code r s) .badArgument [] (noted r s) :=
  takeRequest_judged code none r s e he hreceiving hnew hflight

/-- Every request command is the request of its code. -/
theorem exec_requestCommand_byCode (x : Byte × (Request → Instr)) (hx : x ∈ requestCommands) (r : Request) (s : State) :
    exec (x.2 r) s = .next (settle s (takeByCode (some x.1) r s)) := by
  simp only [requestCommands, List.mem_cons, List.not_mem_nil, or_false] at hx
  rcases hx with rfl | rfl | rfl | rfl | rfl | rfl | rfl | rfl | rfl | rfl | rfl | rfl | rfl | rfl | rfl | rfl
    | rfl | rfl | rfl | rfl | rfl | rfl
  all_goals rfl

/-! ## Assembly (R196) -/

/-- Frame 0 begins a series; the frame that an assembly expects continues it, and any other one drops it. -/
theorem assembled_eq (old : Option Assembly) (f : Frame) : assembled old f =
    if frameNumber f = 0 then some ⟨frameCounter f, f.data, 1⟩
    else match old with
      | some a => if a.counter = frameCounter f ∧ a.next = frameNumber f then
          some ⟨a.counter, a.data ++ f.data, a.next + 1⟩ else none
      | none => none := by
  cases old with
  | none => simp only [assembled, beq_iff_eq]
  | some a => simp only [assembled, beq_iff_eq, Bool.and_eq_true]

section
variable (st : Nat) (f : Frame) (s : State) (e : SubEntry) (he : requestEntry s st = some e)
  (hreceiving : receiving s = true)
include he hreceiving

/-- A frame on a REQUEST topic, by the assembly after it. -/
theorem takeFragment_eq : takeFragment st f s = match assembled e.assembly f with
    | some a => if frameLast f then takeByCode a.data.head? ⟨st, a.counter, a.data.drop 1⟩ s
        else modifyRequest st (fun e => { e with assembly := some a }) s
    | none => modifyRequest st (fun e => { e with assembly := none }) s := by
  unfold takeFragment
  rw [he]
  exact if_neg (by simp [hreceiving])

theorem takeFragment_dropped (h : assembled e.assembly f = none) :
    takeFragment st f s = modifyRequest st (fun e => { e with assembly := none }) s := by
  rw [takeFragment_eq st f s e he hreceiving, h]

theorem takeFragment_continued (a : Assembly) (h : assembled e.assembly f = some a) (hlast : frameLast f = false) :
    takeFragment st f s = modifyRequest st (fun e => { e with assembly := some a }) s := by
  rw [takeFragment_eq st f s e he hreceiving, h]
  exact if_neg (by simp [hlast])

theorem takeFragment_completed (a : Assembly) (h : assembled e.assembly f = some a) (hlast : frameLast f = true) :
    takeFragment st f s = takeByCode a.data.head? ⟨st, a.counter, a.data.drop 1⟩ s := by
  rw [takeFragment_eq st f s e he hreceiving, h]
  exact if_pos hlast

end

/-- Settles O43: a code without an owner, the commands by their codes, and a frame by the assembly after it. -/
theorem unknownCodesAndFragments : Obligations.UnknownCodesAndFragments := by
  refine ⟨fun code r s e hcode he hreceiving hnew hflight => ?_, fun r s e he hreceiving hnew hflight => ?_,
    exec_requestCommand_byCode, fun st f s e he hreceiving => ?_⟩
  · show finish s (takeRequest code (ownerOf code) r s) = _
    rw [ownerOf_unknown code hcode, takeRequest_unowned code r s e he hreceiving hnew hflight]
    rfl
  · exact congrArg (finish s) (takeRequest_unowned _ r (useFree s) e he hreceiving hnew hflight)
  · exact ⟨fun h => congrArg (finish s) (takeFragment_dropped st f s e he hreceiving h),
      fun a h hlast => congrArg (finish s) (takeFragment_continued st f s e he hreceiving a h hlast),
      fun a h hlast => congrArg (finish s) (takeFragment_completed st f s e he hreceiving a h hlast),
      assembled_eq e.assembly f⟩

end Sys2Proof.Machine
end

section
/-! PROOFS. SHUTDOWN_COMPLETE, RESTART_BEGIN and LISTEN_END, what the end of a start leaves, and what a start restores
of an area in two copies (R157, R164, R183 to R187; log 3, 21, 22, 23, 35). -/

namespace Sys2Proof.Machine

/-! ## The end of a shutdown, of a wait for a RESTART and of the listen (R183, R185, R186) -/

theorem shutdownDone_iff (s : State) : shutdownDone s = true ↔
    (s.power = .running ∨ s.power = .limp) ∧ s.meter.keyOffTaken = true ∧ s.store.queue = []
      ∧ s.store.writing = none ∧ s.meter.job = .none ∧ s.meter.pending = .clear
      ∧ s.economy.writePending = false ∧ s.service.writePending = false := by
  simp only [shutdownDone, Bool.and_eq_true, awake_iff, List.isEmpty_iff, Option.isNone_iff_eq_none, beq_iff_eq,
    Bool.not_eq_true', and_assoc]

theorem restartDue_iff (s : State) : restartDue s = true ↔
    (s.power = .running ∨ s.power = .limp) ∧ s.store.writing = none
      ∧ ∃ w, s.restart = some w ∧ (w.replySent = true ∨ w.deadline ≤ s.now) := by
  unfold restartDue
  cases s.restart with
  | none => simp
  | some w =>
    simp only [Bool.and_eq_true, awake_iff, Bool.or_eq_true, decide_eq_true_eq, Option.isNone_iff_eq_none,
      Option.some.injEq, exists_eq_left']
    tauto

theorem shutdownCompleted_done (s : State) (h : shutdownDone s = true) :
    shutdownCompleted s = startIfKeyOn { giveUp s with power := .keepAlive } :=
  if_pos h

theorem restartBegun_due (s : State) (h : restartDue s = true) : restartBegun s = beginStart s := if_pos h

theorem throughStartUp_starts {starts : Bool} (s : State) (h : starts = true) :
    throughStartUp starts s = { s with power := .startUp } :=
  if_pos h

theorem listenEnded_due (s : State) (hpower : s.power = .startUp) (hdue : due s.now s.listenEnds = true) :
    listenEnded s = endStart false s :=
  if_pos (by simp [hpower, hdue])

theorem listenEnded_idle (s : State) (h : s.power ≠ .startUp ∨ due s.now s.listenEnds = false) : listenEnded s = s :=
  if_neg (by simpa [imp_iff_not_or] using h)

/-! ## The end of a start (R181, R183, R184; log 21, 22) -/

/-- The listen is over, and every period begins. -/
def begunStart (s : State) : State := { s with
  listenEnds := none
  bus := { s.bus with
    cutDemand := { s.bus.cutDemand with due := s.now + 50 }
    guidance := { s.bus.guidance with due := s.now + 100 }
    engineReq := { s.bus.engineReq with due := s.now + 100 }
    meters := { s.bus.meters with due := s.now + 1000 }
    status := { s.bus.status with due := s.now + 200 } } }

theorem startPeriods_begunStart (s : State) : startPeriods { s with listenEnds := none } = begunStart s := rfl

/-- Entry into Running: the ages count from now, and the owed notices are offered. -/
def enteredRunning (s : State) : State := offerOwedTimes 8 (startAges { begunStart s with power := .running })

/-- Entry into Limp. -/
def enteredLimp (c : LimpCause) (s : State) : State :=
  setCutout (limpCutout s) { begunStart s with power := .limp, limpCause := some c }

theorem offerOwedTimes_eq (n : Nat) (s : State) : offerOwedTimes n s = Nat.iterate offerOwed n s := by
  induction n generalizing s with
  | zero => rfl
  | succ n ih => exact ih _

theorem frame_offerOwedTimes (n : Nat) (s : State) : frame (offerOwedTimes n s) = frame s := by
  induction n generalizing s with
  | zero => rfl
  | succ n ih => exact (ih _).trans (frame_offerOwed s)

/-- A held key-off, or KEYON found deasserted, is taken at the end of a start. -/
def thenKeyOff (s : State) : State :=
  if s.keyOffHeld || !s.pins.keyOn then takeKeyOff { s with keyOffHeld := false } else s

/-- The state that the end of a start enters. -/
def entered (clash : Bool) (s : State) : State :=
  match limpCauseOf s clash with
  | some c => enteredLimp c s
  | none => enteredRunning s

theorem endStart_eq (clash : Bool) (s : State) : endStart clash s = thenKeyOff (entered clash s) := by
  have hcause : limpCauseOf (begunStart s) clash = limpCauseOf s clash := rfl
  have hcutout : limpCutout (begunStart s) = limpCutout s := rfl
  unfold endStart entered enteredRunning enteredLimp
  rw [← hcause, ← hcutout, startPeriods_begunStart]
  rfl

theorem entered_of_cause {clash : Bool} {s : State} {c : LimpCause} (h : limpCauseOf s clash = some c) :
    entered clash s = enteredLimp c s := by
  rw [entered, h]

theorem entered_of_none {clash : Bool} {s : State} (h : limpCauseOf s clash = none) :
    entered clash s = enteredRunning s := by
  rw [entered, h]

/-- The key-off at the end of a start is that of the state before it. -/
theorem thenKeyOff_entered {s u : State} (hheld : u.keyOffHeld = s.keyOffHeld) (hkey : u.pins.keyOn = s.pins.keyOn) :
    (s.keyOffHeld = true ∨ s.pins.keyOn = false → thenKeyOff u = takeKeyOff { u with keyOffHeld := false })
      ∧ (s.keyOffHeld = false → s.pins.keyOn = true → thenKeyOff u = u) := by
  rw [← hheld, ← hkey]
  unfold thenKeyOff
  exact ⟨fun h => if_pos (by simpa using h), fun hfree hon => if_neg (by simp [hfree, hon])⟩

theorem keyOffHeld_of_frame {s t : State} (h : frame t = frame s) : t.keyOffHeld = s.keyOffHeld :=
  congrArg (·.1.2.1.2.2.1) h

theorem keyOn_of_frame {s t : State} (h : frame t = frame s) : t.pins.keyOn = s.pins.keyOn :=
  congrArg (·.1.1.2.2.1.keyOn) h

theorem frame_enteredRunning (s : State) :
    frame (enteredRunning s) = frame { s with listenEnds := none, power := .running } := by
  rw [enteredRunning, frame_offerOwedTimes, frame_startAges]
  rfl

theorem enteredRunning_eq (s : State) : enteredRunning s = Nat.iterate offerOwed 8 { begunStart s with
    power := .running, topics := s.topics.map fun e => { e with ageFrom := s.now } } :=
  offerOwedTimes_eq 8 _

theorem limpCauseOf_bad (s : State) (clash : Bool) (h : s.imageGood = false) : limpCauseOf s clash = some .imageBad :=
  if_pos (by simp [h])

theorem limpCauseOf_good (s : State) (clash : Bool) (h : s.imageGood = true) : limpCauseOf s clash =
    if s.station = 0 then some .strapFault else if clash = true then some .topicClash else none := by
  simp only [limpCauseOf, h, beq_iff_eq]
  rfl

section
variable (clash : Bool) (s : State)

theorem endStart_running (hgood : s.imageGood = true) (hstation : s.station ≠ 0) (hquiet : clash = false) :
    endStart clash s = thenKeyOff (enteredRunning s) := by
  refine (endStart_eq clash s).trans (congrArg thenKeyOff (entered_of_none ?_))
  rw [limpCauseOf_good s clash hgood, if_neg hstation, if_neg (by simp [hquiet])]

/-- Entry into Running, and the key-off that is then taken. -/
theorem endStart_runs (hgood : s.imageGood = true) (hstation : s.station ≠ 0) (hquiet : clash = false) :
    (s.keyOffHeld = true ∨ s.pins.keyOn = false →
        endStart clash s = takeKeyOff { enteredRunning s with keyOffHeld := false })
      ∧ (s.keyOffHeld = false → s.pins.keyOn = true → endStart clash s = enteredRunning s) := by
  rw [endStart_running clash s hgood hstation hquiet]
  have hheld := keyOffHeld_of_frame (frame_enteredRunning s)
  have hkey := keyOn_of_frame (frame_enteredRunning s)
  exact thenKeyOff_entered hheld hkey

/-- The cause of Limp: the first that applies. -/
theorem endStart_cause (h : s.imageGood = false ∨ s.station = 0 ∨ clash = true) :
    endStart clash s = thenKeyOff (enteredLimp (if s.imageGood = false then .imageBad
      else if s.station = 0 then .strapFault else .topicClash) s) := by
  refine (endStart_eq clash s).trans (congrArg thenKeyOff (entered_of_cause ?_))
  cases hgood : s.imageGood with
  | false => exact limpCauseOf_bad s clash hgood
  | true =>
    rw [limpCauseOf_good s clash hgood]
    by_cases hstation : s.station = 0
    · simp [hstation]
    · simp [hstation, (h.resolve_left (by simp [hgood])).resolve_left hstation]

/-- Entry into Limp with CUTOUT as it was evaluated, and the key-off that is then taken. -/
theorem endStart_limps (h : s.imageGood = false ∨ s.station = 0 ∨ clash = true) (cut : Bool)
    (hcut : cut = true ↔ limpCutout s = true) :
    let limp := { begunStart s with
      power := .limp
      limpCause := some (if s.imageGood = false then .imageBad else if s.station = 0 then .strapFault else .topicClash)
      pins := { s.pins with cutout := cut } }
    (s.keyOffHeld = true ∨ s.pins.keyOn = false → endStart clash s = takeKeyOff { limp with keyOffHeld := false })
      ∧ (s.keyOffHeld = false → s.pins.keyOn = true → endStart clash s = limp) := by
  rw [endStart_cause clash s h, Bool.eq_iff_iff.2 hcut]
  exact thenKeyOff_entered rfl rfl

end

/-! ## What a start restores of an area (R187) -/

section
variable {α : Type} (ok : α → Bool) (a : Area α)

theorem restored_none (h0 : ¬ (a.copy0.checksumOk = true ∧ ok a.copy0.content = true))
    (h1 : ¬ (a.copy1.checksumOk = true ∧ ok a.copy1.content = true)) : a.restored ok = none := by
  rw [Area.restored, Area.best_none h0 h1]
  rfl

theorem restored_copy0 (h0 : a.copy0.checksumOk = true ∧ ok a.copy0.content = true)
    (h1 : a.copy1.checksumOk = true ∧ ok a.copy1.content = true → a.copy1.generation ≤ a.copy0.generation) :
    a.restored ok = some a.copy0.content := by
  rw [Area.restored, Area.best_copy0 h0 h1]
  rfl

theorem restored_copy1 (h1 : a.copy1.checksumOk = true ∧ ok a.copy1.content = true)
    (h0 : a.copy0.checksumOk = true ∧ ok a.copy0.content = true → a.copy0.generation < a.copy1.generation) :
    a.restored ok = some a.copy1.content := by
  rw [Area.restored, Area.best_copy1 h1 h0]
  rfl

end

theorem limpCutout_good (s : State) (h : s.imageGood = true) : limpCutout s = true ↔
    ∀ e ∈ s.limits, ¬ (e.state ≠ .disabled ∧ e.config.action = .stop ∧ e.config.owner = .technician) := by
  rw [limpCutout_iff, if_pos h]

theorem limpCutout_bad (s : State) (h : s.imageGood = false) : limpCutout s = true ↔
    ∃ l, s.store.limits.restored limitsOk = some l
      ∧ ∀ e ∈ l, ¬ (e.enabled = true ∧ e.config.action = .stop ∧ e.config.owner = .technician) := by
  rw [limpCutout_iff, if_neg (by simp [h])]

/-- Settles O58: the three commands by their conditions, then the end of a start by its image, station and clash, with
the key-off that it takes, and the copy that a start restores. -/
theorem shutdownAndStarts : Obligations.ShutdownAndStarts := by
  refine ⟨fun s => ⟨fun hdone => ?_, fun hdue => ?_,
      fun hpower hdue => congrArg (finish s) (listenEnded_due s hpower hdue),
      fun h => congrArg (finish s) (listenEnded_idle s h), shutdownDone_iff s, restartDue_iff s⟩,
    fun clash s => ⟨fun hgood hstation hquiet => ?_, fun hgood hlimps cut hcut => ?_, fun hbad cut hcut => ?_⟩,
    fun α ok a => ⟨restored_none ok a, restored_copy0 ok a, restored_copy1 ok a⟩⟩
  · show finish (throughStartUp (shutdownDone s) s) (shutdownCompleted s) = _
    rw [throughStartUp_starts s hdone, shutdownCompleted_done s hdone]
    rfl
  · show finish (throughStartUp (restartDue s) s) (restartBegun s) = _
    rw [throughStartUp_starts s hdue, restartBegun_due s hdue]
    rfl
  · have hentered := endStart_runs clash s hgood hstation hquiet
    rw [enteredRunning_eq] at hentered
    exact hentered
  · exact endStart_limps clash s (.inr hlimps) cut (hcut.trans (limpCutout_good s hgood).symm)
  · exact endStart_limps clash s (.inl hbad) cut (hcut.trans (limpCutout_bad s hbad).symm)

end Sys2Proof.Machine
end

section
/-! PROOFS. What leaves the Bus Interface Unit as it is: every operation of the other blocks but those that queue a
notice, send a reply or place a content. -/

namespace Sys2Proof.Machine

/-! ## The Diagnostic List, the replies' requests and the store -/

@[simp] theorem setItem_bus (i : Nat) (x : ServiceItem) (s : State) : (setItem i x s).bus = s.bus := rfl

@[simp] theorem queueJob_bus (j : Job) (s : State) : (queueJob j s).bus = s.bus := rfl

@[simp] theorem carry_bus (k : Job → Bool) (j : List Ticket → Job) (t : Ticket) (s : State) :
    (carry k j t s).bus = s.bus := by
  unfold carry
  split <;> rfl

@[simp] theorem requestTag_bus (r : Request) (s : State) : (requestTag r s).2.bus = s.bus := by
  unfold requestTag
  split <;> rfl

/-! ## The Economy Unit -/

@[simp] theorem engineStopped_bus (s : State) : (engineStopped s).bus = s.bus := by
  unfold engineStopped
  split <;> rfl

@[simp] theorem economyEngineRun_bus (running : Bool) (n : Nat) (s : State) :
    (economyEngineRun running n s).bus = s.bus := by
  unfold economyEngineRun
  split
  · exact engineStopped_bus s
  · split
    · rfl
    · split <;> rfl
    · rfl

@[simp] theorem activityPresent_bus (s : State) : (activityPresent s).bus = s.bus := by
  unfold activityPresent
  split <;> rfl

@[simp] theorem activityAbsent_bus (s : State) : (activityAbsent s).bus = s.bus := by
  unfold activityAbsent
  split
  · split <;> rfl
  · rfl
  · rfl

@[simp] theorem economyPilot_bus (s : State) : (economyPilot s).bus = s.bus := by
  unfold economyPilot
  split <;> simp

@[simp] theorem listNonEmpty_bus (s : State) : (listNonEmpty s).bus = s.bus := by
  unfold listNonEmpty
  split <;> rfl

@[simp] theorem listEmpty_bus (s : State) : (listEmpty s).bus = s.bus := by
  unfold listEmpty
  split <;> rfl

@[simp] theorem waitExpired_bus (s : State) : (waitExpired s).bus = s.bus := by
  unfold waitExpired
  split <;> rfl

@[simp] theorem shutdownExpired_bus (s : State) : (shutdownExpired s).bus = s.bus := by
  unfold shutdownExpired
  split <;> rfl

@[simp] theorem resumeExpired_bus (s : State) : (resumeExpired s).bus = s.bus := by
  unfold resumeExpired
  split <;> rfl

@[simp] theorem economyForced_bus (s : State) : (economyForced s).bus = s.bus := rfl

@[simp] theorem setDays_bus (f : DayArea → DayArea) (s : State) : (setDays f s).bus = s.bus := rfl

@[simp] theorem economyRaise_bus (s : State) : (economyRaise s).bus = s.bus := rfl
@[simp] theorem shiftStart_bus (s : State) : (shiftStart s).bus = s.bus := rfl

@[simp] theorem economySecond_bus (s : State) : (economySecond s).bus = s.bus := by
  unfold economySecond
  split <;> rfl

@[simp] theorem wantDayJob_bus (s : State) : (wantDayJob s).bus = s.bus := by
  unfold wantDayJob
  split
  · rfl
  · split <;> rfl

@[simp] theorem economyRollover_bus (s : State) : (economyRollover s).bus = s.bus := by
  simp [economyRollover]

@[simp] theorem economyClockSet_bus (d : Date) (s : State) : (economyClockSet d s).bus = s.bus := by
  unfold economyClockSet
  dsimp only
  split <;> simp [modifyOpened]

/-- The Economy Unit queues no frame on an announcement. -/
@[simp] theorem economyTakes_bus (s : State) (a : Announcement) : (economyTakes s a).bus = s.bus := by
  cases a <;> simp [economyTakes]

/-! ## The Service and Meter Units -/

@[simp] theorem wantServiceJob_bus (s : State) : (wantServiceJob s).bus = s.bus := by
  unfold wantServiceJob
  split
  · rfl
  · split <;> rfl

@[simp] theorem formDerate_bus (s : State) : (formDerate s).bus = s.bus := rfl

/-- An evaluation of the service items keeps what its work on each item keeps. -/
theorem forItems_keeps {β : Type} (g : State → β) (f : Nat → ServiceItem → State → State)
    (hf : ∀ i x s, g (f i x s) = g s) (s : State) : g (forItems f s) = g s := by
  refine foldl_keeps g _ (fun s i => ?_) _ s
  split
  · exact hf ..
  · rfl

@[simp] theorem beginDayCounts_bus (s : State) : (beginDayCounts s).bus = s.bus := by
  unfold beginDayCounts
  split
  · rfl
  · refine forItems_keeps State.bus _ (fun i x s => ?_) s
    split
    · simp
    · rfl

@[simp] theorem recordService_bus (i : Nat) (x : ServiceItem) (t : Ticket) (s : State) :
    (recordService i x t s).bus = s.bus := by
  simp [recordService]

@[simp] theorem queueCheckpoint_bus (urgent : Bool) (s : State) : (queueCheckpoint urgent s).bus = s.bus := by
  unfold queueCheckpoint
  dsimp only
  split <;> rfl

@[simp] theorem takeOverPending_bus (s : State) : (takeOverPending s).bus = s.bus := rfl

/-! ## The Guidance and Pose Units -/

@[simp] theorem formGuidance_bus (s : State) : (formGuidance s).bus = s.bus := rfl
@[simp] theorem scanAndForm_bus (s : State) : (scanAndForm s).bus = s.bus := rfl

@[simp] theorem enterStage_bus (d : Detector) (s : State) : (enterStage d s).bus = s.bus := rfl
@[simp] theorem beginDig_bus (s : State) : (beginDig s).bus = s.bus := rfl

@[simp] theorem abandonCycle_bus (s : State) : (abandonCycle s).bus = s.bus := by
  unfold abandonCycle
  split <;> rfl

@[simp] theorem detectorPump_bus (s : State) : (detectorPump s).bus = s.bus := by
  unfold detectorPump
  split <;> rfl

@[simp] theorem stageExpired_bus (s : State) : (stageExpired s).bus = s.bus := by
  unfold stageExpired
  split <;> rfl

@[simp] theorem setDescriptor_bus (i : Nat) (old new : Descriptor) (s : State) :
    (setDescriptor i old new s).bus = s.bus := by
  unfold setDescriptor
  dsimp only
  repeat' split
  all_goals rfl

@[simp] theorem recallLookup_bus (i : Nat) (x : Int) (s : State) : (recallLookup i x s).bus = s.bus := by
  unfold recallLookup
  split
  · split <;> simp
  · rfl

@[simp] theorem applyGrade_bus (s : State) : (applyGrade s).bus = s.bus := by
  unfold applyGrade
  dsimp only
  split <;> rfl

/-! ## The Time Base, the Topic Map and the lines -/

@[simp] theorem oscillatorStopped_bus (s : State) : (oscillatorStopped s).bus = s.bus := by
  unfold oscillatorStopped
  dsimp only
  repeat' split
  all_goals rfl

@[simp] theorem oscillatorRestarted_bus (s : State) : (oscillatorRestarted s).bus = s.bus := by
  unfold oscillatorRestarted
  dsimp only
  repeat' split
  all_goals rfl

@[simp] theorem freshened_bus (e : SubEntry) (s : State) : (freshened e s).bus = s.bus := by
  unfold freshened
  dsimp only
  split <;> rfl

@[simp] theorem gradedBy_bus (x : Nat × SubEntry × SubEntry × Payload) (s : State) : (gradedBy x s).bus = s.bus := by
  unfold gradedBy
  dsimp only
  split <;> simp

@[simp] theorem offerDayJob_bus (s : State) : (offerDayJob s).bus = s.bus := by
  unfold offerDayJob
  split <;> simp

@[simp] theorem offerServiceJob_bus (s : State) : (offerServiceJob s).bus = s.bus := by
  unfold offerServiceJob
  split <;> simp

@[simp] theorem detectorRearmed_bus (s : State) : (detectorRearmed s).bus = s.bus := by
  unfold detectorRearmed
  split <;> rfl

@[simp] theorem tick_bus (s : State) : (tick s).bus = s.bus := by
  unfold tick countPeriods
  dsimp only
  split <;> rfl

end Sys2Proof.Machine
end

section
/-! PROOFS. No operation overfills the event ring: a reply and a notice join it where it has room or a reply is
displaced, and no other operation lengthens it (R162 to R164). -/

namespace Sys2Proof.Machine

/-! ## The ring in the Biu (R161, R162, R164) -/

/-- The event ring holds at most its eight frames. -/
def Biu.fits (b : Biu) : Prop := b.ring.length ≤ 8

theorem Biu.fits_of_length {b c : Biu} (h : b.fits) (hlength : c.ring.length ≤ b.ring.length) : c.fits :=
  hlength.trans h

@[simp] theorem fits_setPlace (b : Biu) (c : CyclicPlace) (p : CyclicPub) : (b.setPlace c p).fits ↔ b.fits := by
  cases p <;> rfl

@[simp] theorem fits_release (b : Biu) : b.release.fits ↔ b.fits := by
  unfold Biu.release
  split
  · exact fits_setPlace ..
  · rfl

/-- A frame that joins a ring with room. -/
theorem fits_join {b : Biu} (reply : Bool) (d : List Byte) (f : Option Nat) (h : ¬ 8 ≤ b.ring.length) :
    (b.join reply d f).fits := by
  simp only [Biu.fits, Biu.join, List.length_append, List.length_cons, List.length_nil]
  omega

theorem fits_queueReply {b : Biu} (h : b.fits) (d : List Byte) : (b.queueReply d).fits := length_queueReply b d h

theorem fits_queueNotice {b c : Biu} {d : List Byte} {f : Option Nat} (h : b.fits) (hq : b.queueNotice d f = some c) :
    c.fits :=
  length_queueNotice b c d f h hq

/-! ## Operations one after the other -/

/-- A chain of operations, each of which leaves the ring within its places. -/
theorem ringFits_foldl {α : Type} (f : State → α → State)
    (hf : ∀ s a, s.bus.fits → (f s a).bus.fits) (l : List α) {s : State}
    (h : s.bus.fits) : (l.foldl f s).bus.fits := by
  induction l generalizing s with
  | nil => exact h
  | cons a l ih => exact ih (hf s a h)

section
variable {s : State} (h : s.bus.fits)
include h

/-! ## Contents, notices and replies -/

theorem ringFits_placeContent {p : CyclicPub} {d : List Byte} : (placeContent p d s).bus.fits := by
  simpa using h

theorem ringFits_queueWarning {n : WarnNotice} : (queueWarning n s).bus.fits := by
  unfold queueWarning
  dsimp only
  split
  next b hq => exact fits_queueNotice h hq
  next => exact h

theorem ringFits_queueRecordNotice {n : Nat} {d : List Byte} :
    (queueRecordNotice n d s).bus.fits := by
  unfold queueRecordNotice
  split
  next b hq => exact fits_queueNotice h hq
  next => exact h

theorem ringFits_queueServiceNotice {i : Nat} {x : ServiceItem} {k : ServiceNoticeKind} :
    (queueServiceNotice i x k s).bus.fits := by
  unfold queueServiceNotice
  split
  next b hq => exact fits_queueNotice h hq
  next => exact h

theorem ringFits_sendReply {t : Ticket} {r : Result} {d : List Byte} :
    (sendReply t r d s).bus.fits :=
  fits_queueReply h _

theorem ringFits_finishRequest {t : Ticket} {r : Result} {d : List Byte} :
    (finishRequest t r d s).bus.fits :=
  ringFits_sendReply h

/-- A freed place is offered only where the ring has room. -/
theorem ringFits_offerOwed : (offerOwed s).bus.fits := by
  by_cases hidle : s.power ≠ .running ∨ 8 ≤ s.bus.ring.length
  · rw [offerOwed_idle s hidle]
    exact h
  · obtain ⟨hrunning, hroom⟩ := not_or.1 hidle
    rw [offerOwed_eq s (not_not.1 hrunning) (Nat.not_le.1 hroom)]
    split
    · exact fits_join _ _ _ hroom
    · split
      · exact fits_join _ _ _ hroom
      · split
        · exact fits_join _ _ _ hroom
        · exact h

theorem ringFits_offerOwedTimes {n : Nat} : (offerOwedTimes n s).bus.fits := by
  induction n generalizing s with
  | zero => exact h
  | succ n ih => exact ih (ringFits_offerOwed h)

/-! ## The Service and Meter Units -/

theorem ringFits_restand {i : Nat} {x : ServiceItem} {m d : Standing} :
    (restand i x m d s).bus.fits := by
  unfold restand
  dsimp only
  split
  · exact h
  · split
    · simpa using h
    · split
      · rw [wantServiceJob_bus, formDerate_bus]
        refine ringFits_queueServiceNotice ?_
        exact h
      · split <;> simpa using h

omit h in
/-- An evaluation of the service items leaves the ring within its places if its work on each item does. -/
theorem ringFits_forItems {f : Nat → ServiceItem → State → State}
    (hf : ∀ i x s, s.bus.fits → (f i x s).bus.fits) {s : State} (h : s.bus.fits) :
    (forItems f s).bus.fits := by
  refine ringFits_foldl _ (fun s i h => ?_) _ h
  split
  · exact hf _ _ s h
  · exact h

theorem ringFits_serviceMeter {n : Nat} : (serviceMeter n s).bus.fits := by
  refine ringFits_forItems (fun i x s h => ?_) h
  split
  · exact ringFits_restand h
  · exact h

theorem ringFits_serviceCalendar : (serviceCalendar s).bus.fits := by
  unfold serviceCalendar
  split
  · exact h
  · exact ringFits_forItems (fun i x s h => ringFits_restand h) h

theorem ringFits_serviceReminder {k : Nat} : (serviceReminder k s).bus.fits := by
  refine ringFits_forItems (fun i x s h => ?_) h
  split
  · exact ringFits_queueServiceNotice h
  · exact h

theorem ringFits_serviceTakes {a : Announcement} : (serviceTakes s a).bus.fits := by
  cases a with
  | second => exact h
  | rollover =>
    refine ringFits_serviceCalendar ?_
    rwa [beginDayCounts_bus]
  | shiftStart => exact h
  | reminder k => exact ringFits_serviceReminder h

theorem ringFits_announceMeter {n : Nat} : (announceMeter n s).bus.fits := by
  unfold announceMeter
  split
  · exact ringFits_serviceMeter h
  · exact h

theorem ringFits_meterCycle : (meterCycle s).bus.fits := by
  unfold meterCycle
  split
  · exact h
  · refine ringFits_announceMeter ?_
    exact h

theorem ringFits_answerWaiters {l : List Waiter} : (answerWaiters l s).bus.fits := by
  unfold answerWaiters
  exact ringFits_foldl _ (fun _ _ h => ringFits_finishRequest h) l h

theorem ringFits_exhaustCheckpoints : (exhaustCheckpoints s).bus.fits := by
  rw [exhaustCheckpoints, report_bus]
  refine ringFits_answerWaiters ?_
  exact h

theorem ringFits_wantCheckpoint : (wantCheckpoint s).bus.fits := by
  unfold wantCheckpoint
  split
  · exact ringFits_exhaustCheckpoints h
  · split
    · split
      · rwa [queueCheckpoint_bus]
      · exact h
    · exact h
    · exact h

theorem ringFits_wantCheckpointFor {t : Ticket} : (wantCheckpointFor t s).bus.fits :=
  ringFits_wantCheckpoint h

theorem ringFits_urgentCheckpoint : (urgentCheckpoint s).bus.fits := by
  unfold urgentCheckpoint
  dsimp only
  split
  · exact h
  · split
    · exact ringFits_exhaustCheckpoints h
    · simpa using h
  · split
    · exact ringFits_exhaustCheckpoints h
    · exact h

theorem ringFits_offerPendingCheckpoint : (offerPendingCheckpoint s).bus.fits := by
  unfold offerPendingCheckpoint
  split
  · exact h
  · split
    · exact h
    · split
      · exact ringFits_exhaustCheckpoints h
      · split
        · simpa using h
        · exact h
    · split
      · exact ringFits_exhaustCheckpoints h
      · simpa using h

theorem ringFits_checkpointCompleted {n : Nat} : (checkpointCompleted n s).bus.fits := by
  rw [checkpointCompleted, endFault_bus]
  refine ringFits_answerWaiters ?_
  exact h

theorem ringFits_meterSecond : (meterSecond s).bus.fits := by
  unfold meterSecond
  split
  · exact h
  · refine ringFits_foldl _ (fun s n h => ringFits_announceMeter h) _ ?_
    dsimp only
    split
    · exact h
    · split
      · exact h
      · exact ringFits_wantCheckpoint h

/-! ## The Guidance and Envelope Units -/

theorem ringFits_testReturn : (testReturn s).bus.fits := by
  unfold testReturn
  split
  · exact h
  · exact ringFits_meterCycle h

theorem ringFits_detectorPilot : (detectorPilot s).bus.fits := by
  unfold detectorPilot
  dsimp only
  split
  · split <;> simpa using h
  · split <;> simpa using h
  · split
    · exact h
    · exact ringFits_testReturn h
  · exact h
  · exact h

theorem ringFits_detectorPose : (detectorPose s).bus.fits := by
  unfold detectorPose
  split
  · simpa using h
  · split
    · split <;> simpa using h
    · exact ringFits_testReturn h
    · exact h

theorem ringFits_guidancePilot : (guidancePilot s).bus.fits := by
  unfold guidancePilot
  split
  · simpa using h
  · exact ringFits_detectorPilot h

theorem ringFits_guidancePose : (guidancePose s).bus.fits :=
  ringFits_detectorPose h

theorem ringFits_evaluateEntry {i : Nat} {e : LimitEntry} : (evaluateEntry i e s).1.bus.fits := by
  unfold evaluateEntry
  dsimp only
  split
  · refine ringFits_queueWarning ?_
    exact h
  · exact h

theorem ringFits_evaluateAll : (evaluateAll s).1.bus.fits := by
  unfold evaluateAll
  refine List.foldlRecOn (motive := fun x : State × List Handed => x.1.bus.fits) _ _ h fun x hx i _ => ?_
  dsimp only
  split
  · split
    · exact hx
    · exact ringFits_evaluateEntry hx
  · exact hx

theorem ringFits_envelopePose : (envelopePose s).1.bus.fits := by
  unfold envelopePose
  split
  · exact h
  · exact ringFits_evaluateAll h

/-! ## The Time Base -/

omit h in
theorem ringFits_takeAll {takes : State → Announcement → State}
    (ht : ∀ s a, s.bus.fits → (takes s a).bus.fits) {l : List Announcement} {s : State}
    (h : s.bus.fits) : (takeAll takes l s).bus.fits := by
  unfold takeAll
  split <;> exact ringFits_foldl _ ht _ h

theorem ringFits_announceCount : (announceCount s).bus.fits := by
  unfold announceCount
  dsimp only
  split
  · exact ringFits_takeAll (fun s a h => ringFits_serviceTakes h)
      (ringFits_takeAll (fun s a h => by simpa using h) (ringFits_meterSecond h))
  · exact ringFits_meterSecond h

theorem ringFits_clockCounted : (clockCounted s).bus.fits := by
  unfold clockCounted
  dsimp only
  split
  · split
    · exact ringFits_announceCount h
    · exact h
  · exact h

theorem ringFits_setClockTo {t : ClockTime} {src : SetSource} : (setClockTo t src s).bus.fits := by
  refine ringFits_serviceCalendar ?_
  simpa using h

theorem ringFits_timeSyncArrival {t : ClockTime} : (timeSyncArrival t s).bus.fits := by
  unfold timeSyncArrival
  split
  · exact h
  · split
    · exact h
    · split
      · exact ringFits_setClockTo h
      · split
        · exact ringFits_setClockTo h
        · exact h

/-! ## The end of a store write -/

theorem ringFits_answerLimit {t : Ticket} : (answerLimit t s).bus.fits := by
  unfold answerLimit
  split
  · exact ringFits_finishRequest h
  · exact h

theorem ringFits_answerService {t : Ticket} : (answerService t s).bus.fits := by
  unfold answerService
  split
  · exact ringFits_finishRequest h
  · exact h

theorem ringFits_jobCompleted {w : Writing} : (jobCompleted w s).bus.fits := by
  unfold jobCompleted
  split
  case h_1 => exact ringFits_finishRequest h
  case h_2 =>
    split
    · exact ringFits_checkpointCompleted h
    · exact h
  case h_3 => exact ringFits_foldl _ (fun s t h => ringFits_finishRequest h) _ h
  case h_4 => exact ringFits_foldl _ (fun s t h => ringFits_answerLimit h) _ h
  case h_7 => exact h
  all_goals
    refine ringFits_foldl _ (fun s t h => ?_) _ h
    split
    · exact h
    · exact ringFits_answerService h

theorem ringFits_writeCompleted : (writeCompleted s).bus.fits := by
  unfold writeCompleted
  split
  · exact h
  · rw [offerServiceJob_bus, offerDayJob_bus]
    refine ringFits_offerPendingCheckpoint (ringFits_jobCompleted ?_)
    exact h

/-! ## The Intervention Unit (R46 to R63) -/

theorem ringFits_enterHold : (enterHold s).bus.fits := by
  unfold enterHold
  split
  · exact h
  · rw [economyForced_bus]
    refine ringFits_placeContent ?_
    exact h

theorem ringFits_formSets : (formSets s).bus.fits := by
  unfold formSets
  dsimp only
  split
  · refine ringFits_placeContent ?_
    exact h
  · split
    · refine ringFits_placeContent ?_
      exact h
    · exact h

theorem ringFits_exhaustSequence : (exhaustSequence s).bus.fits := by
  unfold exhaustSequence
  refine ringFits_enterHold ?_
  exact h

theorem ringFits_confirmExpired : (confirmExpired s).bus.fits := by
  unfold confirmExpired
  split
  · exact h
  · exact ringFits_enterHold h
  · exact h
  · exact h

theorem ringFits_valveLost : (valveLost s).bus.fits := by
  unfold valveLost
  split
  · split <;> exact h
  · split <;> exact h
  · exact ringFits_enterHold h
  · exact h

omit h

@[simp] theorem valveCutArrival_bus (echo : BitVec 8) (applied : MotionSet) :
    (valveCutArrival echo applied s).bus = s.bus := by
  unfold valveCutArrival
  split <;> rfl

@[simp] theorem change_bus (p : Record → Bool) (f : Record → Record) (a : Record → Bool) (w : Work) :
    (w.change p f a).state.bus = w.state.bus := by
  rw [Work.change_eq]
  rfl

@[simp] theorem remove_bus (p : Record → Bool) (w : Work) : (w.remove p).state.bus = w.state.bus := by
  rw [Work.remove_eq]
  dsimp only
  split <;> rfl

section
variable {w : Work} (hw : w.state.bus.fits)
include hw

/-- The raise that gives the last number enters Hold, which places a content; the other raises touch no frame. -/
theorem ringFits_raise {k : RecordKind} {src : Option Nat} {c : RecordCause} {b : MotionSet} :
    (w.raise k src c b).state.bus.fits := by
  have hlisted (u : State) (hu : u.bus = w.state.bus) :
      (if sequenceExhausted u then exhaustSequence u else u).bus.fits := by
    rw [← hu] at hw
    split
    · exact ringFits_exhaustSequence hw
    · exact hw
  unfold Work.raise
  dsimp only
  split
  · exact hw
  · refine hlisted _ ?_
    split <;> simp

theorem ringFits_unlessHold {f : Work → Work} (hf : (f w).state.bus.fits) : (w.unlessHold f).state.bus.fits := by
  unfold Work.unlessHold
  split
  · exact hw
  · exact hf

theorem ringFits_raiseRequest {i : Nat} {k : RecordKind} {c : BreachCause} {b : MotionSet} :
    (w.raiseRequest i k c b).state.bus.fits := by
  unfold Work.raiseRequest
  split
  · rwa [Work.setCause, change_bus]
  · exact ringFits_raise hw

theorem ringFits_breachReport {i : Nat} {gone : Bool} : (w.breachReport i gone).state.bus.fits := by
  unfold Work.breachReport
  split <;> simpa using hw

theorem ringFits_lossOfPose : w.lossOfPose.state.bus.fits := by
  unfold Work.lossOfPose
  split
  · simpa using hw
  · split
    · exact ringFits_raise hw
    · exact hw

theorem ringFits_poseQuality {before : PoseQuality} : (w.poseQuality before).state.bus.fits := by
  refine ringFits_unlessHold hw ?_
  split
  · simpa using hw
  · exact hw
  · split
    · exact hw
    · exact ringFits_lossOfPose hw

theorem ringFits_take {x : Handed} : (w.take x).state.bus.fits := by
  refine ringFits_unlessHold hw ?_
  cases x with
  | raise i k c b => exact ringFits_raiseRequest hw
  | cause i c => simpa [Work.setCause] using hw
  | report i gone => exact ringFits_breachReport hw

theorem ringFits_takes (l : List Handed) : (l.foldl Work.take w).state.bus.fits :=
  List.foldlRecOn (motive := fun w : Work => w.state.bus.fits) l _ hw fun _ hw _ _ => ringFits_take hw

theorem ringFits_extCut {st : Nat} {m : MotionSet} : (w.extCut st m).state.bus.fits := by
  unfold Work.extCut
  split
  · simpa using hw
  · split
    · simpa using hw
    · exact ringFits_raise hw

theorem ringFits_overrideExpired {n : Nat} : (w.overrideExpired n).state.bus.fits := by
  simpa [Work.overrideExpired] using hw

/-- The notices of an event join the ring one by one behind its demand. -/
theorem ringFits_close : w.close.bus.fits := by
  refine ringFits_foldl _ (fun s n hs => ringFits_queueRecordNotice hs) _ ?_
  split
  · exact hw
  · exact ringFits_formSets hw

end

theorem ringFits_interventionEvent {f : Work → Work} (h : s.bus.fits) (hf : (f ⟨s, []⟩).state.bus.fits) :
    (interventionEvent f s).bus.fits :=
  ringFits_close (ringFits_unlessHold h hf)

include h

/-! ## The pose and the arrivals -/

theorem ringFits_consumePose {before : PoseQuality} : (consumePose before s).bus.fits := by
  have hevent (l : List Handed) (u : State) (hu : u.bus.fits) :
      (interventionEvent (fun w => (l.foldl Work.take w).poseQuality before) u).bus.fits :=
    ringFits_interventionEvent hu (ringFits_poseQuality (ringFits_takes (w := ⟨u, []⟩) hu l))
  rw [consumePose_eq]
  refine hevent _ _ (ringFits_guidancePose ?_)
  repeat' split
  all_goals simpa using ringFits_envelopePose h

theorem ringFits_announcePose {before : PoseQuality} : (announcePose before s).bus.fits := by
  unfold announcePose
  refine ringFits_consumePose ?_
  exact h

theorem ringFits_gradeOnly : (gradeOnly s).bus.fits := by
  have hgraded : (applyGrade s).bus.fits := by rwa [applyGrade_bus]
  unfold gradeOnly
  dsimp only
  split
  · exact ringFits_announcePose hgraded
  · exact hgraded

theorem ringFits_solveAndGrade : (solveAndGrade s).bus.fits := by
  cases hsolve : solvePose s with
  | some p =>
    rw [solveAndGrade_of_solve s p hsolve]
    refine ringFits_announcePose ?_
    rwa [applyGrade_bus]
  | none =>
    rw [solveAndGrade_no_solve s hsolve]
    exact ringFits_gradeOnly h

theorem ringFits_poseArrival {p : Payload} : (poseArrival p s).bus.fits := by
  unfold poseArrival
  split
  · exact ringFits_solveAndGrade (by rwa [recallLookup_bus])
  · exact ringFits_solveAndGrade (by rwa [recallLookup_bus])
  · exact ringFits_solveAndGrade h

theorem ringFits_degradedExpired : (degradedExpired s).bus.fits := by
  unfold degradedExpired
  refine ringFits_announcePose ?_
  exact h

theorem ringFits_handArrival {st : Nat} {p : Payload} : (handArrival st p s).bus.fits := by
  unfold handArrival
  split
  case h_6 => rwa [economyEngineRun_bus]
  case h_7 => exact h
  case h_8 => rwa [recallLookup_bus]
  case h_9 => rwa [detectorPump_bus]
  case h_10 => exact ringFits_guidancePilot (by rwa [economyPilot_bus])
  case h_11 => rwa [valveCutArrival_bus]
  case h_12 => exact ringFits_interventionEvent h (ringFits_extCut (w := ⟨s, []⟩) h)
  case h_13 => exact ringFits_timeSyncArrival h
  all_goals exact ringFits_poseArrival h

theorem ringFits_takeFrame {role : Role} {station : Option Nat} {f : Frame} :
    (takeFrame role station f s).bus.fits := by
  cases haccepted : accepted role station f s with
  | none => rwa [takeFrame_unaccepted role station f s haccepted]
  | some x =>
    rw [takeFrame_accepted role station f s x haccepted]
    refine ringFits_handArrival ?_
    rwa [gradedBy_bus]

theorem ringFits_staleEntry {i : Nat} : (staleEntry i s).bus.fits := by
  unfold staleEntry
  dsimp only
  split
  · split
    · split
      · refine ringFits_gradeOnly ?_
        exact h
      · exact h
    · exact h
  · exact h

theorem ringFits_handLost {e : SubEntry} : (handLost e s).bus.fits := by
  unfold handLost
  split
  case h_6 => rwa [engineStopped_bus]
  case h_7 => rwa [abandonCycle_bus, activityPresent_bus]
  case h_8 => exact ringFits_valveLost h
  case h_9 => exact ringFits_interventionEvent h (by rwa [Work.extLost, change_bus])
  case h_10 | h_11 | h_12 | h_13 | h_14 => exact h
  all_goals exact ringFits_gradeOnly h

theorem ringFits_lostEntry {i : Nat} : (lostEntry i s).bus.fits := by
  unfold lostEntry
  split
  · split
    · refine ringFits_handLost ?_
      exact h
    · exact h
  · exact h

/-! ## The controller, the periods and the end of an event -/

/-- A content's end frees fences, and no place. -/
theorem ringFits_sentCyclic {p : CyclicPub} : (sentCyclic p s).bus.fits := by
  refine Biu.fits_of_length h ?_
  unfold sentCyclic
  dsimp only
  split
  · simp [freeFences, mapWhere]
  · exact le_rfl

/-- A message's last frame frees its place, which is then offered; a frame before it stays in its own. -/
theorem ringFits_sentRing {f : RingFrame} : (sentRing f s).bus.fits := by
  have hcount : (s.bus.countEvent f.reply).ring = s.bus.ring := by
    unfold Biu.countEvent
    split <;> rfl
  unfold sentRing
  dsimp only
  split
  · refine Biu.fits_of_length h ?_
    simp [mapWhere, hcount]
  · refine ringFits_offerOwed (Biu.fits_of_length h ?_)
    simpa [noteRestartReply, hcount] using List.length_filter_le _ s.bus.ring

theorem ringFits_frameSent : (frameSent s).bus.fits := by
  unfold frameSent
  dsimp only
  split
  · exact h
  · refine ringFits_sentCyclic ?_
    exact h
  · split
    · refine ringFits_sentRing ?_
      exact h
    · exact h

theorem ringFits_attemptFailed {error : Bool} : (attemptFailed error s).bus.fits := by
  unfold attemptFailed
  split
  · exact h
  · exact (fits_release s.bus).2 h

theorem ringFits_busWentOff : (busWentOff s).bus.fits := by
  have hreleased := (fits_release s.bus).2 h
  unfold busWentOff
  dsimp only
  split
  · split
    · exact hreleased
    · split
      · refine ringFits_enterHold ?_
        exact hreleased
      · exact hreleased
  · exact h

theorem ringFits_busRecovered : (busRecovered s).bus.fits := by
  unfold busRecovered
  split <;> exact h

theorem ringFits_periodic {p : CyclicPub} : (periodic p s).bus.fits := by
  unfold periodic
  split
  · refine ringFits_placeContent ?_
    exact (fits_setPlace ..).2 h
  · exact h

omit h in
theorem fits_settle {before after : State} : (settle before after).bus.fits ↔ after.bus.fits := by
  obtain ⟨hring, -⟩ := (eventEnd_settle before after).events
  rw [Biu.fits, Biu.fits, hring]

end

end Sys2Proof.Machine
end

section
/-! PROOFS. Every step leaves the event ring within its eight places: the requests, the starts and the supplies, and
every command (R162, R167, R181 to R186). -/

namespace Sys2Proof.Machine

/-! ## The requests -/

/-- An owner whose answer leaves the ring within its places. -/
def Owner.KeepsRing (own : Owner) : Prop := ∀ t a s, s.bus.fits → (own t a s).after.bus.fits

theorem ringFits_checkLevel {need : Level} {t : Ticket} {s : State} {rest : State → Answer} (h : s.bus.fits)
    (hrest : ∀ s : State, s.bus.fits → (rest s).after.bus.fits) : (checkLevel need t s rest).after.bus.fits := by
  unfold checkLevel
  split
  · split
    · exact hrest s h
    · exact hrest _ h
  · exact h

theorem ringFits_limitRequest {t : Ticket} {a : List Byte} {s : State} {rest : Nat → LimitEntry → State → Answer}
    (h : s.bus.fits) (hrest : ∀ i e (s : State), s.bus.fits → (rest i e s).after.bus.fits) :
    (limitRequest t a s rest).after.bus.fits := by
  unfold limitRequest
  split
  · exact h
  · refine ringFits_checkLevel h fun s h => ?_
    split
    · exact h
    · split
      · exact h
      · exact hrest _ _ s h

theorem ringFits_makePending {i : Nat} {e : LimitEntry} {c : LimitConfig} {s : State} (h : s.bus.fits) :
    (makePending i e c s).bus.fits := by
  unfold makePending
  dsimp only
  split
  · refine ringFits_interventionEvent ?_ (ringFits_breachReport ?_)
    · exact h
    · exact h
  · exact h

/-- A change of a limit that waits on its job. -/
theorem ringFits_carryLimit {t : Ticket} {i : Nat} {s : State} (h : s.bus.fits) :
    (carryLimit t i s).after.bus.fits := by
  simpa [carryLimit, Answer.after] using h

theorem keepsRing_readOwner : readOwner.KeepsRing := by
  intro t a s h
  unfold readOwner
  dsimp only
  split
  · exact h
  · exact h
  · split
    · exact h
    · show (if readsFree s (argNat a 0) (argU16 a 1) then useFree s else s).bus.fits
      split <;> exact h

theorem keepsRing_keyOwner : keyOwner.KeepsRing := by
  intro t a s h
  unfold keyOwner checkKey
  repeat' split
  all_goals exact h

theorem keepsRing_restartOwner : restartOwner.KeepsRing := by
  intro t a s h
  unfold restartOwner
  split
  · exact h
  · split
    · exact h
    · exact ringFits_checkLevel h fun _ h => h

theorem keepsRing_clearFaultsOwner : clearFaultsOwner.KeepsRing := by
  intro t a s h
  unfold clearFaultsOwner
  split
  · exact h
  · exact ringFits_checkLevel h fun _ h => h

theorem keepsRing_writeImageOwner : writeImageOwner.KeepsRing := by
  intro t a s h
  unfold writeImageOwner
  split
  · exact h
  · refine ringFits_checkLevel h fun s h => ?_
    repeat' split
    all_goals exact h

theorem keepsRing_ackWarningOwner : ackWarningOwner.KeepsRing := by
  intro t a s h
  unfold ackWarningOwner ackAllWarnings
  dsimp only
  repeat' split
  all_goals exact h

theorem keepsRing_teachLimitOwner : teachLimitOwner.KeepsRing := by
  intro t a s h
  refine ringFits_limitRequest h fun i e s h => ?_
  repeat' split
  case h_2.isFalse.isFalse => exact ringFits_carryLimit (ringFits_makePending h)
  all_goals exact h

theorem keepsRing_setLimitOwner : setLimitOwner.KeepsRing := by
  intro t a s h
  refine ringFits_limitRequest h fun i e s h => ?_
  repeat' split
  case h_2.isFalse.isFalse => exact ringFits_carryLimit (ringFits_makePending h)
  all_goals exact h

theorem keepsRing_enableLimitOwner : enableLimitOwner.KeepsRing := by
  intro t a s h
  refine ringFits_limitRequest h fun i e s h => ?_
  repeat' split
  case isFalse.isFalse => exact ringFits_carryLimit (ringFits_makePending h)
  all_goals exact h

theorem keepsRing_disableLimitOwner : disableLimitOwner.KeepsRing := by
  intro t a s h
  refine ringFits_limitRequest h fun i e s h => ?_
  repeat' split
  case isFalse.isFalse.isFalse =>
    refine ringFits_carryLimit ?_
    exact h
  all_goals exact h

theorem ringFits_releaseRecord {r : Record} {s : State} (h : s.bus.fits) : (releaseRecord r s).after.bus.fits := by
  unfold releaseRecord
  split
  · exact ringFits_interventionEvent h (by rwa [remove_bus])
  · exact h

theorem keepsRing_releaseOwner : releaseOwner.KeepsRing := by
  intro t a s h
  unfold releaseOwner
  dsimp only
  split
  · exact h
  · split
    · exact h
    · split
      · exact h
      · split
        · exact ringFits_checkLevel h fun _ h => ringFits_releaseRecord h
        · exact ringFits_releaseRecord h

theorem keepsRing_overrideOwner : overrideOwner.KeepsRing := by
  intro t a s h
  unfold overrideOwner
  dsimp only
  split
  · exact h
  · refine ringFits_checkLevel h fun s h => ?_
    split
    · exact h
    · split
      · exact h
      · split
        · exact h
        · exact ringFits_interventionEvent h (by rwa [change_bus])

theorem keepsRing_resumeOwner : resumeOwner.KeepsRing := by
  intro t a s h
  unfold resumeOwner
  split
  · exact h
  · refine ringFits_checkLevel h fun s h => ?_
    dsimp only
    split <;> exact h

theorem keepsRing_benchmarkOwner : benchmarkOwner.KeepsRing := by
  intro t a s h
  unfold benchmarkOwner setBenchmark
  split
  · exact h
  · refine ringFits_checkLevel h fun s h => ?_
    repeat' split
    all_goals exact h

theorem keepsRing_setGradeOwner : setGradeOwner.KeepsRing := by
  have hchange (t : Ticket) (i : Nat) (g : Option Segment) (s : State) (h : s.bus.fits) :
      (changeGrade t i g s).after.bus.fits := by
    unfold changeGrade
    split
    · exact h
    · simpa [Answer.after] using h
  intro t a s h
  unfold setGradeOwner
  dsimp only
  split
  · exact h
  · refine ringFits_checkLevel h fun s h => ?_
    split
    · exact h
    · split
      · split
        · exact hchange _ _ _ s h
        · exact h
      · split
        · exact hchange _ _ _ s h
        · exact h
      · exact h

theorem keepsRing_powerModeOwner : powerModeOwner.KeepsRing := by
  intro t a s h
  unfold powerModeOwner
  dsimp only
  repeat' split
  all_goals exact h

theorem keepsRing_tableRecallOwner : tableRecallOwner.KeepsRing := by
  have hrecall (i : Nat) (old new : Descriptor) (s : State) (h : s.bus.fits) :
      (doneRecall i old new s).after.bus.fits := by
    have hset : (setDescriptor i old new s).bus.fits := by rwa [setDescriptor_bus]
    simp only [doneRecall, accept, Answer.after, recallPose]
    split
    · exact ringFits_solveAndGrade hset
    · exact hset
  intro t a s h
  unfold tableRecallOwner
  dsimp only
  split
  · exact h
  · refine ringFits_checkLevel h fun s h => ?_
    split
    · exact h
    · split
      · exact h
      · split
        · exact hrecall _ _ _ s h
        · split
          · exact h
          · exact hrecall _ _ _ s h
        · exact h

theorem keepsRing_setClockOwner : setClockOwner.KeepsRing := by
  intro t a s h
  unfold setClockOwner
  split
  · exact h
  · refine ringFits_checkLevel h fun s h => ?_
    split
    · exact h
    · split
      · exact h
      · exact ringFits_setClockTo h

theorem keepsRing_setTrimOwner : setTrimOwner.KeepsRing := by
  intro t a s h
  unfold setTrimOwner
  dsimp only
  split
  · exact h
  · refine ringFits_checkLevel h fun s h => ?_
    split <;> exact h

theorem keepsRing_setMeterOwner : setMeterOwner.KeepsRing := by
  have hraise (t : Ticket) (n : Nat) (v : MeterValue) (s : State) (h : s.bus.fits) :
      (raiseMeter t n v s).after.bus.fits := by
    unfold raiseMeter
    dsimp only
    split
    · refine ringFits_announceMeter (ringFits_exhaustCheckpoints ?_)
      exact h
    · refine ringFits_announceMeter (ringFits_wantCheckpointFor ?_)
      exact h
  intro t a s h
  unfold setMeterOwner
  dsimp only
  split
  · exact h
  · refine ringFits_checkLevel h fun s h => ?_
    split
    · exact h
    · split
      · exact h
      · split
        · exact h
        · split
          · exact h
          · split
            · exact h
            · exact hraise _ _ _ s h

theorem keepsRing_serviceDoneOwner : serviceDoneOwner.KeepsRing := by
  intro t a s h
  unfold serviceDoneOwner
  dsimp only
  split
  · exact h
  · refine ringFits_checkLevel h fun s h => ?_
    split
    · split
      · exact h
      · split
        · exact h
        · simpa [Answer.after] using h
    · exact h

theorem keepsRing_ackReminderOwner : ackReminderOwner.KeepsRing := by
  intro t a s h
  unfold ackReminderOwner ackAllReminders
  dsimp only
  repeat' split
  all_goals exact h

/-- Every code's owner leaves the ring within its places. -/
theorem keepsRing_ownerOf (code : Byte) (own : Owner) (h : ownerOf code = some own) : own.KeepsRing := by
  unfold ownerOf at h
  split at h
  all_goals cases h
  exacts [keepsRing_readOwner, keepsRing_keyOwner, keepsRing_restartOwner, keepsRing_clearFaultsOwner,
    keepsRing_writeImageOwner, keepsRing_ackWarningOwner, keepsRing_teachLimitOwner, keepsRing_setLimitOwner,
    keepsRing_enableLimitOwner, keepsRing_disableLimitOwner, keepsRing_releaseOwner, keepsRing_overrideOwner,
    keepsRing_resumeOwner, keepsRing_benchmarkOwner, keepsRing_setGradeOwner, keepsRing_powerModeOwner,
    keepsRing_tableRecallOwner, keepsRing_setClockOwner, keepsRing_setTrimOwner, keepsRing_setMeterOwner,
    keepsRing_serviceDoneOwner, keepsRing_ackReminderOwner]

section
variable {s : State} (h : s.bus.fits)
include h

theorem ringFits_repeatRequest {e : SubEntry} : (repeatRequest e s).bus.fits := by
  unfold repeatRequest
  split
  · exact h
  · split
    · exact h
    · refine fits_queueReply ?_ _
      unfold noteRequeued
      split <;> exact h

theorem ringFits_judgeRequest {code : Byte} {owner : Option Owner} (hown : ∀ own, owner = some own → own.KeepsRing)
    {t : Ticket} {r : Request} : (judgeRequest code owner t r s).bus.fits := by
  unfold judgeRequest
  cases owner with
  | none => exact ringFits_sendReply h
  | some own =>
    have hafter := hown own rfl t r.args s h
    dsimp only
    repeat' split
    case h_1 res data u hanswer => exact ringFits_sendReply (by rwa [hanswer] at hafter)
    case h_2 u hanswer => rwa [hanswer] at hafter
    all_goals exact ringFits_sendReply h

theorem ringFits_takeRequest {code : Byte} {owner : Option Owner} (hown : ∀ own, owner = some own → own.KeepsRing)
    {r : Request} : (takeRequest code owner r s).bus.fits := by
  unfold takeRequest newRequest
  dsimp only
  split
  · exact h
  · split
    · exact h
    · split
      · refine ringFits_repeatRequest ?_
        exact h
      · split
        · refine ringFits_sendReply ?_
          rwa [requestTag_bus]
        · refine ringFits_judgeRequest ?_ hown
          rwa [requestTag_bus]

theorem ringFits_takeByCode {code : Option Byte} {r : Request} : (takeByCode code r s).bus.fits := by
  unfold takeByCode
  split
  · exact ringFits_takeRequest h (keepsRing_ownerOf _)
  · refine ringFits_takeRequest ?_ fun own hown => ?_
    · exact h
    · cases hown

theorem ringFits_takeFragment {st : Nat} {f : Frame} : (takeFragment st f s).bus.fits := by
  unfold takeFragment
  split
  · exact h
  · split
    · exact h
    · split
      · split
        · exact ringFits_takeByCode h
        · exact h
      · exact h

/-! ## Starts and supplies (R181 to R186) -/

theorem ringFits_takeKeyOff : (takeKeyOff s).bus.fits := by
  have hfinal : (wantCheckpoint (setMeterUnit { s.meter with keyOffTaken := true } s)).bus.fits := by
    refine ringFits_wantCheckpoint ?_
    exact h
  rw [takeKeyOff_eq]
  dsimp only
  split
  · rwa [wantDayJob_bus]
  · exact hfinal

theorem ringFits_endStart {clash : Bool} : (endStart clash s).bus.fits := by
  have hkeyOff (t : State) (ht : t.bus.fits) : (thenKeyOff t).bus.fits := by
    unfold thenKeyOff
    split
    · refine ringFits_takeKeyOff ?_
      exact ht
    · exact ht
  rw [endStart_eq]
  refine hkeyOff _ ?_
  unfold entered
  split
  · exact h
  · refine ringFits_offerOwedTimes ?_
    exact h

omit h in
/-- A start empties the ring. -/
theorem fits_startBuilt (s : State) : (startBuilt s).bus.fits := by
  cases himage : acceptedImage (startBase s) with
  | none =>
    rw [startBuilt_bad s himage]
    exact Nat.zero_le 8
  | some f =>
    rw [startBuilt_good s f himage]
    exact Nat.zero_le 8

omit h in
theorem fits_beginStart (s : State) : (beginStart s).bus.fits := by
  rw [beginStart_eq]
  split
  · exact fits_startBuilt s
  · exact ringFits_endStart (fits_startBuilt s)

omit h in
theorem fits_enterKeepAlive (s : State) : (enterKeepAlive s).bus.fits := Nat.zero_le 8

theorem ringFits_startIfKeyOn : (startIfKeyOn s).bus.fits := by
  unfold startIfKeyOn
  split
  · exact fits_beginStart s
  · exact h

theorem ringFits_clashHeard {n : Nat} : (clashHeard n s).bus.fits := by
  unfold clashHeard
  dsimp only
  split
  · exact h
  · split
    · refine ringFits_endStart ?_
      exact h
    · split
      · split
        · refine ringFits_enterHold ?_
          exact h
        · exact h
      · exact h

theorem ringFits_batteryConnected {keyOn : Bool} {straps : BitVec 5} : (batteryConnected keyOn straps s).bus.fits := by
  unfold batteryConnected
  split
  · refine ringFits_startIfKeyOn ?_
    exact h
  · exact h

theorem ringFits_keepAliveLost : (keepAliveLost s).bus.fits := by
  unfold keepAliveLost
  split
  · exact h
  · exact Nat.zero_le 8

theorem ringFits_mainSupplyLost : (mainSupplyLost s).bus.fits := by
  unfold mainSupplyLost
  split
  · exact fits_enterKeepAlive _
  · exact h

theorem ringFits_keyTurnedOn {straps : BitVec 5} : (keyTurnedOn straps s).bus.fits := by
  unfold keyTurnedOn
  dsimp only
  split
  · exact fits_beginStart _
  · exact h

theorem ringFits_keyTurnedOff : (keyTurnedOff s).bus.fits := by
  unfold keyTurnedOff
  dsimp only
  split
  · split
    · exact h
    · refine ringFits_takeKeyOff ?_
      exact h
  · split <;> exact h

theorem ringFits_supplyDropped : (supplyDropped s).bus.fits := by
  unfold supplyDropped
  dsimp only
  split
  · split
    · refine ringFits_urgentCheckpoint ?_
      exact h
    · exact h
  · exact h

theorem ringFits_shutdownCompleted : (shutdownCompleted s).bus.fits := by
  unfold shutdownCompleted
  split
  · exact ringFits_startIfKeyOn (fits_enterKeepAlive s)
  · exact h

theorem ringFits_restartBegun : (restartBegun s).bus.fits := by
  unfold restartBegun
  split
  · exact fits_beginStart s
  · exact h

theorem ringFits_listenEnded : (listenEnded s).bus.fits := by
  unfold listenEnded
  split
  · exact ringFits_endStart h
  · exact h

end

/-! ## Every command -/

/-- A command's event leaves the ring within its places. -/
def RingFitsAfter (o : Host.Outcome State Fault Refusal) : Prop := ∀ t, o = .next t → t.bus.fits

theorem ringFits_finish {b u : State} (h : u.bus.fits) : RingFitsAfter (finish b u) := by
  rintro _ ⟨⟩
  exact fits_settle.2 h

section
variable {s : State} (h : s.bus.fits)
include h

theorem ringFits_request {code : Byte} {own : Owner} (hown : own.KeepsRing) (r : Request) :
    RingFitsAfter (finish s (takeRequest code (some own) r s)) :=
  ringFits_finish (ringFits_takeRequest h fun _ h' => Option.some.inj h' ▸ hown)

/-- An expiry, or the end of a write, where it is due. -/
theorem ringFits_whereDue {b : Prop} [Decidable b] {u : State} (hu : u.bus.fits) :
    RingFitsAfter (finish s (if b then u else s)) := by
  refine ringFits_finish ?_
  split
  · exact hu
  · exact h

/-- An effect that leaves the Bus Interface Unit alone. -/
theorem ringFits_untouched {b u : State} (hu : u.bus = s.bus) : RingFitsAfter (finish b u) :=
  ringFits_finish (hu ▸ h)

/-- Every command's event leaves the ring within its places. -/
theorem ringFits_exec (c : Instr) : RingFitsAfter (exec c s) :=
  match c with
  | .read r => ringFits_request h keepsRing_readOwner r
  | .key r => ringFits_request h keepsRing_keyOwner r
  | .restart r => ringFits_request h keepsRing_restartOwner r
  | .clearFaults r => ringFits_request h keepsRing_clearFaultsOwner r
  | .writeImage r => ringFits_request h keepsRing_writeImageOwner r
  | .ackWarning r => ringFits_request h keepsRing_ackWarningOwner r
  | .teachLimit r => ringFits_request h keepsRing_teachLimitOwner r
  | .setLimit r => ringFits_request h keepsRing_setLimitOwner r
  | .enableLimit r => ringFits_request h keepsRing_enableLimitOwner r
  | .disableLimit r => ringFits_request h keepsRing_disableLimitOwner r
  | .release r => ringFits_request h keepsRing_releaseOwner r
  | .override r => ringFits_request h keepsRing_overrideOwner r
  | .resume r => ringFits_request h keepsRing_resumeOwner r
  | .benchmark r => ringFits_request h keepsRing_benchmarkOwner r
  | .setGrade r => ringFits_request h keepsRing_setGradeOwner r
  | .powerMode r => ringFits_request h keepsRing_powerModeOwner r
  | .tableRecall r => ringFits_request h keepsRing_tableRecallOwner r
  | .setClock r => ringFits_request h keepsRing_setClockOwner r
  | .setTrim r => ringFits_request h keepsRing_setTrimOwner r
  | .setMeter r => ringFits_request h keepsRing_setMeterOwner r
  | .serviceDone r => ringFits_request h keepsRing_serviceDoneOwner r
  | .ackReminder r => ringFits_request h keepsRing_ackReminderOwner r
  | .unknownRequestCode _ _ => ringFits_finish (ringFits_takeByCode h)
  | .requestFragment _ _ => ringFits_finish (ringFits_takeFragment h)
  | .poseInputArrival _ _ | .engineRun _ | .engineFuel _ | .coolant _ | .pump _ | .pilot _ | .valveCut _ | .extCut _ _
  | .timeSync _ => ringFits_finish (ringFits_takeFrame h)
  | .topicClash _ => ringFits_finish (ringFits_clashHeard h)
  | .staleLimitPassed _ => ringFits_finish (ringFits_staleEntry h)
  | .lostLimitPassed _ => ringFits_finish (ringFits_lostEntry h)
  | .degradedTimerExpiry => ringFits_whereDue h (ringFits_degradedExpired h)
  | .confirmTimerExpiry => ringFits_whereDue h (ringFits_confirmExpired h)
  | .overrideTimerExpiry _ =>
    ringFits_whereDue h (ringFits_interventionEvent h (ringFits_overrideExpired (w := ⟨s, []⟩) h))
  | .stageTimerExpiry => ringFits_whereDue h ((stageExpired_bus s).symm ▸ h)
  | .waitTimerExpiry => ringFits_whereDue h ((waitExpired_bus s).symm ▸ h)
  | .shutdownTimerExpiry => ringFits_whereDue h ((shutdownExpired_bus s).symm ▸ h)
  | .resumeTimerExpiry => ringFits_whereDue h ((resumeExpired_bus s).symm ▸ h)
  | .grantExpiry _ | .lockoutExpiry _ => ringFits_untouched h rfl
  | .cutDemandPeriod | .guidancePeriod | .engineReqPeriod | .metersPeriod | .statusPeriod =>
    ringFits_finish (ringFits_periodic h)
  | .clockCount => ringFits_finish (ringFits_clockCounted h)
  | .oscillatorStop => ringFits_untouched h (oscillatorStopped_bus s)
  | .oscillatorRestart => ringFits_untouched h (oscillatorRestarted_bus s)
  | .supplyDrop => ringFits_finish (ringFits_supplyDropped h)
  | .detectorRearm => ringFits_untouched h (detectorRearmed_bus s)
  | .storeWriteComplete => ringFits_whereDue h (ringFits_writeCompleted h)
  | .frameTransmitted => ringFits_finish (ringFits_frameSent h)
  | .transmitAttemptFailed _ => ringFits_finish (ringFits_attemptFailed h)
  | .busOff => ringFits_finish (ringFits_busWentOff h)
  | .busRecovery => ringFits_finish (ringFits_busRecovered h)
  | .batteryConnect _ _ => ringFits_finish (ringFits_batteryConnected h)
  | .keepAliveSupplyLoss => ringFits_finish (ringFits_keepAliveLost h)
  | .mainSupplyLoss => ringFits_finish (ringFits_mainSupplyLost h)
  | .keyOn _ => ringFits_finish (ringFits_keyTurnedOn h)
  | .keyOff => ringFits_finish (ringFits_keyTurnedOff h)
  | .shutdownComplete => ringFits_finish (ringFits_shutdownCompleted h)
  | .restartBegin => ringFits_finish (ringFits_restartBegun h)
  | .listenEnd => ringFits_finish (ringFits_listenEnded h)

end

theorem ringLaw_iff (s : State) : ringLaw s = true ↔ s.bus.fits := decide_eq_true_iff

/-- Settles O8: every command leaves the ring within its places, and time's passing leaves it alone. -/
theorem stepKeepsRingLaw : Obligations.StepKeepsRingLaw := by
  intro s t hs hstep
  rw [ringLaw_iff] at hs ⊢
  unfold step at hstep
  split at hstep
  next c rest _ => exact ringFits_exec (s := { s with pending := rest }) hs c t hstep
  next =>
    cases hstep
    rwa [tick_bus]

end Sys2Proof.Machine
end

section
/-! PROOFS. A report over the Diagnostic List: the entries that it leaves in each case, the mark of a refused condition,
and the laws of the list with its unentered conditions, which a report keeps (R173, R175, R177, R178). -/

namespace Sys2Proof.Machine

/-! ## The conditions that a list names -/

/-- The condition that an entry is of. -/
def FaultEntry.condition (e : FaultEntry) : FaultCode × FaultSource := (e.code, e.source)

/-- The conditions that a list names, in its order. -/
def conditions (l : List FaultEntry) : List (FaultCode × FaultSource) := l.map FaultEntry.condition

theorem any_names_iff (code : FaultCode) (src : FaultSource) (l : List FaultEntry) :
    l.any (FaultEntry.names code src) = true ↔ (code, src) ∈ conditions l := by
  simp [conditions, FaultEntry.condition, FaultEntry.names]

theorem any_names_eq_false_iff (code : FaultCode) (src : FaultSource) (l : List FaultEntry) :
    l.any (FaultEntry.names code src) = false ↔ (code, src) ∉ conditions l := by
  rw [← any_names_iff, Bool.not_eq_true]

theorem distinctFaults_iff (l : List FaultEntry) : distinctFaults l = true ↔ (conditions l).Nodup := by
  induction l with
  | nil => simp [distinctFaults, conditions]
  | cons e l ih =>
    rw [conditions, List.map_cons, List.nodup_cons, distinctFaults, Bool.and_eq_true, Bool.not_eq_true',
      any_names_eq_false_iff, ih]
    rfl

theorem eraseFirst_eq_eraseP {α : Type} (p : α → Bool) (l : List α) : eraseFirst p l = l.eraseP p := by
  induction l with
  | nil => rfl
  | cons x l ih =>
    rw [eraseFirst, ih, List.eraseP_cons]
    cases p x <;> rfl

/-- A change of entries that leaves their names leaves the conditions. -/
theorem conditions_mapWhere (p : FaultEntry → Bool) (f : FaultEntry → FaultEntry)
    (hf : ∀ e, (f e).condition = e.condition) (l : List FaultEntry) : conditions (mapWhere p f l) = conditions l := by
  simp only [conditions, mapWhere, List.map_map]
  refine List.map_congr_left fun e _ => ?_
  show (if p e = true then f e else e).condition = e.condition
  split
  · exact hf e
  · rfl

/-! ## What a report leaves (R175) -/

/-- The entry that a report makes. -/
def enteredFault (code : FaultCode) (src : FaultSource) (stamp : Option ClockTime) : FaultEntry :=
  ⟨code, src, true, 1, stamp, stamp⟩

/-- The entries with a listed condition reported again. -/
def renewedEntries (code : FaultCode) (src : FaultSource) (stamp : Option ClockTime) (l : List FaultEntry) :
    List FaultEntry :=
  mapWhere (FaultEntry.names code src)
    (fun e => { e with active := true, occurrences := satAdd 255 e.occurrences 1, lastTime := stamp }) l

section
variable {l m : List FaultEntry} {code : FaultCode} {src : FaultSource} {stamp : Option ClockTime}

theorem takeReport_listed (h : l.any (FaultEntry.names code src) = true) :
    takeReport l code src stamp = some (renewedEntries code src stamp l) :=
  if_pos h

theorem takeReport_appends (hnew : l.any (FaultEntry.names code src) = false) (hroom : l.length < 20) :
    takeReport l code src stamp = some (l ++ [enteredFault code src stamp]) :=
  (if_neg (by simp [hnew])).trans (if_pos hroom)

/-- A report of a condition that is not listed appends its entry to the list or to what is left without one. -/
theorem takeReport_unlisted (hnew : (code, src) ∉ conditions l) (ht : takeReport l code src stamp = some m) :
    ∃ kept, kept.Sublist l ∧ m = kept ++ [enteredFault code src stamp] := by
  have hnames := (any_names_eq_false_iff ..).2 hnew
  rcases Nat.lt_or_ge l.length 20 with hroom | hfull
  · rw [takeReport_appends hnames hroom] at ht
    exact ⟨l, List.Sublist.refl l, (Option.some.inj ht).symm⟩
  · unfold takeReport at ht
    dsimp only at ht
    rw [if_neg (by simp [hnames]), if_neg (by omega)] at ht
    split at ht
    · exact ⟨_, eraseFirst_eq_eraseP _ l ▸ List.eraseP_sublist, (Option.some.inj ht).symm⟩
    · cases ht

/-- A report is refused where the condition is not listed and the list is full of Active entries. -/
theorem takeReport_eq_none (h : takeReport l code src stamp = none) :
    (code, src) ∉ conditions l ∧ 20 ≤ l.length ∧ l.all (·.active) = true := by
  unfold takeReport at h
  dsimp only at h
  split at h
  · cases h
  next hnew =>
    split at h
    · cases h
    next hfull =>
      split at h
      · cases h
      next hactive =>
        refine ⟨fun hlisted => hnew ((any_names_iff ..).2 hlisted), by omega, ?_⟩
        simpa using hactive

theorem conditions_renewedEntries : conditions (renewedEntries code src stamp l) = conditions l := by
  refine conditions_mapWhere _ _ (fun _ => ?_) l
  rfl

theorem length_renewedEntries : (renewedEntries code src stamp l).length = l.length := by
  simp [renewedEntries, mapWhere]

theorem active_renewedEntries (h : l.all (·.active) = true) :
    (renewedEntries code src stamp l).all (·.active) = true := by
  simp only [renewedEntries, mapWhere, List.all_map, List.all_eq_true, Function.comp_apply] at h ⊢
  intro e he
  split
  · rfl
  · exact h e he

theorem renewedEntries_eq : renewedEntries code src stamp l
    = l.map fun e => if e.code = code ∧ e.source = src then
        { e with active := true, lastTime := stamp,
                 occurrences := if 255 < e.occurrences + 1 then 255 else e.occurrences + 1 } else e := by
  simp only [renewedEntries, mapWhere, names_iff, satAdd]

theorem conditions_append_entered (kept : List FaultEntry) :
    conditions (kept ++ [enteredFault code src stamp]) = conditions kept ++ [(code, src)] :=
  List.map_append

/-- A report names no condition but its own beside those listed. -/
theorem mem_conditions_takeReport (ht : takeReport l code src stamp = some m) {c : FaultCode × FaultSource}
    (hc : c ∈ conditions m) : c ∈ conditions l ∨ c = (code, src) := by
  by_cases hlisted : (code, src) ∈ conditions l
  · rw [takeReport_listed ((any_names_iff ..).2 hlisted)] at ht
    cases ht
    exact .inl (conditions_renewedEntries ▸ hc)
  · obtain ⟨kept, hkept, rfl⟩ := takeReport_unlisted hlisted ht
    rw [conditions_append_entered, List.mem_append, List.mem_singleton] at hc
    exact hc.imp_left fun h => (hkept.map _).subset h

theorem nodup_conditions_takeReport (h : (conditions l).Nodup) (ht : takeReport l code src stamp = some m) :
    (conditions m).Nodup := by
  by_cases hlisted : (code, src) ∈ conditions l
  · rw [takeReport_listed ((any_names_iff ..).2 hlisted)] at ht
    cases ht
    rwa [conditions_renewedEntries]
  · obtain ⟨kept, hkept, rfl⟩ := takeReport_unlisted hlisted ht
    have hsub : (conditions kept).Sublist (conditions l) := hkept.map _
    rw [conditions_append_entered, ← List.concat_eq_append]
    exact (h.sublist hsub).concat fun hmem => hlisted (hsub.subset hmem)

end

section
variable {d : DiagnosticList} {m : List FaultEntry} {stamp : Option ClockTime} {code : FaultCode} {src : FaultSource}
  {marked : Bool}

theorem reportTo_taken (ht : takeReport d.entries code src stamp = some m) :
    reportTo d stamp code src marked = formDiag m (d.unentered.erase (code, src)) := by
  rw [reportTo, ht]

theorem reportTo_refused (ht : takeReport d.entries code src stamp = none) :
    reportTo d stamp code src marked = { d with unentered :=
      if marked = true ∧ (code, src) ∉ d.unentered then d.unentered ++ [(code, src)] else d.unentered } := by
  rw [reportTo, ht]
  by_cases h : marked = true ∧ (code, src) ∉ d.unentered
  · obtain ⟨rfl, hnew⟩ := h
    simp [hnew]
  · simp only [Bool.and_eq_true, Bool.not_eq_true', List.contains_eq_mem, decide_eq_false_iff_not]
    rw [if_neg h, if_neg h]

end

/-! ## The laws of the list -/

/-- R173 and R178, as `faultLaw` has them. -/
structure DiagnosticList.Lawful (d : DiagnosticList) : Prop where
  size : d.entries.length ≤ 20
  distinct : (conditions d.entries).Nodup
  attention : d.attention = attentionOf d.entries

/-- R177, as `unenteredLaw` has it. -/
structure DiagnosticList.Waits (d : DiagnosticList) : Prop where
  nodup : d.unentered.Nodup
  unlisted : ∀ c ∈ d.unentered, c ∉ conditions d.entries
  full : d.unentered ≠ [] → d.entries.length = 20 ∧ d.entries.all (·.active) = true

theorem faultLaw_iff (s : State) : faultLaw s = true ↔ s.diag.Lawful := by
  rw [faultLaw, Bool.and_eq_true, Bool.and_eq_true, decide_eq_true_eq, distinctFaults_iff, beq_iff_eq]
  exact ⟨fun ⟨⟨hsize, hdistinct⟩, hattention⟩ => ⟨hsize, hdistinct, hattention⟩,
    fun h => ⟨⟨h.size, h.distinct⟩, h.attention⟩⟩

theorem unenteredLaw_iff (s : State) : unenteredLaw s = true ↔ s.diag.Waits := by
  have hunlisted : (s.diag.unentered.all fun c => !s.diag.entries.any (FaultEntry.names c.1 c.2)) = true
      ↔ ∀ c ∈ s.diag.unentered, c ∉ conditions s.diag.entries := by
    simp only [List.all_eq_true, Bool.not_eq_true', any_names_eq_false_iff]
  rw [unenteredLaw, Bool.and_eq_true, Bool.and_eq_true, decide_eq_true_eq, hunlisted, Bool.or_eq_true,
    List.isEmpty_iff, Bool.and_eq_true, beq_iff_eq, or_iff_not_imp_left]
  exact ⟨fun ⟨⟨hnodup, hnew⟩, hfull⟩ => ⟨hnodup, hnew, hfull⟩, fun h => ⟨⟨h.nodup, h.unlisted⟩, h.full⟩⟩

/-- A list that no condition waits on meets R177. -/
theorem DiagnosticList.Waits.of_nil {d : DiagnosticList} (h : d.unentered = []) : d.Waits where
  nodup := h ▸ List.nodup_nil
  unlisted := by simp [h]
  full hwait := absurd h hwait

section
variable {d : DiagnosticList} {m : List FaultEntry} {stamp : Option ClockTime} {code : FaultCode} {src : FaultSource}

/-- A report that is taken leaves a lawful list. -/
theorem DiagnosticList.Lawful.taken (h : d.Lawful) (ht : takeReport d.entries code src stamp = some m)
    (w : List (FaultCode × FaultSource)) : (formDiag m w).Lawful :=
  ⟨length_takeReport _ _ _ _ _ h.size ht, nodup_conditions_takeReport h.distinct ht, rfl⟩

/-- A condition that a report enters is unentered no more, and the others are not listed by it. -/
theorem unlisted_taken (hnodup : d.unentered.Nodup) (hnew : ∀ c ∈ d.unentered, c ∉ conditions d.entries)
    (ht : takeReport d.entries code src stamp = some m) : ∀ c ∈ d.unentered.erase (code, src), c ∉ conditions m := by
  intro c hc hlisted
  obtain ⟨hne, hc⟩ := hnodup.mem_erase_iff.1 hc
  exact (mem_conditions_takeReport ht hlisted).elim (hnew c hc) hne

theorem DiagnosticList.Lawful.reportTo (h : d.Lawful) (marked : Bool) : (reportTo d stamp code src marked).Lawful := by
  cases ht : takeReport d.entries code src stamp with
  | some m =>
    rw [reportTo_taken ht]
    exact h.taken ht _
  | none =>
    rw [reportTo_refused ht]
    exact ⟨h.size, h.distinct, h.attention⟩

/-- A report keeps R177: while conditions wait it is taken of a listed one alone, and a condition that it marks finds
the list full of Active entries. -/
theorem DiagnosticList.Waits.reportTo (hlaw : d.Lawful) (h : d.Waits) (marked : Bool) :
    (reportTo d stamp code src marked).Waits := by
  cases ht : takeReport d.entries code src stamp with
  | some m =>
    rw [reportTo_taken ht]
    refine ⟨h.nodup.erase _, unlisted_taken h.nodup h.unlisted ht, fun hwait => ?_⟩
    have hbefore : d.unentered ≠ [] := fun hnil => hwait (by simp [formDiag, hnil])
    obtain ⟨hlength, hactive⟩ := h.full hbefore
    have hlisted : d.entries.any (FaultEntry.names code src) = true := by
      by_contra hnew
      rw [takeReport_refused _ _ _ _ (Bool.not_eq_true _ ▸ hnew) hlength hactive] at ht
      cases ht
    rw [takeReport_listed hlisted] at ht
    cases ht
    exact ⟨length_renewedEntries.trans hlength, active_renewedEntries hactive⟩
  | none =>
    obtain ⟨hnew, hfull, hactive⟩ := takeReport_eq_none ht
    rw [reportTo_refused ht]
    have hstands : d.entries.length = 20 ∧ d.entries.all (·.active) = true := ⟨hlaw.size.antisymm hfull, hactive⟩
    by_cases hmark : marked = true ∧ (code, src) ∉ d.unentered
    · rw [if_pos hmark]
      refine ⟨List.concat_eq_append ▸ h.nodup.concat hmark.2, fun c hc => ?_, fun _ => hstands⟩
      rcases List.mem_append.1 hc with hc | hc
      · exact h.unlisted c hc
      · exact List.mem_singleton.1 hc ▸ hnew
    · rw [if_neg hmark]
      exact ⟨h.nodup, h.unlisted, fun _ => hstands⟩

end

/-! ## The statement -/

theorem report_diag_eq (code : FaultCode) (src : FaultSource) (s : State) : (report code src s).diag
    = reportTo s.diag (if s.time.unsetCause = none then some s.time.clock else none) code src true := by
  rw [report_diag, stampNow_eq]

/-- A report is taken where its condition is listed, the list has room, or an entry is Inactive. -/
theorem takeReport_isSome {l : List FaultEntry} {code : FaultCode} {src : FaultSource} (stamp : Option ClockTime)
    (h : l.any (FaultEntry.names code src) = true ∨ l.length < 20 ∨ l.any (fun e => !e.active) = true) :
    ∃ m, takeReport l code src stamp = some m := by
  cases ht : takeReport l code src stamp with
  | some m => exact ⟨m, rfl⟩
  | none =>
    obtain ⟨hnew, hfull, hactive⟩ := takeReport_eq_none ht
    rcases h with hlisted | hroom | hinactive
    · exact absurd ((any_names_iff ..).1 hlisted) hnew
    · omega
    · obtain ⟨e, he, hend⟩ := List.any_eq_true.1 hinactive
      simp [List.all_eq_true.1 hactive e he] at hend

/-- Settles O29, from what a report leaves in each of R175's cases. -/
theorem reportTaken : Obligations.ReportTaken := by
  intro s code src hlaw stamp t l fresh
  have hdiag : t.diag = reportTo s.diag stamp code src true := report_diag_eq code src s
  have htaken {m : List FaultEntry} (ht : takeReport l code src stamp = some m) : t.diag.entries = m := by
    rw [hdiag, reportTo_taken ht]
    rfl
  refine ⟨rfl, ?_, fun h => ?_, fun hlisted => ?_, fun hnew hroom => htaken (takeReport_appends hnew hroom),
    fun hnew hfull hinactive => htaken (takeReport_replaces l code src stamp hnew hfull hinactive),
    fun hnew hfull hactive => ?_⟩
  · rw [hdiag]
    exact (((faultLaw_iff s).1 hlaw).reportTo true).attention
  · obtain ⟨m, ht⟩ := takeReport_isSome stamp h
    rw [hdiag, reportTo_taken ht]
    rfl
  · rw [htaken (takeReport_listed hlisted), renewedEntries_eq]
  · rw [hdiag, reportTo_refused (takeReport_refused l code src stamp hnew hfull hactive)]
    refine ⟨rfl, ?_⟩
    by_cases hmarked : (code, src) ∈ s.diag.unentered
    · rw [if_pos hmarked]
      exact if_neg fun h => h.2 hmarked
    · rw [if_neg hmarked]
      exact if_pos ⟨rfl, hmarked⟩

end Sys2Proof.Machine
end

section
/-! PROOFS. The end of a condition, the offering of places and CLEAR_FAULTS keep the laws of the Diagnostic List and of
its unentered conditions (R173, R176 to R179). -/

namespace Sys2Proof.Machine

/-! ## The offering of places (R177) -/

theorem lowestUnentered_eq_none {w : List (FaultCode × FaultSource)} (h : lowestUnentered w = none) : w = [] := by
  cases w with
  | nil => rfl
  | cons c w =>
    unfold lowestUnentered at h
    split at h
    · cases h
    · split at h <;> cases h

theorem DiagnosticList.Lawful.offerPlaces {d : DiagnosticList} (h : d.Lawful) (stamp : Option ClockTime) (n : Nat) :
    (offerPlaces stamp n d).Lawful := by
  induction n generalizing d with
  | zero => exact h
  | succ n ih =>
    unfold Machine.offerPlaces
    split
    · exact h
    · split
      · exact h
      next ht => exact ih (h.taken ht _)

/-- The offering ends where no condition waits, or the list is full of Active entries: each place taken leaves one
condition fewer, and a refusal finds the list full. -/
theorem DiagnosticList.Waits.of_offerPlaces {d : DiagnosticList} (stamp : Option ClockTime) (n : Nat) (hlaw : d.Lawful)
    (hnodup : d.unentered.Nodup) (hnew : ∀ c ∈ d.unentered, c ∉ conditions d.entries) (hn : d.unentered.length ≤ n) :
    (offerPlaces stamp n d).Waits := by
  induction n generalizing d with
  | zero => exact .of_nil (List.eq_nil_of_length_eq_zero (Nat.le_zero.1 hn))
  | succ n ih =>
    unfold Machine.offerPlaces
    split
    next hnone => exact .of_nil (lowestUnentered_eq_none hnone)
    next c hc =>
      split
      next ht =>
        obtain ⟨-, hfull, hactive⟩ := takeReport_eq_none ht
        exact ⟨hnodup, hnew, fun _ => ⟨hlaw.size.antisymm hfull, hactive⟩⟩
      next m ht =>
        refine ih (hlaw.taken ht _) (hnodup.erase _) (unlisted_taken hnodup hnew ht) ?_
        have hfewer := List.length_erase_of_mem (lowestUnentered_mem _ c hc)
        show (d.unentered.erase c).length ≤ n
        omega

/-! ## The end of a condition (R176) -/

theorem conditions_endedEntries (code : FaultCode) (src : FaultSource) (l : List FaultEntry) :
    conditions (endedEntries code src l) = conditions l := by
  refine conditions_mapWhere _ _ (fun _ => ?_) l
  rfl

theorem DiagnosticList.Lawful.ended {d : DiagnosticList} (h : d.Lawful) (code : FaultCode) (src : FaultSource) :
    (formDiag (endedEntries code src d.entries) d.unentered).Lawful where
  size := (length_endedEntries ..).trans_le h.size
  distinct := (conditions_endedEntries ..).symm ▸ h.distinct
  attention := rfl

/-- What the end of a condition leaves: its mark goes, or its entry, and then places may be offered, or nothing
changes. -/
theorem endIn_cases {d : DiagnosticList} (h : d.Lawful) (stamp : Option ClockTime) (code : FaultCode)
    (src : FaultSource) :
    endIn d stamp code src = { d with unentered := d.unentered.erase (code, src) }
      ∨ (let ended := formDiag (endedEntries code src d.entries) d.unentered
        endIn d stamp code src = if (endedEntries code src d.entries).length < 20 then ended
          else offerPlaces stamp d.unentered.length ended)
      ∨ endIn d stamp code src = d := by
  by_cases hlisted : (code, src) ∈ conditions d.entries
  · obtain ⟨e, he, hname⟩ := List.mem_map.1 hlisted
    cases hname
    have hdistinct := (distinctFaults_iff _).2 h.distinct
    cases hactive : e.active
    · exact .inr (.inr (endIn_inactive d stamp e he hdistinct hactive))
    · exact .inr (.inl (endIn_active d stamp e he hdistinct hactive))
  · exact .inl (endIn_unlisted d stamp code src ((any_names_eq_false_iff ..).2 hlisted))

theorem DiagnosticList.Lawful.endIn {d : DiagnosticList} (h : d.Lawful) (stamp : Option ClockTime) (code : FaultCode)
    (src : FaultSource) : (endIn d stamp code src).Lawful := by
  rcases endIn_cases h stamp code src with hend | hend | hend <;> rw [hend]
  · exact ⟨h.size, h.distinct, h.attention⟩
  · split
    · exact h.ended code src
    · exact (h.ended code src).offerPlaces stamp _
  · exact h

theorem DiagnosticList.Waits.endIn {d : DiagnosticList} (hlaw : d.Lawful) (h : d.Waits) (stamp : Option ClockTime)
    (code : FaultCode) (src : FaultSource) : (endIn d stamp code src).Waits := by
  rcases endIn_cases hlaw stamp code src with hend | hend | hend <;> rw [hend]
  · refine ⟨h.nodup.erase _, fun c hc => h.unlisted c (List.mem_of_mem_erase hc), fun hwait => h.full fun hnil => ?_⟩
    exact hwait (by simp [hnil])
  · split
    next hroom =>
      refine .of_nil (by_contra fun hwait => ?_)
      rw [length_endedEntries, (h.full hwait).1] at hroom
      exact Nat.lt_irrefl _ hroom
    next =>
      refine .of_offerPlaces stamp _ (hlaw.ended code src) h.nodup (fun c hc => ?_) le_rfl
      exact (conditions_endedEntries code src d.entries).symm ▸ h.unlisted c hc
  · exact h

/-! ## CLEAR_FAULTS (R179) -/

theorem DiagnosticList.Lawful.cleared {d : DiagnosticList} (h : d.Lawful) :
    (formDiag (d.entries.filter (·.active)) d.unentered).Lawful where
  size := (List.length_filter_le ..).trans h.size
  distinct := h.distinct.sublist (List.filter_sublist.map _)
  attention := rfl

theorem DiagnosticList.Lawful.clearInactive {d : DiagnosticList} (h : d.Lawful) (stamp : Option ClockTime) :
    (clearInactive d stamp).Lawful := by
  unfold Machine.clearInactive
  dsimp only
  split
  · exact h.cleared.offerPlaces stamp _
  · exact h.cleared

theorem DiagnosticList.Waits.clearInactive {d : DiagnosticList} (hlaw : d.Lawful) (h : d.Waits)
    (stamp : Option ClockTime) : (clearInactive d stamp).Waits := by
  have hnew : ∀ c ∈ d.unentered, c ∉ conditions (d.entries.filter (·.active)) := fun c hc hlisted =>
    h.unlisted c hc ((List.filter_sublist.map _).subset hlisted)
  unfold Machine.clearInactive
  dsimp only
  split
  · exact .of_offerPlaces stamp _ hlaw.cleared h.nodup hnew le_rfl
  · refine ⟨h.nodup, hnew, fun hwait => ?_⟩
    obtain ⟨hlength, hactive⟩ := h.full hwait
    simp only [formDiag]
    rw [List.filter_eq_self.2 (List.all_eq_true.1 hactive)]
    exact ⟨hlength, hactive⟩

/-! ## What an effect keeps of both laws -/

/-- What an effect keeps of the laws of the list. -/
structure FaultsKept (s t : State) : Prop where
  law : s.diag.Lawful → t.diag.Lawful
  waits : s.diag.Lawful → s.diag.Waits → t.diag.Waits

@[refl] theorem FaultsKept.refl (s : State) : FaultsKept s s := ⟨id, fun _ => id⟩

theorem FaultsKept.trans {s t u : State} (h : FaultsKept s t) (h' : FaultsKept t u) : FaultsKept s u :=
  ⟨h'.law ∘ h.law, fun hlaw hwaits => h'.waits (h.law hlaw) (h.waits hlaw hwaits)⟩

theorem FaultsKept.same {s t : State} (h : t.diag = s.diag) : FaultsKept s t :=
  ⟨fun hlaw => h ▸ hlaw, fun _ hwaits => h ▸ hwaits⟩

/-- An effect from a state with the list of `s`. -/
theorem FaultsKept.after {s t u : State} (h : FaultsKept t u) (hs : t.diag = s.diag) : FaultsKept s u :=
  (FaultsKept.same hs).trans h

/-- A lawful list on which no condition waits. -/
theorem FaultsKept.of_lawful {s t : State} (h : t.diag.Lawful) (hnil : t.diag.unentered = []) : FaultsKept s t :=
  ⟨fun _ => h, fun _ _ => .of_nil hnil⟩

theorem lawful_empty : DiagnosticList.empty.Lawful := ⟨Nat.zero_le 20, List.nodup_nil, rfl⟩

theorem FaultsKept.of_empty {s t : State} (h : t.diag = .empty) : FaultsKept s t :=
  .of_lawful (h ▸ lawful_empty) (h ▸ rfl)

theorem faultsKept_report (code : FaultCode) (src : FaultSource) (s : State) : FaultsKept s (report code src s) :=
  ⟨fun h => h.reportTo true, fun hlaw h => h.reportTo hlaw true⟩

theorem faultsKept_endFault (code : FaultCode) (src : FaultSource) (s : State) : FaultsKept s (endFault code src s) :=
  ⟨fun h => h.endIn _ code src, fun hlaw h => h.endIn hlaw _ code src⟩

theorem faultsKept_pulseFault (code : FaultCode) (src : FaultSource) (s : State) :
    FaultsKept s (pulseFault code src s) :=
  ⟨fun h => (h.reportTo false).endIn _ code src,
    fun hlaw h => (h.reportTo hlaw false).endIn (hlaw.reportTo false) _ code src⟩

end Sys2Proof.Machine
end

section
/-! PROOFS. What leaves the Diagnostic List as it is: every operation but those that report a condition or its end, and
those that call them (R175, R176). -/

namespace Sys2Proof.Machine

/-! ## The transmit queue, the replies and the store -/

@[simp] theorem renewGrant_diag (n : Nat) (s : State) : (renewGrant n s).diag = s.diag := rfl
@[simp] theorem finishRequest_diag (t : Ticket) (r : Result) (d : List Byte) (s : State) :
    (finishRequest t r d s).diag = s.diag := rfl

@[simp] theorem carry_diag (k : Job → Bool) (j : List Ticket → Job) (t : Ticket) (s : State) :
    (carry k j t s).diag = s.diag := by
  unfold carry
  split <;> rfl

@[simp] theorem requestTag_diag (r : Request) (s : State) : (requestTag r s).2.diag = s.diag := by
  unfold requestTag
  split <;> rfl

@[simp] theorem repeatRequest_diag (e : SubEntry) (s : State) : (repeatRequest e s).diag = s.diag := by
  unfold repeatRequest noteRequeued
  dsimp only
  repeat' split
  all_goals rfl

@[simp] theorem queueWarning_diag (n : WarnNotice) (s : State) : (queueWarning n s).diag = s.diag := by
  unfold queueWarning
  dsimp only
  split <;> rfl

@[simp] theorem queueRecordNotice_diag (n : Nat) (d : List Byte) (s : State) :
    (queueRecordNotice n d s).diag = s.diag := by
  unfold queueRecordNotice
  split <;> rfl

@[simp] theorem queueServiceNotice_diag (i : Nat) (x : ServiceItem) (k : ServiceNoticeKind) (s : State) :
    (queueServiceNotice i x k s).diag = s.diag := by
  unfold queueServiceNotice
  split <;> rfl

@[simp] theorem offerOwed_diag (s : State) : (offerOwed s).diag = s.diag := by
  unfold offerOwed
  repeat' split
  all_goals rfl

@[simp] theorem offerOwedTimes_diag (n : Nat) (s : State) : (offerOwedTimes n s).diag = s.diag := by
  induction n generalizing s with
  | zero => rfl
  | succ n ih => exact (ih _).trans (offerOwed_diag s)

@[simp] theorem frameSent_diag (s : State) : (frameSent s).diag = s.diag := by
  unfold frameSent sentRing
  dsimp only
  split
  · rfl
  · rfl
  · split
    · split
      · rfl
      · exact offerOwed_diag _
    · rfl

@[simp] theorem attemptFailed_diag (error : Bool) (s : State) : (attemptFailed error s).diag = s.diag := by
  unfold attemptFailed
  split <;> rfl

@[simp] theorem periodic_diag (p : CyclicPub) (s : State) : (periodic p s).diag = s.diag := by
  unfold periodic
  split <;> rfl

@[simp] theorem answerLimit_diag (t : Ticket) (s : State) : (answerLimit t s).diag = s.diag := by
  unfold answerLimit
  split <;> rfl

@[simp] theorem answerService_diag (t : Ticket) (s : State) : (answerService t s).diag = s.diag := by
  unfold answerService
  split <;> rfl

/-! ## The Economy Unit -/

@[simp] theorem engineStopped_diag (s : State) : (engineStopped s).diag = s.diag := by
  unfold engineStopped
  split <;> rfl

@[simp] theorem economyEngineRun_diag (running : Bool) (n : Nat) (s : State) :
    (economyEngineRun running n s).diag = s.diag := by
  unfold economyEngineRun
  split
  · exact engineStopped_diag s
  · repeat' split
    all_goals rfl

@[simp] theorem activityPresent_diag (s : State) : (activityPresent s).diag = s.diag := by
  unfold activityPresent
  split <;> rfl

@[simp] theorem activityAbsent_diag (s : State) : (activityAbsent s).diag = s.diag := by
  unfold activityAbsent
  repeat' split
  all_goals rfl

@[simp] theorem economyPilot_diag (s : State) : (economyPilot s).diag = s.diag := by
  unfold economyPilot
  split <;> simp

@[simp] theorem waitExpired_diag (s : State) : (waitExpired s).diag = s.diag := by
  unfold waitExpired
  split <;> rfl

@[simp] theorem shutdownExpired_diag (s : State) : (shutdownExpired s).diag = s.diag := by
  unfold shutdownExpired
  split <;> rfl

@[simp] theorem resumeExpired_diag (s : State) : (resumeExpired s).diag = s.diag := by
  unfold resumeExpired
  split <;> rfl

@[simp] theorem wantDayJob_diag (s : State) : (wantDayJob s).diag = s.diag := by
  unfold wantDayJob
  repeat' split
  all_goals rfl

@[simp] theorem economySecond_diag (s : State) : (economySecond s).diag = s.diag := by
  unfold economySecond
  split <;> rfl

@[simp] theorem economyRollover_diag (s : State) : (economyRollover s).diag = s.diag := wantDayJob_diag _

@[simp] theorem economyClockSet_diag (d : Date) (s : State) : (economyClockSet d s).diag = s.diag := by
  unfold economyClockSet
  dsimp only
  split
  · rfl
  · exact economyRollover_diag _

@[simp] theorem economyTakes_diag (s : State) (a : Announcement) : (economyTakes s a).diag = s.diag := by
  cases a with
  | second => exact economySecond_diag s
  | rollover => exact economyRollover_diag s
  | shiftStart | reminder => rfl

@[simp] theorem offerDayJob_diag (s : State) : (offerDayJob s).diag = s.diag := by
  unfold offerDayJob
  split <;> simp

/-! ## The Service Unit -/

@[simp] theorem wantServiceJob_diag (s : State) : (wantServiceJob s).diag = s.diag := by
  unfold wantServiceJob
  repeat' split
  all_goals rfl

@[simp] theorem formDerate_diag (s : State) : (formDerate s).diag = s.diag := rfl

@[simp] theorem setItem_diag (i : Nat) (x : ServiceItem) (s : State) : (setItem i x s).diag = s.diag := rfl

@[simp] theorem restand_diag (i : Nat) (x : ServiceItem) (m d : Standing) (s : State) :
    (restand i x m d s).diag = s.diag := by
  unfold restand
  dsimp only
  repeat' split
  all_goals simp

@[simp] theorem serviceMeter_diag (n : Nat) (s : State) : (serviceMeter n s).diag = s.diag := by
  refine forItems_keeps State.diag _ (fun i x s => ?_) s
  split
  · exact restand_diag ..
  · rfl

@[simp] theorem serviceCalendar_diag (s : State) : (serviceCalendar s).diag = s.diag := by
  unfold serviceCalendar
  split
  · rfl
  · exact forItems_keeps State.diag _ (fun i x s => restand_diag ..) s

@[simp] theorem beginDayCounts_diag (s : State) : (beginDayCounts s).diag = s.diag := by
  unfold beginDayCounts
  split
  · rfl
  · refine forItems_keeps State.diag _ (fun i x s => ?_) s
    split
    · simp
    · rfl

@[simp] theorem serviceReminder_diag (k : Nat) (s : State) : (serviceReminder k s).diag = s.diag := by
  refine forItems_keeps State.diag _ (fun i x s => ?_) s
  split
  · exact queueServiceNotice_diag ..
  · rfl

@[simp] theorem serviceTakes_diag (s : State) (a : Announcement) : (serviceTakes s a).diag = s.diag := by
  cases a <;> simp [serviceTakes, serviceRollover, serviceShiftStart]

@[simp] theorem recordService_diag (i : Nat) (x : ServiceItem) (t : Ticket) (s : State) :
    (recordService i x t s).diag = s.diag := by
  simp [recordService]

@[simp] theorem offerServiceJob_diag (s : State) : (offerServiceJob s).diag = s.diag := by
  unfold offerServiceJob
  split <;> simp

/-! ## The Meter Unit -/

@[simp] theorem announceMeter_diag (n : Nat) (s : State) : (announceMeter n s).diag = s.diag := by
  unfold announceMeter
  split <;> simp

@[simp] theorem meterCycle_diag (s : State) : (meterCycle s).diag = s.diag := by
  unfold meterCycle
  split
  · rfl
  · exact announceMeter_diag ..

@[simp] theorem answerWaiters_diag (l : List Waiter) (s : State) : (answerWaiters l s).diag = s.diag := by
  refine foldl_keeps State.diag _ (fun s w => ?_) l s
  rfl

@[simp] theorem queueCheckpoint_diag (urgent : Bool) (s : State) : (queueCheckpoint urgent s).diag = s.diag := by
  unfold queueCheckpoint
  dsimp only
  split <;> rfl

/-! ## The Guidance and Envelope Units -/

@[simp] theorem abandonCycle_diag (s : State) : (abandonCycle s).diag = s.diag := by
  unfold abandonCycle
  split <;> rfl

@[simp] theorem completeCycle_diag (s : State) : (completeCycle s).diag = s.diag := meterCycle_diag _

@[simp] theorem testReturn_diag (s : State) : (testReturn s).diag = s.diag := by
  unfold testReturn
  split
  · rfl
  · exact completeCycle_diag s

@[simp] theorem detectorPump_diag (s : State) : (detectorPump s).diag = s.diag := by
  unfold detectorPump
  split <;> rfl

@[simp] theorem detectorPilot_diag (s : State) : (detectorPilot s).diag = s.diag := by
  unfold detectorPilot
  dsimp only
  repeat' split
  all_goals simp [enterStage, beginDig]

@[simp] theorem detectorPose_diag (s : State) : (detectorPose s).diag = s.diag := by
  unfold detectorPose
  repeat' split
  all_goals simp [enterStage]

@[simp] theorem stageExpired_diag (s : State) : (stageExpired s).diag = s.diag := by
  unfold stageExpired
  split <;> rfl

@[simp] theorem guidancePilot_diag (s : State) : (guidancePilot s).diag = s.diag := by
  unfold guidancePilot
  split
  · exact abandonCycle_diag s
  · exact detectorPilot_diag s

@[simp] theorem guidancePose_diag (s : State) : (guidancePose s).diag = s.diag := detectorPose_diag _

@[simp] theorem evaluateEntry_diag (i : Nat) (e : LimitEntry) (s : State) : (evaluateEntry i e s).1.diag = s.diag := by
  unfold evaluateEntry
  dsimp only
  split <;> simp

@[simp] theorem evaluateAll_diag (s : State) : (evaluateAll s).1.diag = s.diag := by
  unfold evaluateAll
  refine foldl_keeps (fun x : State × List Handed => x.1.diag) _ (fun x i => ?_) (List.range 12) (s, [])
  dsimp only
  repeat' split
  all_goals simp

@[simp] theorem envelopePose_diag (s : State) : (envelopePose s).1.diag = s.diag := by
  unfold envelopePose
  split <;> simp

/-! ## The Intervention Unit -/

@[simp] theorem enterHold_diag (s : State) : (enterHold s).diag = s.diag := by
  unfold enterHold
  split <;> rfl

@[simp] theorem formSets_diag (s : State) : (formSets s).diag = s.diag := by
  unfold formSets
  dsimp only
  repeat' split
  all_goals rfl

@[simp] theorem change_diag (p : Record → Bool) (f : Record → Record) (a : Record → Bool) (w : Work) :
    (w.change p f a).state.diag = w.state.diag := by
  rw [Work.change_eq]
  rfl

@[simp] theorem remove_diag (p : Record → Bool) (w : Work) : (w.remove p).state.diag = w.state.diag := by
  rw [Work.remove_eq]
  dsimp only
  split <;> rfl

@[simp] theorem breachReport_diag (i : Nat) (gone : Bool) (w : Work) :
    (w.breachReport i gone).state.diag = w.state.diag := by
  unfold Work.breachReport
  split <;> simp

@[simp] theorem overrideExpired_diag (n : Nat) (w : Work) : (w.overrideExpired n).state.diag = w.state.diag := by
  simp [Work.overrideExpired]

@[simp] theorem close_diag (w : Work) : w.close.diag = w.state.diag := by
  refine (foldl_keeps State.diag _ (fun s n => queueRecordNotice_diag ..) _ _).trans ?_
  split <;> simp

@[simp] theorem valveCutArrival_diag (echo : BitVec 8) (applied : MotionSet) (s : State) :
    (valveCutArrival echo applied s).diag = s.diag := by
  unfold valveCutArrival
  split <;> rfl

/-! ## The Time Base, the lines and the end of an event -/

theorem takeAll_diag (takes : State → Announcement → State) (h : ∀ s a, (takes s a).diag = s.diag)
    (l : List Announcement) (s : State) : (takeAll takes l s).diag = s.diag := by
  unfold takeAll
  split <;> exact foldl_keeps State.diag _ h _ _

@[simp] theorem detectorRearmed_diag (s : State) : (detectorRearmed s).diag = s.diag := by
  unfold detectorRearmed
  split <;> rfl

@[simp] theorem entered_diag (clash : Bool) (s : State) : (entered clash s).diag = s.diag := by
  unfold entered
  split
  · rfl
  · exact offerOwedTimes_diag ..

@[simp] theorem tick_diag (s : State) : (tick s).diag = s.diag := by
  unfold tick countPeriods
  dsimp only
  split <;> rfl

@[simp] theorem settle_diag (before after : State) : (settle before after).diag = after.diag := by
  obtain ⟨-, -, -, -, -, -, -, hdiag⟩ := (eventEnd_settle before after).blocks
  exact hdiag

end Sys2Proof.Machine
end

section
/-! PROOFS. The reports and ends of the blocks keep the laws of the Diagnostic List: checkpoints, the pose and the
records, the clock, the arrivals and ages, store writes, the bus and the starts (R9, R11, R44, R60 to R62, R112, R116,
R132, R134, R158, R165, R166, R183). -/

namespace Sys2Proof.Machine

/-! ## Checkpoints and the seconds event (R130 to R134) -/

theorem faultsKept_exhaustCheckpoints (s : State) : FaultsKept s (exhaustCheckpoints s) :=
  (faultsKept_report ..).after (answerWaiters_diag ..)

theorem faultsKept_wantCheckpoint (s : State) : FaultsKept s (wantCheckpoint s) := by
  unfold wantCheckpoint
  split
  · exact faultsKept_exhaustCheckpoints s
  · repeat' split
    all_goals exact .same (by simp)

theorem faultsKept_wantCheckpointFor (t : Ticket) (s : State) : FaultsKept s (wantCheckpointFor t s) :=
  (faultsKept_wantCheckpoint _).after rfl

theorem faultsKept_urgentCheckpoint (s : State) : FaultsKept s (urgentCheckpoint s) := by
  unfold urgentCheckpoint
  split
  · exact .same rfl
  · split
    · exact faultsKept_exhaustCheckpoints s
    · exact .same (queueCheckpoint_diag true s)
  · split
    · exact faultsKept_exhaustCheckpoints s
    · exact .same rfl

theorem faultsKept_offerPendingCheckpoint (s : State) : FaultsKept s (offerPendingCheckpoint s) := by
  unfold offerPendingCheckpoint
  split
  · rfl
  · split
    · rfl
    · split
      · exact faultsKept_exhaustCheckpoints s
      · split
        · exact .same (queueCheckpoint_diag false s)
        · rfl
    · split
      · exact faultsKept_exhaustCheckpoints s
      · exact .same (queueCheckpoint_diag true s)

theorem faultsKept_checkpointCompleted (n : Nat) (s : State) : FaultsKept s (checkpointCompleted n s) :=
  (faultsKept_endFault ..).after (answerWaiters_diag ..)

theorem faultsKept_meterSecond (s : State) : FaultsKept s (meterSecond s) := by
  unfold meterSecond
  split
  · rfl
  · refine FaultsKept.trans ?_ (.same (foldl_keeps State.diag _ (fun s n => announceMeter_diag n s) _ _))
    dsimp only
    split
    · exact .same rfl
    · split
      · exact .same rfl
      · exact (faultsKept_wantCheckpoint _).after rfl

theorem faultsKept_takeKeyOff (s : State) : FaultsKept s (takeKeyOff s) := by
  rw [takeKeyOff_eq]
  have hwant : FaultsKept s (wantCheckpoint (setMeterUnit { s.meter with keyOffTaken := true } s)) :=
    (faultsKept_wantCheckpoint _).after rfl
  dsimp only
  split
  · exact hwant.trans (.same (wantDayJob_diag _))
  · exact hwant

/-! ## The lookups and the grade (R9, R11) -/

theorem faultsKept_setDescriptor (i : Nat) (old new : Descriptor) (s : State) :
    FaultsKept s (setDescriptor i old new s) := by
  unfold setDescriptor
  dsimp only
  split
  · exact (faultsKept_report ..).after rfl
  · split
    · exact (faultsKept_endFault ..).after rfl
    · exact .same rfl

theorem faultsKept_recallLookup (i : Nat) (x : Int) (s : State) : FaultsKept s (recallLookup i x s) := by
  unfold recallLookup
  split
  · split
    · exact faultsKept_setDescriptor ..
    · rfl
  · rfl

theorem faultsKept_applyGrade (s : State) : FaultsKept s (applyGrade s) := by
  rw [applyGrade_eq]
  split
  · exact (faultsKept_endFault ..).after rfl
  · exact .same rfl

/-! ## The records (R44, R46 to R54, R60 to R62) -/

/-- The raise that gives the last number reports SequenceExhausted. -/
theorem faultsKept_raise (k : RecordKind) (src : Option Nat) (c : RecordCause) (b : MotionSet) (w : Work) :
    FaultsKept w.state (w.raise k src c b).state := by
  rcases Nat.lt_or_ge w.state.intervention.lastSeq 65535 with hlast | hlast
  · rw [raise_eq k src c b w hlast]
    dsimp only
    split
    · rw [exhaustSequence_listing]
      exact ((faultsKept_report ..).after rfl).trans (.same (enterHold_diag _))
    · exact .same rfl
  · rw [raise_of_exhausted k src c b w hlast]

theorem faultsKept_unlessHold (f : Work → Work) (w : Work) (hf : FaultsKept w.state (f w).state) :
    FaultsKept w.state (w.unlessHold f).state := by
  unfold Work.unlessHold
  split
  · rfl
  · exact hf

theorem faultsKept_raiseRequest (i : Nat) (k : RecordKind) (c : BreachCause) (b : MotionSet) (w : Work) :
    FaultsKept w.state (w.raiseRequest i k c b).state := by
  unfold Work.raiseRequest
  split
  · exact .same (change_diag ..)
  · exact faultsKept_raise ..

theorem faultsKept_lossOfPose (w : Work) : FaultsKept w.state w.lossOfPose.state := by
  unfold Work.lossOfPose
  split
  · exact .same (change_diag ..)
  · split
    · exact faultsKept_raise ..
    · rfl

theorem faultsKept_poseQuality (before : PoseQuality) (w : Work) : FaultsKept w.state (w.poseQuality before).state := by
  refine faultsKept_unlessHold _ w ?_
  split
  · exact .same (change_diag ..)
  · rfl
  · split
    · rfl
    · exact faultsKept_lossOfPose w

theorem faultsKept_take (w : Work) (h : Handed) : FaultsKept w.state (w.take h).state := by
  refine faultsKept_unlessHold _ w ?_
  cases h with
  | raise i k c b => exact faultsKept_raiseRequest i k c b w
  | cause i c => exact .same (change_diag ..)
  | report i gone => exact .same (breachReport_diag i gone w)

theorem faultsKept_takes (l : List Handed) (w : Work) : FaultsKept w.state (l.foldl Work.take w).state := by
  induction l generalizing w with
  | nil => rfl
  | cons h l ih => exact (faultsKept_take w h).trans (ih _)

theorem faultsKept_extCut (st : Nat) (m : MotionSet) (w : Work) : FaultsKept w.state (w.extCut st m).state := by
  unfold Work.extCut
  split
  · exact .same (remove_diag ..)
  · split
    · exact .same (change_diag ..)
    · exact faultsKept_raise ..

theorem faultsKept_interventionEvent (f : Work → Work) (s : State) (hf : FaultsKept s (f ⟨s, []⟩).state) :
    FaultsKept s (interventionEvent f s) :=
  (faultsKept_unlessHold f ⟨s, []⟩ hf).trans (.same (close_diag _))

/-- An event at the list whose work reports nothing. -/
theorem interventionEvent_diag (f : Work → Work) (hf : ∀ w, (f w).state.diag = w.state.diag) (s : State) :
    (interventionEvent f s).diag = s.diag := by
  unfold interventionEvent Work.unlessHold
  rw [close_diag]
  split
  · rfl
  · exact hf _

theorem faultsKept_confirmExpired (s : State) : FaultsKept s (confirmExpired s) := by
  unfold confirmExpired
  split
  · exact (faultsKept_report ..).after rfl
  · exact (faultsKept_report ..).after (enterHold_diag s)
  · rfl
  · rfl

theorem faultsKept_valveLost (s : State) : FaultsKept s (valveLost s) := by
  unfold valveLost
  split
  · split
    · exact (faultsKept_report ..).after rfl
    · rfl
  · split
    · exact (faultsKept_report ..).after rfl
    · rfl
  · exact (faultsKept_report ..).after (enterHold_diag s)
  · rfl

/-! ## The pose (R2, R3, R9) -/

theorem faultsKept_consumePose (before : PoseQuality) (s : State) : FaultsKept s (consumePose before s) := by
  have hevent (l : List Handed) (u : State) :
      FaultsKept u (interventionEvent (fun w => (l.foldl Work.take w).poseQuality before) u) :=
    faultsKept_interventionEvent _ u ((faultsKept_takes l ⟨u, []⟩).trans (faultsKept_poseQuality before _))
  rw [consumePose_eq]
  refine (hevent _ _).after ?_
  rw [guidancePose_diag]
  repeat' split
  all_goals simp

theorem faultsKept_announcePose (before : PoseQuality) (s : State) : FaultsKept s (announcePose before s) :=
  (faultsKept_consumePose ..).after rfl

theorem faultsKept_gradeOnly (s : State) : FaultsKept s (gradeOnly s) := by
  unfold gradeOnly
  dsimp only
  split
  · exact (faultsKept_applyGrade s).trans (faultsKept_announcePose ..)
  · exact faultsKept_applyGrade s

theorem faultsKept_solveAndGrade (s : State) : FaultsKept s (solveAndGrade s) := by
  cases hsolve : solvePose s with
  | some p =>
    rw [solveAndGrade_of_solve s p hsolve]
    refine FaultsKept.trans ?_ (faultsKept_announcePose ..)
    exact (faultsKept_applyGrade _).after rfl
  | none =>
    rw [solveAndGrade_no_solve s hsolve]
    exact faultsKept_gradeOnly s

theorem faultsKept_poseArrival (p : Payload) (s : State) : FaultsKept s (poseArrival p s) := by
  unfold poseArrival
  split
  · exact (faultsKept_recallLookup ..).trans (faultsKept_solveAndGrade _)
  · exact (faultsKept_recallLookup ..).trans (faultsKept_solveAndGrade _)
  · exact faultsKept_solveAndGrade s

theorem faultsKept_degradedExpired (s : State) : FaultsKept s (degradedExpired s) := by
  refine FaultsKept.trans ?_ (faultsKept_announcePose ..)
  exact (faultsKept_report ..).after rfl

/-! ## The clock (R109, R112, R115, R116) -/

theorem faultsKept_announceCount (s : State) : FaultsKept s (announceCount s) := by
  unfold announceCount
  dsimp only
  split
  · exact (faultsKept_meterSecond s).trans
      (.same ((takeAll_diag _ serviceTakes_diag _ _).trans (takeAll_diag _ economyTakes_diag _ _)))
  · exact faultsKept_meterSecond s

theorem faultsKept_clockCounted (s : State) : FaultsKept s (clockCounted s) := by
  unfold clockCounted
  dsimp only
  split
  · split
    · exact (faultsKept_announceCount _).after rfl
    · exact .same rfl
  · rfl

theorem faultsKept_setClockTo (t : ClockTime) (src : SetSource) (s : State) : FaultsKept s (setClockTo t src s) :=
  (faultsKept_endFault ..).after ((serviceCalendar_diag _).trans (economyClockSet_diag ..))

theorem faultsKept_timeSyncArrival (t : ClockTime) (s : State) : FaultsKept s (timeSyncArrival t s) := by
  unfold timeSyncArrival
  split
  · rfl
  · split
    · rfl
    · split
      · exact faultsKept_setClockTo ..
      · split
        · exact (faultsKept_setClockTo ..).trans (faultsKept_pulseFault ..)
        · rfl

theorem faultsKept_oscillatorStopped (s : State) : FaultsKept s (oscillatorStopped s) := by
  unfold oscillatorStopped
  dsimp only
  split
  · rfl
  · split
    · split
      · refine FaultsKept.trans ?_ (faultsKept_report ..)
        exact (faultsKept_report ..).after rfl
      · exact (faultsKept_report ..).after rfl
    · exact .same rfl

theorem faultsKept_oscillatorRestarted (s : State) : FaultsKept s (oscillatorRestarted s) := by
  unfold oscillatorRestarted
  dsimp only
  split
  · rfl
  · split
    · exact (faultsKept_endFault ..).after rfl
    · exact .same rfl

/-! ## The Topic Map (R158, R159) -/

theorem faultsKept_freshened (e : SubEntry) (s : State) : FaultsKept s (freshened e s) := by
  unfold freshened
  dsimp only
  split
  · exact (faultsKept_endFault ..).trans (faultsKept_endFault ..)
  · exact faultsKept_endFault ..

theorem faultsKept_gradedBy (x : Nat × SubEntry × SubEntry × Payload) (s : State) : FaultsKept s (gradedBy x s) := by
  unfold gradedBy
  dsimp only
  split
  · exact (faultsKept_freshened ..).after rfl
  · exact .same rfl

theorem faultsKept_handArrival (st : Nat) (p : Payload) (s : State) : FaultsKept s (handArrival st p s) := by
  unfold handArrival
  split
  case h_6 => exact .same (economyEngineRun_diag ..)
  case h_7 => exact .same rfl
  case h_8 => exact faultsKept_recallLookup ..
  case h_9 => exact .same (detectorPump_diag s)
  case h_10 => exact .same ((guidancePilot_diag _).trans (economyPilot_diag s))
  case h_11 => exact .same (valveCutArrival_diag ..)
  case h_12 => exact faultsKept_interventionEvent _ s (faultsKept_extCut _ _ ⟨s, []⟩)
  case h_13 => exact faultsKept_timeSyncArrival ..
  all_goals exact faultsKept_poseArrival _ s

theorem faultsKept_takeFrame (role : Role) (station : Option Nat) (f : Frame) (s : State) :
    FaultsKept s (takeFrame role station f s) := by
  cases haccepted : accepted role station f s with
  | none => rw [takeFrame_unaccepted role station f s haccepted]
  | some x =>
    rw [takeFrame_accepted role station f s x haccepted]
    exact (faultsKept_gradedBy x s).trans (faultsKept_handArrival ..)

theorem faultsKept_staleEntry (i : Nat) (s : State) : FaultsKept s (staleEntry i s) := by
  unfold staleEntry
  dsimp only
  split
  · split
    · split
      · exact (faultsKept_gradeOnly _).after rfl
      · exact .same rfl
    · rfl
  · rfl

theorem faultsKept_handLost (e : SubEntry) (s : State) : FaultsKept s (handLost e s) := by
  unfold handLost
  split
  case h_6 => exact .same (engineStopped_diag s)
  case h_7 => exact .same ((abandonCycle_diag _).trans (activityPresent_diag s))
  case h_8 => exact faultsKept_valveLost s
  case h_9 => exact .same (interventionEvent_diag _ (fun w => change_diag _ _ _ w) s)
  case h_10 | h_11 | h_12 | h_13 | h_14 => rfl
  all_goals exact faultsKept_gradeOnly s

theorem faultsKept_lostEntry (i : Nat) (s : State) : FaultsKept s (lostEntry i s) := by
  unfold lostEntry
  split
  · split
    · refine FaultsKept.trans ?_ (faultsKept_handLost ..)
      exact (faultsKept_report ..).after rfl
    · rfl
  · rfl

/-! ## The end of a store write (R188) -/

theorem faultsKept_jobCompleted (w : Writing) (s : State) : FaultsKept s (jobCompleted w s) := by
  have hservice (l : List Ticket) :
      (l.foldl (fun s t => if stillWaits s t then s else answerService t s) s).diag = s.diag := by
    refine foldl_keeps State.diag _ (fun s t => ?_) l s
    split
    · rfl
    · exact answerService_diag t s
  unfold jobCompleted
  split
  case h_1 => exact .same rfl
  case h_2 =>
    split
    · exact faultsKept_checkpointCompleted ..
    · rfl
  case h_3 =>
    exact (faultsKept_endFault ..).after (foldl_keeps State.diag _ (fun s t => finishRequest_diag t _ _ s) _ s)
  case h_4 => exact (faultsKept_endFault ..).after (foldl_keeps State.diag _ (fun s t => answerLimit_diag t s) _ s)
  case h_7 => exact faultsKept_endFault ..
  all_goals exact (faultsKept_endFault ..).after (hservice _)

theorem faultsKept_writeCompleted (s : State) : FaultsKept s (writeCompleted s) := by
  unfold writeCompleted
  split
  · rfl
  · refine FaultsKept.trans ?_ (.same ((offerServiceJob_diag _).trans (offerDayJob_diag _)))
    refine FaultsKept.trans ?_ (faultsKept_offerPendingCheckpoint _)
    exact (faultsKept_jobCompleted ..).after rfl

/-! ## The bus (R165) -/

theorem faultsKept_busWentOff (s : State) : FaultsKept s (busWentOff s) := by
  unfold busWentOff
  dsimp only
  split
  · split
    · exact (faultsKept_report ..).after rfl
    · split
      · exact ((faultsKept_report ..).after rfl).trans (.same (enterHold_diag _))
      · exact (faultsKept_report ..).after rfl
  · rfl

theorem faultsKept_busRecovered (s : State) : FaultsKept s (busRecovered s) := by
  unfold busRecovered
  split
  · exact (faultsKept_endFault ..).after rfl
  · rfl

/-! ## Starts and supplies (R166, R181 to R186) -/

theorem lawful_startBuilt (s : State) : (startBuilt s).diag.Lawful ∧ (startBuilt s).diag.unentered = [] := by
  rw [(startBuilt_restored s).diag]
  obtain ⟨⟨hcodes, hnil, hattention⟩, -⟩ := startDiag_fresh (startBuilt s).imageGood s
  have hdistinct : ((startFaults (startBuilt s).imageGood s).map (·.2.1)).Nodup :=
    show [FaultCode.strapFault, .imageBad, .oscillatorStop, .clockUnset, .limitAreaLost, .gradeAreaLost, .meterLoss,
      .dayAreaLost, .serviceAreaLost, .historyAreaLost].Nodup by decide
  have hfew : ((startFaults (startBuilt s).imageGood s).map (·.2.1)).length ≤ 20 :=
    show 10 ≤ 20 by decide
  refine ⟨⟨?_, ?_, hattention⟩, hnil⟩
  · exact (List.length_map (f := FaultEntry.code)).symm.trans_le (hcodes.length_le.trans hfew)
  · refine List.Nodup.of_map Prod.fst ?_
    rw [conditions, List.map_map]
    exact hdistinct.sublist hcodes

theorem faultsKept_endStart (clash : Bool) (s : State) : FaultsKept s (endStart clash s) := by
  rw [endStart_eq]
  refine FaultsKept.after ?_ (entered_diag clash s)
  unfold thenKeyOff
  split
  · exact (faultsKept_takeKeyOff _).after rfl
  · rfl

/-- A start builds its own list. -/
theorem faultsKept_beginStart (s : State) : FaultsKept s (beginStart s) := by
  obtain ⟨hlaw, hnil⟩ := lawful_startBuilt s
  have hbuilt : FaultsKept s (startBuilt s) := .of_lawful hlaw hnil
  rw [beginStart_eq]
  split
  · exact hbuilt.trans (.same rfl)
  · exact hbuilt.trans (faultsKept_endStart ..)

theorem faultsKept_startIfKeyOn (s : State) : FaultsKept s (startIfKeyOn s) := by
  unfold startIfKeyOn
  split
  · exact faultsKept_beginStart s
  · rfl

theorem faultsKept_clashHeard (n : Nat) (s : State) : FaultsKept s (clashHeard n s) := by
  unfold clashHeard
  dsimp only
  split
  · rfl
  · split
    · exact (faultsKept_pulseFault ..).trans (faultsKept_endStart ..)
    · split
      · split
        · exact (faultsKept_pulseFault ..).trans (.same (enterHold_diag _))
        · exact faultsKept_pulseFault ..
      · rfl

theorem faultsKept_batteryConnected (keyOn : Bool) (straps : BitVec 5) (s : State) :
    FaultsKept s (batteryConnected keyOn straps s) := by
  unfold batteryConnected
  split
  · exact (faultsKept_startIfKeyOn _).after rfl
  · rfl

theorem faultsKept_keepAliveLost (s : State) : FaultsKept s (keepAliveLost s) := by
  unfold keepAliveLost
  split
  · rfl
  · exact .of_empty rfl

theorem faultsKept_mainSupplyLost (s : State) : FaultsKept s (mainSupplyLost s) := by
  unfold mainSupplyLost
  split
  · exact .of_empty rfl
  · rfl

theorem faultsKept_keyTurnedOn (straps : BitVec 5) (s : State) : FaultsKept s (keyTurnedOn straps s) := by
  unfold keyTurnedOn
  dsimp only
  split
  · exact (faultsKept_beginStart _).after rfl
  · exact .same rfl

theorem faultsKept_keyTurnedOff (s : State) : FaultsKept s (keyTurnedOff s) := by
  unfold keyTurnedOff
  dsimp only
  split
  · split
    · exact .same rfl
    · exact (faultsKept_takeKeyOff _).after rfl
  · split <;> exact .same rfl

theorem faultsKept_supplyDropped (s : State) : FaultsKept s (supplyDropped s) := by
  unfold supplyDropped
  dsimp only
  split
  · split
    · exact (faultsKept_urgentCheckpoint _).after rfl
    · exact .same rfl
  · rfl

theorem faultsKept_shutdownCompleted (s : State) : FaultsKept s (shutdownCompleted s) := by
  unfold shutdownCompleted
  split
  · exact (FaultsKept.of_empty rfl).trans (faultsKept_startIfKeyOn _)
  · rfl

theorem faultsKept_restartBegun (s : State) : FaultsKept s (restartBegun s) := by
  unfold restartBegun
  split
  · exact faultsKept_beginStart s
  · rfl

theorem faultsKept_listenEnded (s : State) : FaultsKept s (listenEnded s) := by
  unfold listenEnded
  split
  · exact faultsKept_endStart ..
  · rfl

end Sys2Proof.Machine
end

section
/-! PROOFS. Every step keeps the laws of the Diagnostic List: the requests, and every command (R173, R177 to R179). -/

namespace Sys2Proof.Machine

/-! ## The requests -/

/-- An owner whose answer keeps the laws of the list. -/
def Owner.KeepsFaults (own : Owner) : Prop := ∀ t a s, FaultsKept s (own t a s).after

theorem faultsKept_checkLevel (need : Level) (t : Ticket) (s : State) (rest : State → Answer)
    (h : ∀ s, FaultsKept s (rest s).after) : FaultsKept s (checkLevel need t s rest).after := by
  unfold checkLevel
  split
  · split
    · exact h s
    · exact (h _).after (renewGrant_diag ..)
  · rfl

theorem faultsKept_limitRequest (t : Ticket) (a : List Byte) (s : State) (rest : Nat → LimitEntry → State → Answer)
    (h : ∀ i e s, FaultsKept s (rest i e s).after) : FaultsKept s (limitRequest t a s rest).after := by
  unfold limitRequest
  split
  · rfl
  · refine faultsKept_checkLevel _ _ _ _ fun s => ?_
    split
    · rfl
    · split
      · rfl
      · exact h _ _ _

@[simp] theorem makePending_diag (i : Nat) (e : LimitEntry) (c : LimitConfig) (s : State) :
    (makePending i e c s).diag = s.diag := by
  unfold makePending
  dsimp only
  split
  · exact interventionEvent_diag _ (fun w => breachReport_diag i false w) _
  · rfl

/-- A changed limit's request waits on its job. -/
theorem faultsKept_carryLimit (t : Ticket) (i : Nat) (e : LimitEntry) (c : LimitConfig) (s : State) :
    FaultsKept s (carryLimit t i (makePending i e c s)).after :=
  .same ((carry_diag ..).trans (makePending_diag ..))

theorem keepsFaults_readOwner : readOwner.KeepsFaults := by
  intro t a s
  unfold readOwner
  dsimp only
  split
  · rfl
  · rfl
  · split
    · rfl
    · simp only [accept, Answer.after]
      split <;> exact .same rfl

theorem keepsFaults_keyOwner : keyOwner.KeepsFaults := by
  intro t a s
  unfold keyOwner checkKey
  repeat' split
  all_goals exact .same rfl

theorem keepsFaults_restartOwner : restartOwner.KeepsFaults := by
  intro t a s
  unfold restartOwner
  split
  · rfl
  · split
    · rfl
    · exact faultsKept_checkLevel _ _ _ _ fun _ => .same rfl

theorem keepsFaults_clearFaultsOwner : clearFaultsOwner.KeepsFaults := by
  intro t a s
  unfold clearFaultsOwner
  split
  · rfl
  · exact faultsKept_checkLevel _ _ _ _ fun s =>
      ⟨fun h => h.clearInactive (stampNow s), fun hlaw h => h.clearInactive hlaw (stampNow s)⟩

theorem keepsFaults_writeImageOwner : writeImageOwner.KeepsFaults := by
  intro t a s
  unfold writeImageOwner
  split
  · rfl
  · refine faultsKept_checkLevel _ _ _ _ fun s => ?_
    repeat' split
    all_goals exact .same rfl

theorem keepsFaults_ackWarningOwner : ackWarningOwner.KeepsFaults := by
  intro t a s
  unfold ackWarningOwner ackAllWarnings
  dsimp only
  repeat' split
  all_goals exact .same rfl

theorem keepsFaults_teachLimitOwner : teachLimitOwner.KeepsFaults := by
  intro t a s
  refine faultsKept_limitRequest _ _ _ _ fun i e s => ?_
  repeat' split
  case h_2.isFalse.isFalse => exact faultsKept_carryLimit ..
  all_goals rfl

theorem keepsFaults_setLimitOwner : setLimitOwner.KeepsFaults := by
  intro t a s
  refine faultsKept_limitRequest _ _ _ _ fun i e s => ?_
  repeat' split
  case h_2.isFalse.isFalse => exact faultsKept_carryLimit ..
  all_goals rfl

theorem keepsFaults_enableLimitOwner : enableLimitOwner.KeepsFaults := by
  intro t a s
  refine faultsKept_limitRequest _ _ _ _ fun i e s => ?_
  repeat' split
  case isFalse.isFalse => exact faultsKept_carryLimit ..
  all_goals rfl

theorem keepsFaults_disableLimitOwner : disableLimitOwner.KeepsFaults := by
  intro t a s
  refine faultsKept_limitRequest _ _ _ _ fun i e s => ?_
  repeat' split
  case isFalse.isFalse.isFalse => exact .same (carry_diag ..)
  all_goals rfl

theorem releaseRecord_diag (r : Record) (s : State) : (releaseRecord r s).after.diag = s.diag := by
  unfold releaseRecord
  split
  · exact interventionEvent_diag _ (fun w => remove_diag _ w) s
  · rfl

theorem keepsFaults_releaseOwner : releaseOwner.KeepsFaults := by
  intro t a s
  unfold releaseOwner
  dsimp only
  split
  · rfl
  · split
    · rfl
    · split
      · rfl
      · split
        · exact faultsKept_checkLevel _ _ _ _ fun s => .same (releaseRecord_diag _ s)
        · exact .same (releaseRecord_diag _ s)

theorem keepsFaults_overrideOwner : overrideOwner.KeepsFaults := by
  intro t a s
  unfold overrideOwner
  dsimp only
  split
  · rfl
  · refine faultsKept_checkLevel _ _ _ _ fun s => ?_
    split
    · rfl
    · split
      · rfl
      · split
        · rfl
        · exact .same (interventionEvent_diag _ (fun w => change_diag _ _ _ w) s)

theorem keepsFaults_resumeOwner : resumeOwner.KeepsFaults := by
  intro t a s
  unfold resumeOwner
  split
  · rfl
  · refine faultsKept_checkLevel _ _ _ _ fun s => ?_
    dsimp only
    split
    · exact (faultsKept_endFault ..).after rfl
    · rfl

theorem keepsFaults_benchmarkOwner : benchmarkOwner.KeepsFaults := by
  intro t a s
  unfold benchmarkOwner setBenchmark
  split
  · rfl
  · refine faultsKept_checkLevel _ _ _ _ fun s => ?_
    repeat' split
    all_goals exact .same rfl

theorem keepsFaults_setGradeOwner : setGradeOwner.KeepsFaults := by
  have hchange (t : Ticket) (i : Nat) (g : Option Segment) (s : State) : FaultsKept s (changeGrade t i g s).after := by
    unfold changeGrade
    split
    · rfl
    · exact .same (carry_diag ..)
  intro t a s
  unfold setGradeOwner
  dsimp only
  split
  · rfl
  · refine faultsKept_checkLevel _ _ _ _ fun s => ?_
    split
    · rfl
    · split
      · split
        · exact hchange ..
        · rfl
      · split
        · exact hchange ..
        · rfl
      · rfl

theorem keepsFaults_powerModeOwner : powerModeOwner.KeepsFaults := by
  intro t a s
  unfold powerModeOwner
  dsimp only
  repeat' split
  all_goals exact .same rfl

theorem keepsFaults_tableRecallOwner : tableRecallOwner.KeepsFaults := by
  have hrecall (i : Nat) (old new : Descriptor) (s : State) : FaultsKept s (doneRecall i old new s).after := by
    simp only [doneRecall, accept, Answer.after, recallPose]
    split
    · exact (faultsKept_setDescriptor ..).trans (faultsKept_solveAndGrade _)
    · exact faultsKept_setDescriptor ..
  intro t a s
  unfold tableRecallOwner
  dsimp only
  split
  · rfl
  · refine faultsKept_checkLevel _ _ _ _ fun s => ?_
    split
    · rfl
    · split
      · rfl
      · split
        · exact hrecall ..
        · split
          · rfl
          · exact hrecall ..
        · rfl

theorem keepsFaults_setClockOwner : setClockOwner.KeepsFaults := by
  intro t a s
  unfold setClockOwner
  split
  · rfl
  · refine faultsKept_checkLevel _ _ _ _ fun s => ?_
    split
    · rfl
    · split
      · rfl
      · exact faultsKept_setClockTo ..

theorem keepsFaults_setTrimOwner : setTrimOwner.KeepsFaults := by
  intro t a s
  unfold setTrimOwner
  dsimp only
  split
  · rfl
  · refine faultsKept_checkLevel _ _ _ _ fun s => ?_
    split <;> exact .same rfl

theorem keepsFaults_setMeterOwner : setMeterOwner.KeepsFaults := by
  have hraise (t : Ticket) (n : Nat) (v : MeterValue) (s : State) : FaultsKept s (raiseMeter t n v s).after := by
    unfold raiseMeter
    dsimp only
    split
    · refine FaultsKept.trans ?_ (.same (announceMeter_diag n _))
      exact (faultsKept_exhaustCheckpoints _).after rfl
    · refine FaultsKept.trans ?_ (.same (announceMeter_diag n _))
      exact (faultsKept_wantCheckpointFor ..).after rfl
  intro t a s
  unfold setMeterOwner
  dsimp only
  split
  · rfl
  · refine faultsKept_checkLevel _ _ _ _ fun s => ?_
    split
    · rfl
    · split
      · rfl
      · split
        · rfl
        · split
          · rfl
          · split
            · rfl
            · exact hraise ..

theorem keepsFaults_serviceDoneOwner : serviceDoneOwner.KeepsFaults := by
  intro t a s
  unfold serviceDoneOwner
  dsimp only
  split
  · rfl
  · refine faultsKept_checkLevel _ _ _ _ fun s => ?_
    split
    · split
      · rfl
      · split
        · rfl
        · exact .same (recordService_diag ..)
    · rfl

theorem keepsFaults_ackReminderOwner : ackReminderOwner.KeepsFaults := by
  intro t a s
  unfold ackReminderOwner ackAllReminders
  dsimp only
  repeat' split
  all_goals exact .same rfl

/-- Every code's owner keeps the laws of the list. -/
theorem keepsFaults_ownerOf (code : Byte) (own : Owner) (h : ownerOf code = some own) : own.KeepsFaults := by
  unfold ownerOf at h
  split at h
  all_goals cases h
  exacts [keepsFaults_readOwner, keepsFaults_keyOwner, keepsFaults_restartOwner, keepsFaults_clearFaultsOwner,
    keepsFaults_writeImageOwner, keepsFaults_ackWarningOwner, keepsFaults_teachLimitOwner,
    keepsFaults_setLimitOwner, keepsFaults_enableLimitOwner, keepsFaults_disableLimitOwner,
    keepsFaults_releaseOwner, keepsFaults_overrideOwner, keepsFaults_resumeOwner, keepsFaults_benchmarkOwner,
    keepsFaults_setGradeOwner, keepsFaults_powerModeOwner, keepsFaults_tableRecallOwner,
    keepsFaults_setClockOwner, keepsFaults_setTrimOwner, keepsFaults_setMeterOwner,
    keepsFaults_serviceDoneOwner, keepsFaults_ackReminderOwner]

theorem faultsKept_judgeRequest (code : Byte) (owner : Option Owner)
    (h : ∀ own, owner = some own → own.KeepsFaults) (t : Ticket) (r : Request) (s : State) :
    FaultsKept s (judgeRequest code owner t r s) := by
  unfold judgeRequest
  cases owner with
  | none => exact .same rfl
  | some own =>
    have hown := h own rfl t r.args s
    dsimp only
    repeat' split
    case h_1 res data u hanswer => exact (hanswer ▸ hown).trans (.same rfl)
    case h_2 u hanswer => exact (hanswer ▸ hown).trans (.same rfl)
    all_goals exact .same rfl

theorem faultsKept_takeRequest (code : Byte) (owner : Option Owner)
    (h : ∀ own, owner = some own → own.KeepsFaults) (r : Request) (s : State) :
    FaultsKept s (takeRequest code owner r s) := by
  unfold takeRequest newRequest
  dsimp only
  split
  · rfl
  · split
    · rfl
    · split
      · exact .same (repeatRequest_diag ..)
      · split
        · exact .same (requestTag_diag ..)
        · exact (faultsKept_judgeRequest code owner h _ r _).after (requestTag_diag ..)

theorem faultsKept_takeByCode (code : Option Byte) (r : Request) (s : State) :
    FaultsKept s (takeByCode code r s) := by
  unfold takeByCode
  split
  · exact faultsKept_takeRequest _ _ (keepsFaults_ownerOf _) r s
  · exact (faultsKept_takeRequest _ none (fun _ h => nomatch h) r _).after (useFree_diag s)

theorem faultsKept_takeFragment (st : Nat) (f : Frame) (s : State) : FaultsKept s (takeFragment st f s) := by
  unfold takeFragment
  split
  · rfl
  · split
    · rfl
    · split
      · split
        · exact faultsKept_takeByCode ..
        · exact .same rfl
      · exact .same rfl

/-! ## Every command -/

/-- A command keeps the laws of the list. -/
def FaultsKeptBy (s : State) (o : Host.Outcome State Fault Refusal) : Prop := ∀ t, o = .next t → FaultsKept s t

theorem faultsKeptBy_finish {s b t : State} (h : FaultsKept s t) : FaultsKeptBy s (finish b t) := by
  rintro _ ⟨⟩
  exact h.trans (.same (settle_diag b t))

theorem faultsKeptBy_same {s b t : State} (h : t.diag = s.diag) : FaultsKeptBy s (finish b t) :=
  faultsKeptBy_finish (.same h)

/-- An expiry, or the end of a write, where it is due. -/
theorem faultsKeptBy_ite {b : Prop} [Decidable b] {s t : State} (h : FaultsKept s t) :
    FaultsKeptBy s (finish s (if b then t else s)) := by
  refine faultsKeptBy_finish ?_
  split
  · exact h
  · rfl

theorem faultsKeptBy_request (code : Byte) (own : Owner) (h : own.KeepsFaults) (r : Request) (s : State) :
    FaultsKeptBy s (finish s (takeRequest code (some own) r s)) :=
  faultsKeptBy_finish (faultsKept_takeRequest code _ (fun _ h' => Option.some.inj h' ▸ h) r s)

theorem faultsKeptBy_frame (role : Role) (station : Option Nat) (f : Frame) (s : State) :
    FaultsKeptBy s (finish s (takeFrame role station f s)) :=
  faultsKeptBy_finish (faultsKept_takeFrame role station f s)

/-- Every command keeps the laws of the list. -/
theorem faultsKeptBy_exec (c : Instr) (s : State) : FaultsKeptBy s (exec c s) :=
  match c with
  | .read r => faultsKeptBy_request _ _ keepsFaults_readOwner r s
  | .key r => faultsKeptBy_request _ _ keepsFaults_keyOwner r s
  | .restart r => faultsKeptBy_request _ _ keepsFaults_restartOwner r s
  | .clearFaults r => faultsKeptBy_request _ _ keepsFaults_clearFaultsOwner r s
  | .writeImage r => faultsKeptBy_request _ _ keepsFaults_writeImageOwner r s
  | .ackWarning r => faultsKeptBy_request _ _ keepsFaults_ackWarningOwner r s
  | .teachLimit r => faultsKeptBy_request _ _ keepsFaults_teachLimitOwner r s
  | .setLimit r => faultsKeptBy_request _ _ keepsFaults_setLimitOwner r s
  | .enableLimit r => faultsKeptBy_request _ _ keepsFaults_enableLimitOwner r s
  | .disableLimit r => faultsKeptBy_request _ _ keepsFaults_disableLimitOwner r s
  | .release r => faultsKeptBy_request _ _ keepsFaults_releaseOwner r s
  | .override r => faultsKeptBy_request _ _ keepsFaults_overrideOwner r s
  | .resume r => faultsKeptBy_request _ _ keepsFaults_resumeOwner r s
  | .benchmark r => faultsKeptBy_request _ _ keepsFaults_benchmarkOwner r s
  | .setGrade r => faultsKeptBy_request _ _ keepsFaults_setGradeOwner r s
  | .powerMode r => faultsKeptBy_request _ _ keepsFaults_powerModeOwner r s
  | .tableRecall r => faultsKeptBy_request _ _ keepsFaults_tableRecallOwner r s
  | .setClock r => faultsKeptBy_request _ _ keepsFaults_setClockOwner r s
  | .setTrim r => faultsKeptBy_request _ _ keepsFaults_setTrimOwner r s
  | .setMeter r => faultsKeptBy_request _ _ keepsFaults_setMeterOwner r s
  | .serviceDone r => faultsKeptBy_request _ _ keepsFaults_serviceDoneOwner r s
  | .ackReminder r => faultsKeptBy_request _ _ keepsFaults_ackReminderOwner r s
  | .unknownRequestCode code r => faultsKeptBy_finish (faultsKept_takeByCode code r s)
  | .requestFragment station f => faultsKeptBy_finish (faultsKept_takeFragment station f s)
  | .poseInputArrival role f => faultsKeptBy_frame role.role none f s
  | .engineRun f => faultsKeptBy_frame .engineRun none f s
  | .engineFuel f => faultsKeptBy_frame .engineFuel none f s
  | .coolant f => faultsKeptBy_frame .coolant none f s
  | .pump f => faultsKeptBy_frame .pump none f s
  | .pilot f => faultsKeptBy_frame .pilot none f s
  | .valveCut f => faultsKeptBy_frame .valveCut none f s
  | .extCut station f => faultsKeptBy_frame .extCut (some station) f s
  | .timeSync f => faultsKeptBy_frame .timeSync none f s
  | .topicClash topic => faultsKeptBy_finish (faultsKept_clashHeard topic s)
  | .staleLimitPassed entry => faultsKeptBy_finish (faultsKept_staleEntry entry s)
  | .lostLimitPassed entry => faultsKeptBy_finish (faultsKept_lostEntry entry s)
  | .degradedTimerExpiry => faultsKeptBy_ite (faultsKept_degradedExpired s)
  | .confirmTimerExpiry => faultsKeptBy_ite (faultsKept_confirmExpired s)
  | .overrideTimerExpiry sequence =>
    faultsKeptBy_ite (.same (interventionEvent_diag _ (overrideExpired_diag sequence) s))
  | .stageTimerExpiry => faultsKeptBy_ite (.same (stageExpired_diag s))
  | .waitTimerExpiry => faultsKeptBy_ite (.same (waitExpired_diag s))
  | .shutdownTimerExpiry => faultsKeptBy_ite (.same (shutdownExpired_diag s))
  | .resumeTimerExpiry => faultsKeptBy_ite (.same (resumeExpired_diag s))
  | .grantExpiry _ | .lockoutExpiry _ => faultsKeptBy_same rfl
  | .cutDemandPeriod | .guidancePeriod | .engineReqPeriod | .metersPeriod | .statusPeriod =>
    faultsKeptBy_same (periodic_diag _ s)
  | .clockCount => faultsKeptBy_finish (faultsKept_clockCounted s)
  | .oscillatorStop => faultsKeptBy_finish (faultsKept_oscillatorStopped s)
  | .oscillatorRestart => faultsKeptBy_finish (faultsKept_oscillatorRestarted s)
  | .supplyDrop => faultsKeptBy_finish (faultsKept_supplyDropped s)
  | .detectorRearm => faultsKeptBy_same (detectorRearmed_diag s)
  | .storeWriteComplete => faultsKeptBy_ite (faultsKept_writeCompleted s)
  | .frameTransmitted => faultsKeptBy_same (frameSent_diag s)
  | .transmitAttemptFailed error => faultsKeptBy_same (attemptFailed_diag error s)
  | .busOff => faultsKeptBy_finish (faultsKept_busWentOff s)
  | .busRecovery => faultsKeptBy_finish (faultsKept_busRecovered s)
  | .batteryConnect keyOn straps => faultsKeptBy_finish (faultsKept_batteryConnected keyOn straps s)
  | .keepAliveSupplyLoss => faultsKeptBy_finish (faultsKept_keepAliveLost s)
  | .mainSupplyLoss => faultsKeptBy_finish (faultsKept_mainSupplyLost s)
  | .keyOn straps => faultsKeptBy_finish (faultsKept_keyTurnedOn straps s)
  | .keyOff => faultsKeptBy_finish (faultsKept_keyTurnedOff s)
  | .shutdownComplete => faultsKeptBy_finish (faultsKept_shutdownCompleted s)
  | .restartBegin => faultsKeptBy_finish (faultsKept_restartBegun s)
  | .listenEnd => faultsKeptBy_finish (faultsKept_listenEnded s)

theorem faultsKept_step {s t : State} (h : step s = .next t) : FaultsKept s t := by
  unfold step at h
  split at h
  next c rest _ => exact (faultsKeptBy_exec c { s with pending := rest } t h).after rfl
  next =>
    cases h
    exact .same (tick_diag s)

/-- Settles O9: every command keeps both laws of the list, and time's passing leaves it alone. -/
theorem stepKeepsFaultLaw : Obligations.StepKeepsFaultLaw := by
  refine ⟨fun s t hlaw hstep => ?_, fun s t hlaw hwaits hstep => ?_⟩
  · rw [faultLaw_iff] at hlaw ⊢
    exact (faultsKept_step hstep).law hlaw
  · rw [faultLaw_iff] at hlaw
    rw [unenteredLaw_iff] at hwaits ⊢
    exact (faultsKept_step hstep).waits hlaw hwaits

end Sys2Proof.Machine
end

section
/-! PROOFS. What the commands outside the supplies, the key, the starts and a clash leave alone: the lines, and, but
for the end of a store write, the nonvolatile array (R181 to R183, R187, R188). -/

namespace Sys2Proof.Machine

/-! ## Effects that act where they are due -/

theorem frame_whenDue (timer : Option Nat) (f : State → State) (s : State) (h : frame (f s) = frame s) :
    frame (whenDue timer f s) = frame s := by
  unfold whenDue
  split
  · exact h
  · rfl

theorem frame_overrideTimer (n : Nat) (s : State) :
    frame (if s.intervention.list.any (fun r => r.seq == n && overrideDue s.now r) then
      interventionEvent (Work.overrideExpired n) s else s) = frame s := by
  split
  · exact frame_interventionEvent _ (frame_overrideExpired n) s
  · rfl

theorem lines_storeWriteEnd (s : State) : lines (if writeDue s then writeCompleted s else s) = lines s := by
  split
  · exact lines_writeCompleted s
  · rfl

/-! ## The end of an event -/

/-- Two states have one array where their stores differ at most in the jobs. -/
theorem arrayOf_eq_iff (s t : State) : arrayOf t = arrayOf s
    ↔ { t.store with queue := s.store.queue, writing := s.store.writing } = s.store := by
  constructor
  · exact congrArg fun a : ParameterStore => { a with queue := s.store.queue, writing := s.store.writing }
  · exact congrArg fun a : ParameterStore => { a with queue := [], writing := none }

theorem EventEnd.arrayOf_eq {s t : State} (h : EventEnd s t) : arrayOf t = arrayOf s := (arrayOf_eq_iff s t).2 h.array

/-! ## Every command -/

/-- The command is an event whose effect keeps what `view` shows, before the event's end. -/
def EffectKeeps {α : Type} (view : State → α) (s : State) (o : Host.Outcome State Fault Refusal) : Prop :=
  ∃ before after, o = finish before after ∧ view after = view s

theorem EffectKeeps.of_effect {α : Type} {view : State → α} {s before after : State} (h : view after = view s) :
    EffectKeeps view s (finish before after) := ⟨before, after, rfl, h⟩

theorem effectKeeps_request (code : Byte) (own : Owner) (h : own.framed) (r : Request) (s : State) :
    EffectKeeps frame s (finish s (takeRequest code (some own) r s)) :=
  .of_effect (frame_takeRequest code _ (fun _ h' => Option.some.inj h' ▸ h) r s)

theorem effectKeeps_arrival (role : Role) (station : Option Nat) (f : Frame) (s : State) :
    EffectKeeps frame s (finish s (takeFrame role station f s)) := .of_effect (frame_takeFrame role station f s)

theorem effectKeeps_timer (timer : Option Nat) (f : State → State) (s : State) (h : frame (f s) = frame s) :
    EffectKeeps frame s (finish s (whenDue timer f s)) := .of_effect (frame_whenDue timer f s h)

/-- Every command but the line commands and the end of a store write leaves the lines and the array alone. -/
theorem effectKeeps_frame (c : Instr) (s : State) (hline : isLineCommand c = false)
    (hwrite : c ≠ .storeWriteComplete) : EffectKeeps frame s (exec c s) :=
  match c, hline, hwrite with
  | .read r, _, _ => effectKeeps_request _ _ framed_readOwner r s
  | .key r, _, _ => effectKeeps_request _ _ framed_keyOwner r s
  | .restart r, _, _ => effectKeeps_request _ _ framed_restartOwner r s
  | .clearFaults r, _, _ => effectKeeps_request _ _ framed_clearFaultsOwner r s
  | .writeImage r, _, _ => effectKeeps_request _ _ framed_writeImageOwner r s
  | .ackWarning r, _, _ => effectKeeps_request _ _ framed_ackWarningOwner r s
  | .teachLimit r, _, _ => effectKeeps_request _ _ framed_teachLimitOwner r s
  | .setLimit r, _, _ => effectKeeps_request _ _ framed_setLimitOwner r s
  | .enableLimit r, _, _ => effectKeeps_request _ _ framed_enableLimitOwner r s
  | .disableLimit r, _, _ => effectKeeps_request _ _ framed_disableLimitOwner r s
  | .release r, _, _ => effectKeeps_request _ _ framed_releaseOwner r s
  | .override r, _, _ => effectKeeps_request _ _ framed_overrideOwner r s
  | .resume r, _, _ => effectKeeps_request _ _ framed_resumeOwner r s
  | .benchmark r, _, _ => effectKeeps_request _ _ framed_benchmarkOwner r s
  | .setGrade r, _, _ => effectKeeps_request _ _ framed_setGradeOwner r s
  | .powerMode r, _, _ => effectKeeps_request _ _ framed_powerModeOwner r s
  | .tableRecall r, _, _ => effectKeeps_request _ _ framed_tableRecallOwner r s
  | .setClock r, _, _ => effectKeeps_request _ _ framed_setClockOwner r s
  | .setTrim r, _, _ => effectKeeps_request _ _ framed_setTrimOwner r s
  | .setMeter r, _, _ => effectKeeps_request _ _ framed_setMeterOwner r s
  | .serviceDone r, _, _ => effectKeeps_request _ _ framed_serviceDoneOwner r s
  | .ackReminder r, _, _ => effectKeeps_request _ _ framed_ackReminderOwner r s
  | .unknownRequestCode code r, _, _ => .of_effect (frame_takeByCode code r s)
  | .requestFragment station f, _, _ => .of_effect (frame_takeFragment station f s)
  | .poseInputArrival role f, _, _ => effectKeeps_arrival role.role none f s
  | .engineRun f, _, _ => effectKeeps_arrival .engineRun none f s
  | .engineFuel f, _, _ => effectKeeps_arrival .engineFuel none f s
  | .coolant f, _, _ => effectKeeps_arrival .coolant none f s
  | .pump f, _, _ => effectKeeps_arrival .pump none f s
  | .pilot f, _, _ => effectKeeps_arrival .pilot none f s
  | .valveCut f, _, _ => effectKeeps_arrival .valveCut none f s
  | .extCut station f, _, _ => effectKeeps_arrival .extCut (some station) f s
  | .timeSync f, _, _ => effectKeeps_arrival .timeSync none f s
  | .staleLimitPassed entry, _, _ => .of_effect (frame_staleEntry entry s)
  | .lostLimitPassed entry, _, _ => .of_effect (frame_lostEntry entry s)
  | .degradedTimerExpiry, _, _ => effectKeeps_timer _ _ s (frame_degradedExpired s)
  | .confirmTimerExpiry, _, _ => effectKeeps_timer _ _ s (frame_confirmExpired s)
  | .overrideTimerExpiry sequence, _, _ => .of_effect (frame_overrideTimer sequence s)
  | .stageTimerExpiry, _, _ => effectKeeps_timer _ _ s (frame_stageExpired s)
  | .waitTimerExpiry, _, _ => effectKeeps_timer _ _ s (frame_waitExpired s)
  | .shutdownTimerExpiry, _, _ => effectKeeps_timer _ _ s (frame_shutdownExpired s)
  | .resumeTimerExpiry, _, _ => effectKeeps_timer _ _ s (frame_resumeExpired s)
  | .grantExpiry _, _, _ | .lockoutExpiry _, _, _ => .of_effect (frame_setGrants _ s)
  | .cutDemandPeriod, _, _ | .guidancePeriod, _, _ | .engineReqPeriod, _, _ | .metersPeriod, _, _
  | .statusPeriod, _, _ => .of_effect (frame_periodic _ s)
  | .clockCount, _, _ => .of_effect (frame_clockCounted s)
  | .oscillatorStop, _, _ => .of_effect (frame_oscillatorStopped s)
  | .oscillatorRestart, _, _ => .of_effect (frame_oscillatorRestarted s)
  | .frameTransmitted, _, _ => .of_effect (frame_frameSent s)
  | .transmitAttemptFailed error, _, _ => .of_effect (frame_attemptFailed error s)
  | .busOff, _, _ => .of_effect (frame_busWentOff s)
  | .busRecovery, _, _ => .of_effect (frame_busRecovered s)
  | .storeWriteComplete, _, hwrite => absurd rfl hwrite

/-- Every command but the line commands leaves the lines alone: the end of a store write moves the array, not them. -/
theorem effectKeeps_lines (c : Instr) (s : State) (hline : isLineCommand c = false) :
    EffectKeeps lines s (exec c s) := by
  by_cases hwrite : c = .storeWriteComplete
  · subst hwrite
    exact .of_effect (lines_storeWriteEnd s)
  · obtain ⟨before, after, hexec, hframe⟩ := effectKeeps_frame c s hline hwrite
    exact ⟨before, after, hexec, congrArg Prod.fst hframe⟩

/-- Settles O16: no such command's effect moves the lines, and the event's end moves of them CUTOUT alone. -/
theorem commandsKeepLines : Obligations.CommandsKeepLines := by
  intro c s t hline hexec
  obtain ⟨before, after, hfinish, hlines⟩ := effectKeeps_lines c s hline
  cases hfinish.symm.trans hexec
  have hend := eventEnd_settle before after
  obtain ⟨hnow, -, -, hpending⟩ := hend.time
  obtain ⟨hpower, hlimp, hstation, hheld, hlisten, -, harmed, hkey, hstraps⟩ := hend.supply
  obtain ⟨hconfig, hgood, -⟩ := hend.image
  simp only [lines, Prod.mk.injEq] at hlines
  obtain ⟨⟨hnow', hpower', hpins, hpending'⟩, ⟨hstation', hlimp', hheld', hlisten'⟩, harmed', hconfig', hgood'⟩ :=
    hlines
  exact ⟨hnow.trans hnow', hpower.trans hpower', hpending.trans hpending', hstation.trans hstation',
    hlimp.trans hlimp', hheld.trans hheld', hlisten.trans hlisten', harmed.trans harmed', hconfig.trans hconfig',
    hgood.trans hgood', hkey.trans (congrArg Pins.keyOn hpins), hstraps.trans (congrArg Pins.straps hpins)⟩

/-- Settles O17: no such command's effect touches the array, and the event's end begins a write without touching it. -/
theorem onlyWritesChangeArray : Obligations.OnlyWritesChangeArray := by
  intro c s t hline hwrite hexec
  obtain ⟨before, after, hfinish, hframe⟩ := effectKeeps_frame c s hline hwrite
  cases hfinish.symm.trans hexec
  exact (arrayOf_eq_iff s _).1 ((eventEnd_settle before after).arrayOf_eq.trans (congrArg Prod.snd hframe))

end Sys2Proof.Machine
end

section
/-! PROOFS. The Access Table: the entry that serves a station, the level that it gives, KEY with its refusals, and
the ends of grants and lockouts (R192, R193). -/

namespace Sys2Proof.Machine

/-! ## The entry of a station -/

theorem serves_iff (st : Nat) (g : Grant) : g.serves st = true ↔ g.station = some st := beq_iff_eq

theorem free_iff (g : Grant) : g.free = true ↔ g.level = none ∧ g.lockout = none := by
  simp [Grant.free]

/-- The look-ups of an entry read the Access Table alone. -/
theorem grantOf_congr {s u : State} (h : u.access = s.access) (st : Nat) : grantOf u st = grantOf s st := by
  simp only [grantOf, h]

theorem grantFor_congr {s u : State} (h : u.access = s.access) (st : Nat) : grantFor u st = grantFor s st := by
  simp only [grantFor, grantOf_congr h, h]

theorem imageKey_congr {s u : State} (h : u.config = s.config) (need : OwnerLevel) :
    imageKey u need = imageKey s need := by
  cases need <;> simp only [imageKey, h]

section
variable {st : Nat} {s : State}

theorem grantOf_none (h : ∀ g ∈ s.access, g.station ≠ some st) : grantOf s st = none := by
  rw [grantOf, indexOf?_none _ _ fun g hg => Bool.eq_false_iff.2 (mt (serves_iff st g).1 (h g hg))]

theorem grantOf_least {i : Nat} {g : Grant} (hg : s.access[i]? = some g) (hst : g.station = some st)
    (hleast : ∀ j h, s.access[j]? = some h → h.station = some st → i ≤ j) : grantOf s st = some (i, g) := by
  obtain ⟨hindex, hfind⟩ := indexOf?_least (Grant.serves st) _ i g hg ((serves_iff st g).2 hst)
    fun j h hj hserves => hleast j h hj ((serves_iff st h).1 hserves)
  rw [grantOf, hindex, hfind]

/-- A station without an entry takes the free entry of lowest index. -/
theorem grantFor_of_grantOf_none (h : grantOf s st = none) :
    grantFor s st = (indexOf? Grant.free s.access).map fun i => (i, ⟨some st, none, none, 0, none⟩) := by
  rw [grantFor, h]
  rfl

theorem grantFor_full (h : grantOf s st = none) (hfull : ∀ g ∈ s.access, ¬ (g.level = none ∧ g.lockout = none)) :
    grantFor s st = none := by
  rw [grantFor_of_grantOf_none h,
    indexOf?_none _ _ fun g hg => Bool.eq_false_iff.2 (mt (free_iff g).1 (hfull g hg))]
  rfl

theorem grantFor_free (h : grantOf s st = none) {i : Nat} {g : Grant} (hg : s.access[i]? = some g)
    (hfree : g.level = none ∧ g.lockout = none)
    (hleast : ∀ j h, s.access[j]? = some h → h.level = none ∧ h.lockout = none → i ≤ j) :
    grantFor s st = some (i, ⟨some st, none, none, 0, none⟩) := by
  obtain ⟨hindex, -⟩ := indexOf?_least Grant.free _ i g hg ((free_iff g).2 hfree)
    fun j h hj hfree => hleast j h hj ((free_iff h).1 hfree)
  rw [grantFor_of_grantOf_none h, hindex]
  rfl

end

/-! ## Levels (R192) -/

theorem levelOf_num (l : Level) : levelOf l.num = some l := by cases l <;> rfl

theorem levelOf_none (n : Nat) (h : 2 < n) : levelOf n = none := by
  match n with
  | n + 3 => rfl

theorem levelAt_granted (s : State) (st : Nat) (l : OwnerLevel)
    (h : (s.access.find? (Grant.serves st)).bind (·.level) = some l) : levelAt s st = ownerLevel l := by
  rw [levelAt, h]
  cases l <;> rfl

theorem levelAt_ungranted (s : State) (st : Nat)
    (h : (s.access.find? (Grant.serves st)).bind (·.level) = none) : levelAt s st = .operator := by
  rw [levelAt, h]

theorem checkLevel_operator (t : Ticket) (s : State) (rest : State → Answer) :
    checkLevel .operator t s rest = rest s := by
  have hholds : holds s t.station .operator = true := decide_eq_true (Nat.zero_le _)
  rw [checkLevel, if_pos hholds]
  rfl

/-! ## Changes of a station's entries -/

/-- A conditional change of a station's entries, with both conditions in one. -/
theorem mapWhere_serves_ite (st : Nat) (p : Grant → Bool) (f : Grant → Grant) (l : List Grant) :
    mapWhere (Grant.serves st) (fun g => if p g = true then f g else g) l
      = l.map fun g => if g.station = some st ∧ p g = true then f g else g := by
  simp only [mapWhere, serves_iff, ite_and]

theorem renewGrant_eq (st : Nat) (s : State) : renewGrant st s = { s with
    access := s.access.map fun g => if g.station = some st ∧ g.level ≠ none then
      { g with expiry := some (s.now + 600000) } else g } := by
  simp only [renewGrant, mapWhere, grantTime, Bool.and_eq_true, serves_iff, Option.isSome_iff_ne_none]

/-! ## KEY (R193) -/

section
variable {t : Ticket} {a : List Byte} {s : State}

theorem keyOwner_badArgument (hlevel : 2 < argNat a 0) : keyOwner t a s = .reply .badArgument [] s := by
  rw [keyOwner, levelOf_none _ hlevel]
  rfl

theorem keyOwner_locked (hlevel : argNat a 0 ≤ 2) (hlocked : (grantOf s t.station).bind (·.2.lockout) ≠ none) :
    keyOwner t a s = .reply .refusedLocked [] s := by
  obtain ⟨l, hl⟩ : ∃ l : Level, argNat a 0 = l.num := by
    match argNat a 0, hlevel with
    | 0, _ => exact ⟨.operator, rfl⟩
    | 1, _ => exact ⟨.supervisor, rfl⟩
    | 2, _ => exact ⟨.technician, rfl⟩
  rw [keyOwner, hl, levelOf_num]
  exact if_pos (Option.isSome_iff_ne_none.2 hlocked)

section
variable (hopen : (grantOf s t.station).bind (·.2.lockout) = none)
include hopen

theorem keyOwner_operator (hlevel : argNat a 0 = 0) : keyOwner t a s = .reply .done [0#8] (setGrants
    (s.access.map fun g => if g.station = some t.station then { g with level := none, expiry := none } else g) s) := by
  rw [keyOwner, hlevel, levelOf, hopen]
  simp only [mapWhere, serves_iff]
  rfl

theorem keyOwner_checksKey (need : OwnerLevel) (hlevel : argNat a 0 = (ownerLevel need).num) :
    keyOwner t a s = checkKey need (argU32 a 1) t s := by
  rw [keyOwner, hlevel, levelOf_num, hopen]
  cases need <;> rfl

end

theorem checkKey_full (need : OwnerLevel) (code : BitVec 32) (h : grantFor s t.station = none) :
    checkKey need code t s = .reply .refusedFull [] s := by
  rw [checkKey, h]
  rfl

/-- With an entry to use, a key of 0 is refused without a count, the right code grants, and a wrong one counts. -/
theorem checkKey_found (need : OwnerLevel) (code : BitVec 32) {i : Nat} {g : Grant}
    (h : grantFor s t.station = some (i, g)) : checkKey need code t s =
      if imageKey s need = 0 then .reply .refusedKey [] (setGrants (s.access.set i g) s)
      else if code = imageKey s need then
        .reply .done ([byte (ownerLevel need).num] ++ le 2 600) (setGrants (s.access.set i
          { g with level := some need, expiry := some (s.now + 600000), failures := 0 }) s)
      else .reply .refusedKey [] (setGrants (s.access.set i (g.failed s.now)) s) := by
  simp only [checkKey, h, beq_iff_eq]
  rfl

end

/-! ## The commands -/

section
variable {r : Request} {s : State} (ht : taken 2#8 r s = true)
include ht

/-- A taken KEY is answered as its owner answers on the recorded state. -/
theorem exec_key_of_owner {res : Result} {data : List Byte} {u : State}
    (ho : keyOwner (ticketOf 2#8 r s) r.args (noted r s) = .reply res data u) :
    exec (.key r) s = repliedWith 2#8 res data r s u := repliedWith_of_owner 2#8 keyOwner _ r s u res data ht rfl ho

theorem exec_key_badArgument (hlevel : 2 < argNat r.args 0) :
    exec (.key r) s = repliedWith 2#8 .badArgument [] r s (noted r s) :=
  exec_key_of_owner ht (keyOwner_badArgument hlevel)

theorem exec_key_locked (hlevel : argNat r.args 0 ≤ 2)
    (hlocked : (grantOf s r.station).bind (·.2.lockout) ≠ none) :
    exec (.key r) s = repliedWith 2#8 .refusedLocked [] r s (noted r s) :=
  exec_key_of_owner ht (keyOwner_locked hlevel (by rwa [grantOf_congr (noted_access r s)]))

section
variable (hopen : (grantOf s r.station).bind (·.2.lockout) = none)
include hopen

theorem exec_key_operator (hlevel : argNat r.args 0 = 0) :
    exec (.key r) s = doneWith 2#8 [0#8] r s { noted r s with
      access := s.access.map fun g =>
        if g.station = some r.station then { g with level := none, expiry := none } else g } := by
  have ho := keyOwner_operator (t := ticketOf 2#8 r s) (s := noted r s)
    (by rwa [grantOf_congr (noted_access r s)]) hlevel
  rw [noted_access] at ho
  exact exec_key_of_owner ht ho

theorem exec_key_full (need : OwnerLevel) (hlevel : argNat r.args 0 = (ownerLevel need).num)
    (hfull : grantFor s r.station = none) :
    exec (.key r) s = repliedWith 2#8 .refusedFull [] r s (noted r s) := by
  refine exec_key_of_owner ht ((keyOwner_checksKey ?_ need hlevel).trans (checkKey_full _ _ ?_))
  · rwa [grantOf_congr (noted_access r s)]
  · rwa [grantFor_congr (noted_access r s)]

/-- KEY of an open station for a level above Operator, with an entry to use. -/
theorem exec_key_found (need : OwnerLevel) {i : Nat} {g : Grant}
    (hlevel : argNat r.args 0 = (ownerLevel need).num) (hg : grantFor s r.station = some (i, g)) :
    exec (.key r) s =
      if imageKey s need = 0 then
        repliedWith 2#8 .refusedKey [] r s { noted r s with access := s.access.set i g }
      else if argU32 r.args 1 = imageKey s need then
        doneWith 2#8 ([byte (ownerLevel need).num] ++ le 2 600) r s { noted r s with
          access := s.access.set i { g with level := some need, expiry := some (s.now + 600000), failures := 0 } }
      else repliedWith 2#8 .refusedKey [] r s { noted r s with access := s.access.set i (g.failed s.now) } := by
  have ho : keyOwner (ticketOf 2#8 r s) r.args (noted r s) = _ :=
    (keyOwner_checksKey (by rwa [grantOf_congr (noted_access r s)]) need hlevel).trans
      (checkKey_found _ _ ((grantFor_congr (noted_access r s) _).trans hg))
  rw [imageKey_congr (noted_config r s), noted_access, noted_now] at ho
  split
  next hzero => exact exec_key_of_owner ht (ho.trans (if_pos hzero))
  next hkey =>
    rw [if_neg hkey] at ho
    split
    next hcode => exact exec_key_of_owner ht (ho.trans (if_pos hcode))
    next hcode => exact exec_key_of_owner ht (ho.trans (if_neg hcode))

end

end

theorem exec_grantExpiry (st : Nat) (s : State) :
    exec (.grantExpiry st) s = .next (settle s (setGrants (s.access.map fun g =>
      if g.station = some st ∧ due s.now g.expiry = true then { g with level := none, expiry := none }
      else g) s)) :=
  congrArg (fun l => Host.Outcome.next (settle s (setGrants l s)))
    (mapWhere_serves_ite st (fun g => due s.now g.expiry) (fun g => { g with level := none, expiry := none }) _)

theorem exec_lockoutExpiry (st : Nat) (s : State) :
    exec (.lockoutExpiry st) s = .next (settle s (setGrants (s.access.map fun g =>
      if g.station = some st ∧ due s.now g.lockout = true then { g with lockout := none, failures := 0 }
      else g) s)) :=
  congrArg (fun l => Host.Outcome.next (settle s (setGrants l s)))
    (mapWhere_serves_ite st (fun g => due s.now g.lockout) (fun g => { g with lockout := none, failures := 0 }) _)

/-- Settles O34: KEY by its level code, the lockout, the entry and the key; the look-up of the entry; the ends of grants
and lockouts; and the level that an entry gives. -/
theorem accessTableChanges : Obligations.AccessTableChanges := by
  refine ⟨fun r s ht hopen => ⟨exec_key_operator ht hopen, fun need i g hlevel hg hkey hcode => ?_⟩,
    fun r s need i g ht hopen hlevel hg hkey hcode => ?_,
    fun r s ht => ⟨exec_key_badArgument ht, exec_key_locked ht, fun hopen hlevel hfull => ?_,
      fun need i g hopen hlevel hg hkey => ?_⟩,
    fun st s => ⟨grantOf_none, fun i g hg hst hleast => ?_,
      fun hnone => ⟨grantFor_full (grantOf_none hnone), fun i g => grantFor_free (grantOf_none hnone)⟩⟩,
    fun st s => ⟨exec_grantExpiry st s, exec_lockoutExpiry st s⟩, renewGrant_eq, fun r s => rfl,
    fun need t s rest => ⟨checkLevel_passed need t s rest, fun hneed => ?_, checkLevel_refused need t s rest⟩,
    fun s st => ⟨fun need => decide_eq_true_iff, levelAt_granted s st, levelAt_ungranted s st⟩⟩
  · rw [exec_key_found ht hopen need hlevel hg, if_neg hkey, if_pos hcode]
  · rw [exec_key_found ht hopen need hlevel hg, if_neg hkey, if_neg hcode]
    rfl
  · rcases hlevel with hlevel | hlevel
    · exact exec_key_full ht hopen .supervisor hlevel hfull
    · exact exec_key_full ht hopen .technician hlevel hfull
  · rw [exec_key_found ht hopen need hlevel hg, if_pos hkey]
  · have hown := grantOf_least hg hst hleast
    exact ⟨hown, by rw [grantFor, hown]⟩
  · rw [hneed, checkLevel_operator]

end Sys2Proof.Machine
end

section
/-! PROOFS. A step runs the command at the front of the queue, and keeps the image blocks of both copies in canonical
form: only a write of a block, complete or cut off, moves them (R181, R183, R187, R190; log 7, 8). -/

namespace Sys2Proof.Machine

/-! ## A step -/

/-- Settles O1: the arm of `step` for a queue with a front. -/
theorem stepRunsFrontCommand : Obligations.StepRunsFrontCommand := by
  intro s c rest hqueue
  rw [step, hqueue]

theorem step_empty (s : State) (h : s.pending = []) : step s = .next (tick s) := by
  rw [step, h]

/-! ## The canonical form of an array -/

/-- The blocks of both copies are in canonical form. -/
def ParameterStore.Canonical (p : ParameterStore) : Prop :=
  blocksWf p.image0.blocks = true ∧ blocksWf p.image1.blocks = true

theorem imageLaw_iff (s : State) : imageLaw s = true ↔ s.store.Canonical := Bool.and_eq_true_iff

section
variable {p : ParameterStore} (h : p.Canonical)
include h

theorem ParameterStore.Canonical.modifyStaging (f : ImageCopy → ImageCopy)
    (hf : ∀ i, blocksWf i.blocks = true → blocksWf (f i).blocks = true) : (p.modifyStaging f).Canonical := by
  obtain ⟨h0, h1⟩ := h
  unfold ParameterStore.modifyStaging
  split
  · exact ⟨h0, hf _ h1⟩
  · exact ⟨hf _ h0, h1⟩

/-- Of the completed writes only that of a block moves the image, and it writes the block as such. -/
theorem ParameterStore.Canonical.programmed (c : Content) (free : Nat) : (p.programmed c free).Canonical := by
  cases c with
  | imageBlock b w => exact h.modifyStaging _ fun i => i.blocksWf_write b w
  | checkpoint | gradeProfile | limitArea | history | serviceState | dayRecords => exact h

/-- Whatever word a cut-off write leaves in its block is written as such (log 10). -/
theorem ParameterStore.Canonical.spoiled (c : Content) (free : Nat) : (p.spoiled c free).Canonical := by
  cases c with
  | imageBlock b w => exact h.modifyStaging _ fun i => i.blocksWf_cutOff b free
  | checkpoint x =>
    unfold ParameterStore.spoiled
    dsimp only
    split <;> exact h
  | gradeProfile | limitArea | history | serviceState | dayRecords => exact h

end

/-- The form is that of the array without its jobs. -/
theorem canonical_of_array {s t : State} (harray : arrayOf t = arrayOf s) (h : s.store.Canonical) :
    t.store.Canonical :=
  show (arrayOf t).Canonical from harray ▸ h

theorem canonical_of_frame {s t : State} (hframe : frame t = frame s) (h : s.store.Canonical) : t.store.Canonical :=
  canonical_of_array (congrArg Prod.snd hframe) h

/-! ## The end of a start -/

theorem arrayOf_thenKeyOff (s : State) : arrayOf (thenKeyOff s) = arrayOf s := by
  unfold thenKeyOff
  split
  · exact congrArg Prod.snd (frame_takeKeyOff _)
  · rfl

theorem arrayOf_entered (clash : Bool) (s : State) : arrayOf (entered clash s) = arrayOf s := by
  unfold entered
  split
  · rfl
  · exact congrArg Prod.snd (frame_enteredRunning s)

theorem arrayOf_endStart (clash : Bool) (s : State) : arrayOf (endStart clash s) = arrayOf s := by
  rw [endStart_eq, arrayOf_thenKeyOff, arrayOf_entered]

/-! ## The commands that may move the lines -/

section
variable {s : State} (h : s.store.Canonical)
include h

/-- A start moves only the staging selection and the jobs. -/
theorem canonical_beginStart : (beginStart s).store.Canonical := by
  obtain ⟨p, c, ends, cut, bus, m, d, q, hleft, -, -⟩ := beginStart_left s
  have hbuilt : (startBuilt s).store.Canonical := by
    rw [(startBuilt_restored s).store]
    exact h
  rw [hleft]
  exact hbuilt

theorem canonical_startIfKeyOn : (startIfKeyOn s).store.Canonical := by
  unfold startIfKeyOn
  split
  · exact canonical_beginStart h
  · exact h

theorem canonical_cutOffStore : (cutOffStore s).store.Canonical := by
  cases hwriting : s.store.writing with
  | none =>
    rw [cutOffStore_idle s hwriting]
    exact h
  | some w =>
    rw [cutOffStore_writing s w hwriting]
    exact h.spoiled w.content s.freeCount

theorem canonical_batteryConnected (keyOn : Bool) (straps : BitVec 5) :
    (batteryConnected keyOn straps s).store.Canonical := by
  unfold batteryConnected
  split
  · exact canonical_startIfKeyOn h
  · exact h

theorem canonical_keepAliveLost : (keepAliveLost s).store.Canonical := by
  unfold keepAliveLost
  split
  · exact h
  · exact canonical_cutOffStore h

theorem canonical_mainSupplyLost : (mainSupplyLost s).store.Canonical := by
  unfold mainSupplyLost
  split
  · exact canonical_cutOffStore h
  · exact h

theorem canonical_keyTurnedOn (straps : BitVec 5) : (keyTurnedOn straps s).store.Canonical := by
  unfold keyTurnedOn
  dsimp only
  split
  · exact canonical_beginStart h
  · exact h

theorem canonical_keyTurnedOff : (keyTurnedOff s).store.Canonical := by
  rw [keyTurnedOff_eq]
  split
  · split
    · exact h
    · exact canonical_of_frame (frame_takeKeyOff _) h
  · split <;> exact h

theorem canonical_shutdownCompleted : (shutdownCompleted s).store.Canonical := by
  unfold shutdownCompleted
  split
  · exact canonical_startIfKeyOn h
  · exact h

theorem canonical_restartBegun : (restartBegun s).store.Canonical := by
  unfold restartBegun
  split
  · exact canonical_beginStart h
  · exact h

theorem canonical_listenEnded : (listenEnded s).store.Canonical := by
  unfold listenEnded
  split
  · exact canonical_of_array (arrayOf_endStart false s) h
  · exact h

theorem canonical_supplyDropped : (supplyDropped s).store.Canonical := by
  unfold supplyDropped
  dsimp only
  split
  · split
    · exact canonical_of_frame (frame_urgentCheckpoint _) h
    · exact h
  · exact h

theorem canonical_detectorRearmed : (detectorRearmed s).store.Canonical := by
  unfold detectorRearmed
  split <;> exact h

theorem canonical_clashHeard (topic : Nat) : (clashHeard topic s).store.Canonical := by
  have htold : (pulseFault .topicClash (.topic topic) s).store.Canonical := canonical_of_frame (frame_pulseFault ..) h
  unfold clashHeard
  dsimp only
  split
  · exact h
  · split
    · exact canonical_of_array (arrayOf_endStart true _) htold
    · split
      · split
        · exact canonical_of_frame (frame_enterHold _) htold
        · exact htold
      · exact h

/-! ## Every command -/

theorem canonical_writeCompleted : (writeCompleted s).store.Canonical := by
  unfold writeCompleted
  split
  · exact h
  next w _ =>
    refine canonical_of_frame ((frame_offerServiceJob _).trans ((frame_offerDayJob _).trans
      ((frame_offerPendingCheckpoint _).trans (frame_jobCompleted w _)))) ?_
    exact h.programmed w.content s.freeCount

theorem canonical_storeWriteEnd : (if writeDue s then writeCompleted s else s).store.Canonical := by
  split
  · exact canonical_writeCompleted h
  · exact h

end

/-- Whatever state the outcome answers has its image blocks in canonical form. -/
def CanonicalAfter (o : Host.Outcome State Fault Refusal) : Prop := ∀ t, o = .next t → t.store.Canonical

theorem canonicalAfter_finish {before after : State} (h : after.store.Canonical) :
    CanonicalAfter (finish before after) := by
  rintro _ ⟨⟩
  exact canonical_of_array (eventEnd_settle before after).arrayOf_eq h

section
variable {s : State} (h : s.store.Canonical)
include h

theorem canonicalAfter_line (c : Instr) (hline : isLineCommand c = true) : CanonicalAfter (exec c s) := by
  cases c with
  | topicClash topic => exact canonicalAfter_finish (canonical_clashHeard h topic)
  | supplyDrop => exact canonicalAfter_finish (canonical_supplyDropped h)
  | detectorRearm => exact canonicalAfter_finish (canonical_detectorRearmed h)
  | batteryConnect keyOn straps => exact canonicalAfter_finish (canonical_batteryConnected h keyOn straps)
  | keepAliveSupplyLoss => exact canonicalAfter_finish (canonical_keepAliveLost h)
  | mainSupplyLoss => exact canonicalAfter_finish (canonical_mainSupplyLost h)
  | keyOn straps => exact canonicalAfter_finish (canonical_keyTurnedOn h straps)
  | keyOff => exact canonicalAfter_finish (canonical_keyTurnedOff h)
  | shutdownComplete => exact canonicalAfter_finish (canonical_shutdownCompleted h)
  | restartBegin => exact canonicalAfter_finish (canonical_restartBegun h)
  | listenEnd => exact canonicalAfter_finish (canonical_listenEnded h)
  | _ => exact absurd hline Bool.false_ne_true

/-- A line command, the end of a write, or a command that leaves the array alone. -/
theorem canonicalAfter_exec (c : Instr) : CanonicalAfter (exec c s) := by
  cases hline : isLineCommand c with
  | true => exact canonicalAfter_line h c hline
  | false =>
    by_cases hwrite : c = .storeWriteComplete
    · subst hwrite
      exact canonicalAfter_finish (canonical_storeWriteEnd h)
    · obtain ⟨before, after, hexec, hframe⟩ := effectKeeps_frame c s hline hwrite
      rw [hexec]
      exact canonicalAfter_finish (canonical_of_frame hframe h)

end

theorem tick_store (s : State) : (tick s).store = s.store := by
  unfold tick countPeriods
  dsimp only
  split <;> rfl

/-- Settles O10: every command keeps the form, and time's passing leaves the store alone. -/
theorem stepKeepsImageLaw : Obligations.StepKeepsImageLaw := by
  intro s t hs hstep
  rw [imageLaw_iff] at hs ⊢
  cases hqueue : s.pending with
  | nil =>
    rw [step_empty s hqueue] at hstep
    cases hstep
    rwa [tick_store]
  | cons c rest =>
    rw [stepRunsFrontCommand s c rest hqueue] at hstep
    exact canonicalAfter_exec (s := { s with pending := rest }) hs c t hstep

end Sys2Proof.Machine
end
